-- ==== Sys2Proof/Word.lean ====
section
/-! DEFINITION. The word types and the sparse table that the whole model uses for anything indexed by a number. -/
namespace Sys2Proof

/-- A byte of memory. -/
abbrev Byte := BitVec 8

/-- A general register of a sequencer, and an 8-byte fabric word. -/
abbrev Word := BitVec 64

/-- A sparse table: pairs of a key and a value, keys strictly rising, holding no default value
(`Tab.get` and `Tab.put`, in Machine/Tab.lean, know the default). Equal tables are equal data. -/
abbrev Tab (α : Type) := List (Nat × α)

/-- A run of bytes, lowest address first. -/
abbrev Bytes := List Byte

/-- Bits on a serial line, the first one first (R414). -/
abbrev Line := List Bool

end Sys2Proof
end

