-- ==== Sys2Proof/Syntax.lean ====
section
/-! DEFINITION. The commands of the block: one constructor per row of spec/opcode_table.json, with the operands the row
needs. The table gives its rows no bits (log 1). -/
namespace Sys2Proof

/-- A Cheul sequencer (R63): the marshal, or the sequencer of a physical traverse cluster. -/
inductive SeqId
  | marshal
  | cluster (phys : Nat)
  deriving DecidableEq, Repr

/-- The operand fields of a format K word (R115, R116). -/
structure KFmt where
  d : BitVec 5
  a : BitVec 5
  b : BitVec 5
  sub : BitVec 8
  imm : BitVec 35
  deriving DecidableEq, Repr

/-- The operand fields of a format J word (R115, R116). -/
structure JFmt where
  d : BitVec 5
  a : BitVec 5
  b : BitVec 5
  imm : BitVec 43
  deriving DecidableEq, Repr

/-- The operand fields of a format P word (R115, R116). -/
structure PFmt where
  d : BitVec 5
  a : BitVec 5
  b : BitVec 5
  cls : BitVec 5
  inst : BitVec 12
  queue : BitVec 3
  rsv : BitVec 23
  deriving DecidableEq, Repr

/-- The operand fields of a format T word (R115, R116). -/
structure TFmt where
  d : BitVec 5
  a : BitVec 5
  b : BitVec 5
  mode : BitVec 3
  rsv : BitVec 40
  deriving DecidableEq, Repr

/-- A clocked reference input (R618). -/
inductive RefId
  | a
  | b
  deriving DecidableEq, Repr

/-- Power states of the function (R627). -/
inductive PowerState
  | d0
  | d3hot
  deriving DecidableEq, Repr

/-- A write to the MSI-X table, or of the function's enable and mask bits (R632, R641). -/
inductive MsixWrite
  | table (off : Nat) (val : BitVec 32)
  | control (enable functionMask : Bool)
  deriving DecidableEq, Repr

/-- The result of one closed-loop measurement of a DRAM quantity (R545). -/
structure TrimResult where
  channel : Nat
  quantity : Nat
  low : Nat
  high : Nat
  deriving DecidableEq, Repr

/-- A stream lost (R187), `dt` ticks on. -/
structure LossAt where
  dt : Nat
  stream : Nat
  deriving DecidableEq, Repr

/-- A datum lost (R500), `dt` ticks on. -/
structure DatumLossAt where
  dt : Nat
  datum : Nat
  deriving DecidableEq, Repr

/-- A bite of the hold timer (R271): the resource, and the engine, by issue class and instance, whose transaction holds it
where no locked sequence does. -/
structure HoldBite where
  resource : Nat
  engine : Option (Nat × Nat)
  deriving DecidableEq, Repr

/-- The commands. A row of the Cheul table takes the executing sequencer and the operand fields of its word; a host
write takes what is written; an event takes what comes from outside the block. `dt` counts the CK_DAT ticks that
pass before the event (log 7). What arrives on a back-channel is the line bits since the link's latest such command, in whole
cells, the command's own cell last (log 76). -/
inductive Instr
  -- Cheul, R126 to R137
  | nop (q : SeqId) (f : JFmt)
  | halt (q : SeqId) (f : JFmt)
  | trap (q : SeqId) (f : JFmt)
  | fence (q : SeqId) (f : JFmt)
  | add (q : SeqId) (f : KFmt)
  | sub (q : SeqId) (f : KFmt)
  | mul (q : SeqId) (f : KFmt)
  | mulh (q : SeqId) (f : KFmt)
  | and (q : SeqId) (f : KFmt)
  | or (q : SeqId) (f : KFmt)
  | xor (q : SeqId) (f : KFmt)
  | shl (q : SeqId) (f : KFmt)
  | shr (q : SeqId) (f : KFmt)
  | sar (q : SeqId) (f : KFmt)
  | min (q : SeqId) (f : KFmt)
  | max (q : SeqId) (f : KFmt)
  | addi (q : SeqId) (f : JFmt)
  | ldi (q : SeqId) (f : JFmt)
  | ldhi (q : SeqId) (f : JFmt)
  | cmp (q : SeqId) (f : KFmt)
  | sel (q : SeqId) (f : KFmt)
  | ld (q : SeqId) (f : KFmt)
  | st (q : SeqId) (f : KFmt)
  | ldw32 (q : SeqId) (f : KFmt)
  | stw32 (q : SeqId) (f : KFmt)
  | cas (q : SeqId) (f : KFmt)
  | fadd (q : SeqId) (f : KFmt)
  | br (q : SeqId) (f : JFmt)
  | bc (q : SeqId) (f : JFmt)
  | call (q : SeqId) (f : JFmt)
  | ret (q : SeqId) (f : JFmt)
  | loop (q : SeqId) (f : JFmt)
  | issue (q : SeqId) (f : PFmt)
  | poll (q : SeqId) (f : PFmt)
  | wait (q : SeqId) (f : TFmt)
  | waitComplete (q : SeqId)
  | waitTimeout (q : SeqId)
  | signal (q : SeqId) (f : TFmt)
  | signalDelivery (target : SeqId)
  | clear (q : SeqId) (f : TFmt)
  | atTime (q : SeqId) (f : TFmt)
  | atComplete (dt : Nat) (q : SeqId)
  | atTimeout (q : SeqId)
  | stamp (q : SeqId) (f : TFmt)
  | setf (q : SeqId) (f : KFmt)
  | getf (q : SeqId) (f : KFmt)
  | setfv (q : SeqId) (f : KFmt)
  | svc (q : SeqId) (f : KFmt)
  | commitLayerSet (q : SeqId) (f : KFmt)
  | commitFrameProgram (q : SeqId) (f : KFmt)
  | log (q : SeqId) (f : KFmt)
  | gearQueryLink (q : SeqId) (f : KFmt)
  | gearRequest (q : SeqId) (f : KFmt)
  | gearQueryCluster (q : SeqId) (f : KFmt)
  | lockstepError
  | marshalResume
  -- host register writes and reads
  | fieldWrite (off : Nat) (eight : Bool) (val : BitVec 64)
  | rcFieldRead (off : Nat) (eight : Bool)
  | datumLowWordRead (off : Nat)
  | mshDoorbellWrite (val : BitVec 16)
  | clogIdxTailWrite (val : BitVec 16)
  | clogClearOvf (val : Bool)
  | portEnableWrite (p : Nat) (val : Bool)
  | portSplitWrite (p : Nat) (val : Bool)
  | clipStop (val : BitVec 2)
  | arbHoldLimitWrite (val : BitVec 16)
  | dramGrpRestore (g : Nat) (trainOk : Bool)
  | dramRestoreComplete (g : Nat)
  | trvCtrlRelease (c : Nat) (mask : BitVec 16)
  | guardCtrlRelease (mask : BitVec 32)
  | corrCtrlSwap (val : Bool)
  | laneAdaptRetry (n : Nat) (val : Bool)
  | svcSlotsTableHiWrite (n : Nat) (val : BitVec 32)
  | datumSelectWrite (val : Bool)
  | datumStepGo (d : Nat) (val : Bool)
  | ptpRxTailWrite (p : Nat) (val : BitVec 16)
  | ptpTxSend (p : Nat) (val : BitVec 16)
  | ptpFrameSent (p : Nat)
  | tsqPop (p : Nat) (val : Bool)
  | ftRestEnter (val : Bool)
  | ftRestExit (val : Bool)
  | fmLogTailWrite (val : BitVec 32)
  | fmLogClearOvf (val : Bool)
  | fmCtrlWarmReset (val : Bool)
  | fmEngineTarget (val : BitVec 17)
  | fmFirstClear (val : Bool)
  | nvmHostRead
  | nvmHostWrite
  | nvmHostTallyInc
  | nvmHostTallyRead
  | nvmHostUnlock (val : Bool)
  | nvmHostLock (val : Bool)
  | nvmHostCommandDone
  | rstCtrlWarm (val : Bool)
  | rstBootGo (val : Bool)
  | refCtrlSelectWrite (val : Bool)
  | hostBar2BaseWrite (val : BitVec 10)
  | msixTableWrite (w : MsixWrite)
  | corrWindowWrite (off : Nat) (eight : Bool) (val : BitVec 64)
  | bar0BadAccess (write : Bool) (len : Nat)
  | bar2Read (off len : Nat)
  | bar2Write (off : Nat) (data : List (Option Byte))
  | bar2WaitTimeout (write : Bool)
  | msixMessage
  | pciePerst
  | pcieHotReset
  -- codec
  | encode (c : Nat)
  | encoderBlockRow (c : Nat)
  | resume (c : Nat)
  | park (c : Nat)
  | abandon (c : Nat)
  | encoderStall (c : Nat)
  | decodeLayer (i : Nat)
  | decodeComplete (i : Nat)
  -- traverse
  | listStart (c : Nat)
  | shear (c : Nat)
  | shearBearingStart (c : Nat)
  | copy (c : Nat)
  | fill (c : Nat)
  | blend (c : Nat)
  | band (c : Nat)
  | note (c : Nat)
  | listNop (c : Nat)
  | bandBoundary
  | plotLoad (c queue : Nat)
  | engineDescriptorComplete (cls inst queue : Nat)
  | clusterFault (c kind trapCause : Nat)
  | spareStart (c : Nat)
  -- clip store, correction loader, trust, NVM engines
  | clipRecord
  | clipPlayback
  | copyIn
  | faultAdd
  | faultRemove
  | faultClear
  | corrResyncComplete
  | verifyLoad
  | verify
  | attest
  | record
  | cert
  | nvmRead (bank : Nat)
  | nvmWrite (bank : Nat)
  | nvmTallyInc (bank : Nat)
  | nvmTallyRead (bank : Nat)
  | nvmUnlock (bank : Nat)
  | nvmLock (bank : Nat)
  | nvmSetpw (bank : Nat)
  | nvmBenchSave (bank : Nat)
  | nvmPageCommit (bank : Nat)
  -- scene ingest
  | sceneFrameRx (p sub : Nat) (frame : Bytes)
  | arpRequest (p sub : Nat) (frame : Bytes)
  | neighborSolicitation (p sub : Nat) (frame : Bytes)
  | echoRequest (p sub : Nat) (frame : Bytes)
  | groupQuery (p sub : Nat) (frame : Bytes)
  | frameHead (p : Nat) (packet : Bytes)
  | cellHead (p : Nat) (packet : Bytes)
  | chunk (p : Nat) (packet : Bytes)
  | guard (p : Nat) (packet : Bytes)
  | layerDispatch
  | streamLoss (loss : LossAt)
  | assemblyDeadline (dt : Nat)
  -- time and frames
  | ptpRxFrame (p sub : Nat) (frame : Bytes)
  | datumLoss (loss : DatumLossAt)
  | datumSlewComplete (dt : Nat)
  | periodStart (dt : Nat)
  | periodStartTmax (dt : Nat)
  | periodStartLocked (dt : Nat)
  | firstPeriodStart (dt : Nat)
  | latchPoint (dt : Nat)
  | forcedLatch (dt : Nat)
  | gearChangeComplete (n : Nat)
  | showTimeReached (dt : Nat)
  | guardOutcome (r : Nat)
  | restEntry
  | restExit
  | restExitComplete
  -- lanes and tiles
  | laneWakeTimeout (n : Nat)
  | markerSend (n : Nat)
  | upstreamMarker (n : Nat) (line : Line)
  | laneAligned (n : Nat)
  | alignmentLoss (n : Nat)
  | bcLossOfSignal (n : Nat)
  | bcSweepComplete (n : Nat) (open_ : BitVec 64) (vertical : Nat)
  | svcPacketSend (n : Nat)
  | svcAckTimeout (n : Nat)
  | status (n : Nat) (line : Line)
  | fault (n : Nat) (line : Line)
  | temp (n : Nat) (line : Line)
  | crack (n : Nat) (line : Line)
  | ack (n : Nat) (line : Line)
  | eye (n : Nat) (line : Line)
  | failoverTrigger (n cause : Nat)
  | failoverRestore (n : Nat)
  -- DRAM, arbiter, slices
  | dramWriteGather (addr : Nat) (data : Bytes)
  | gatherTimeout (g line : Nat)
  | lineDrainComplete (g line : Nat)
  | dramChannelFail (ch cause : Nat)
  | refreshDebtTick (ch rank : Nat)
  | mr4Poll (ch mult : Nat)
  | powerDownEntry (ch rank : Nat)
  | selfRefreshEntry (ch rank : Nat)
  | holdTimerBite (bite : HoldBite)
  | commonSliceFail (k : Nat)
  -- health
  | thermalSample (t : Nat) (r0 r1 r2 : BitVec 16)
  | shutdownRailCut
  | thermalRelease
  | trimMeasurement (m : TrimResult)
  -- faults
  | faultDetected
  | faultHandled
  | safeStateSync (dt : Nat)
  | hubEngineFault (cls inst : Nat)
  -- reset, boot, clocks
  | powerOn
  | resetNRelease
  | pwrOkMainRise
  | mainPowerTimeout
  | pwrOkMainFall
  | warmReset
  | bootImageVerified
  | dramTrainingComplete (failed : BitVec 24)
  | referenceMissing (w : RefId)
  | holdoverExpiry
  | referenceReturn (w : RefId)
  -- test access
  | extest
  | idcode
  | samplePreload
  | extestPulse
  | extestTrain
  | clamp
  | highz
  | debugHalt
  | debugRelease
  | bypass
  | testLogicReset
  -- the rest of the table
  | illegalOpcode (q : SeqId) (op : BitVec 6)
  | instructionFetchFault (q : SeqId) (addr : BitVec 40) (uncorrectable : Bool)
  | portLinkChange (p : Nat) (link fec : BitVec 4)
  | hostLinkChange (speed width : Nat)
  | powerStateChange (p : PowerState)
  | powerLoss
  | m0Lock
  | imageFetchComplete (image : Bytes)
  | bootSectionsLoaded
  deriving DecidableEq, Repr

end Sys2Proof
end

