-- ==== Sys2Proof/Decode.lean ====
section
/-! DEFINITION. The decoder of the table's bits, which the table gives none of (log 1), and the Cheul instruction word:
its fields (R115, R116), its opcode map (R117), and the word of a command. -/
namespace Sys2Proof

/-- The command that a word spells by the table's bits. The table gives its rows no bits, so no word spells one. -/
def decodeTableWord (_nbits _w : Nat) : Option Instr := none

namespace Cheul

/-- Bits `[lo + w - 1 : lo]` of an instruction word. -/
def cut (x : BitVec 64) (lo w : Nat) : BitVec w := (x >>> lo).setWidth w

/-- R115: the opcode. -/
def opOf (x : BitVec 64) : BitVec 6 := cut x 58 6

/-- R116: the fields of a format K word. -/
def kOf (x : BitVec 64) : KFmt := ⟨cut x 53 5, cut x 48 5, cut x 43 5, cut x 35 8, cut x 0 35⟩

/-- R116: the fields of a format J word. -/
def jOf (x : BitVec 64) : JFmt := ⟨cut x 53 5, cut x 48 5, cut x 43 5, cut x 0 43⟩

/-- R116: the fields of a format P word. -/
def pOf (x : BitVec 64) : PFmt :=
  ⟨cut x 53 5, cut x 48 5, cut x 43 5, cut x 38 5, cut x 26 12, cut x 23 3, cut x 0 23⟩

/-- R116: the fields of a format T word. -/
def tOf (x : BitVec 64) : TFmt := ⟨cut x 53 5, cut x 48 5, cut x 43 5, cut x 40 3, cut x 0 40⟩

/-- R115, R116: a format K word. -/
def kWord (op : BitVec 6) (f : KFmt) : BitVec 64 := op ++ f.d ++ f.a ++ f.b ++ f.sub ++ f.imm

/-- R115, R116: a format J word. -/
def jWord (op : BitVec 6) (f : JFmt) : BitVec 64 := op ++ f.d ++ f.a ++ f.b ++ f.imm

/-- R115, R116: a format P word. -/
def pWord (op : BitVec 6) (f : PFmt) : BitVec 64 :=
  op ++ f.d ++ f.a ++ f.b ++ f.cls ++ f.inst ++ f.queue ++ f.rsv

/-- R115, R116: a format T word. -/
def tWord (op : BitVec 6) (f : TFmt) : BitVec 64 := op ++ f.d ++ f.a ++ f.b ++ f.mode ++ f.rsv

/-- R117, R164, R169: the command that a Cheul word spells when sequencer `q` executes it. COMMIT and GEAR are one row of
the table for each sub value; a COMMIT or GEAR whose sub is reserved keeps its first row, whose meaning traps (R118). -/
def decode (q : SeqId) (x : BitVec 64) : Instr :=
  match (opOf x).toNat with
  | 0x00 => .nop q (jOf x)
  | 0x01 => .halt q (jOf x)
  | 0x02 => .trap q (jOf x)
  | 0x03 => .fence q (jOf x)
  | 0x04 => .add q (kOf x)
  | 0x05 => .sub q (kOf x)
  | 0x06 => .mul q (kOf x)
  | 0x07 => .mulh q (kOf x)
  | 0x08 => .and q (kOf x)
  | 0x09 => .or q (kOf x)
  | 0x0A => .xor q (kOf x)
  | 0x0B => .shl q (kOf x)
  | 0x0C => .shr q (kOf x)
  | 0x0D => .sar q (kOf x)
  | 0x0E => .min q (kOf x)
  | 0x0F => .max q (kOf x)
  | 0x10 => .addi q (jOf x)
  | 0x11 => .ldi q (jOf x)
  | 0x12 => .ldhi q (jOf x)
  | 0x13 => .cmp q (kOf x)
  | 0x14 => .sel q (kOf x)
  | 0x18 => .ld q (kOf x)
  | 0x19 => .st q (kOf x)
  | 0x1A => .ldw32 q (kOf x)
  | 0x1B => .stw32 q (kOf x)
  | 0x1C => .cas q (kOf x)
  | 0x1D => .fadd q (kOf x)
  | 0x20 => .br q (jOf x)
  | 0x21 => .bc q (jOf x)
  | 0x22 => .call q (jOf x)
  | 0x23 => .ret q (jOf x)
  | 0x24 => .loop q (jOf x)
  | 0x28 => .issue q (pOf x)
  | 0x29 => .poll q (pOf x)
  | 0x2A => .wait q (tOf x)
  | 0x2B => .signal q (tOf x)
  | 0x2C => .clear q (tOf x)
  | 0x2D => .atTime q (tOf x)
  | 0x2E => .stamp q (tOf x)
  | 0x30 => .setf q (kOf x)
  | 0x31 => .getf q (kOf x)
  | 0x32 => .setfv q (kOf x)
  | 0x38 => .svc q (kOf x)
  | 0x39 => if (kOf x).sub = 1 then .commitFrameProgram q (kOf x) else .commitLayerSet q (kOf x)
  | 0x3A => .log q (kOf x)
  | 0x3B =>
    if (kOf x).sub = 1 then .gearRequest q (kOf x)
    else if (kOf x).sub = 2 then .gearQueryCluster q (kOf x)
    else .gearQueryLink q (kOf x)
  | _ => .illegalOpcode q (opOf x)

/-- R115 to R117: the word of a command of the Cheul table, none for any other command. -/
def encode : Instr → Option (BitVec 64)
  | .nop _ f => some (jWord 0x00#6 f)
  | .halt _ f => some (jWord 0x01#6 f)
  | .trap _ f => some (jWord 0x02#6 f)
  | .fence _ f => some (jWord 0x03#6 f)
  | .add _ f => some (kWord 0x04#6 f)
  | .sub _ f => some (kWord 0x05#6 f)
  | .mul _ f => some (kWord 0x06#6 f)
  | .mulh _ f => some (kWord 0x07#6 f)
  | .and _ f => some (kWord 0x08#6 f)
  | .or _ f => some (kWord 0x09#6 f)
  | .xor _ f => some (kWord 0x0A#6 f)
  | .shl _ f => some (kWord 0x0B#6 f)
  | .shr _ f => some (kWord 0x0C#6 f)
  | .sar _ f => some (kWord 0x0D#6 f)
  | .min _ f => some (kWord 0x0E#6 f)
  | .max _ f => some (kWord 0x0F#6 f)
  | .addi _ f => some (jWord 0x10#6 f)
  | .ldi _ f => some (jWord 0x11#6 f)
  | .ldhi _ f => some (jWord 0x12#6 f)
  | .cmp _ f => some (kWord 0x13#6 f)
  | .sel _ f => some (kWord 0x14#6 f)
  | .ld _ f => some (kWord 0x18#6 f)
  | .st _ f => some (kWord 0x19#6 f)
  | .ldw32 _ f => some (kWord 0x1A#6 f)
  | .stw32 _ f => some (kWord 0x1B#6 f)
  | .cas _ f => some (kWord 0x1C#6 f)
  | .fadd _ f => some (kWord 0x1D#6 f)
  | .br _ f => some (jWord 0x20#6 f)
  | .bc _ f => some (jWord 0x21#6 f)
  | .call _ f => some (jWord 0x22#6 f)
  | .ret _ f => some (jWord 0x23#6 f)
  | .loop _ f => some (jWord 0x24#6 f)
  | .issue _ f => some (pWord 0x28#6 f)
  | .poll _ f => some (pWord 0x29#6 f)
  | .wait _ f => some (tWord 0x2A#6 f)
  | .signal _ f => some (tWord 0x2B#6 f)
  | .clear _ f => some (tWord 0x2C#6 f)
  | .atTime _ f => some (tWord 0x2D#6 f)
  | .stamp _ f => some (tWord 0x2E#6 f)
  | .setf _ f => some (kWord 0x30#6 f)
  | .getf _ f => some (kWord 0x31#6 f)
  | .setfv _ f => some (kWord 0x32#6 f)
  | .svc _ f => some (kWord 0x38#6 f)
  | .commitLayerSet _ f | .commitFrameProgram _ f => some (kWord 0x39#6 f)
  | .log _ f => some (kWord 0x3A#6 f)
  | .gearQueryLink _ f | .gearRequest _ f | .gearQueryCluster _ f => some (kWord 0x3B#6 f)
  | _ => none

/-- R164, R169: the row of a COMMIT or GEAR carries the sub value that selects it; every other Cheul row carries any. -/
def rowFits : Instr → Bool
  | .commitLayerSet _ f => f.sub != 1
  | .commitFrameProgram _ f => f.sub == 1
  | .gearQueryLink _ f => f.sub != 1 && f.sub != 2
  | .gearRequest _ f => f.sub == 1
  | .gearQueryCluster _ f => f.sub == 2
  | _ => true

/-- The executing sequencer of a Cheul row. -/
def seqOf : Instr → SeqId
  | .nop q _ | .halt q _ | .trap q _ | .fence q _ | .addi q _ | .ldi q _ | .ldhi q _ | .br q _ | .bc q _ | .call q _
  | .ret q _ | .loop q _ => q
  | .add q _ | .sub q _ | .mul q _ | .mulh q _ | .and q _ | .or q _ | .xor q _ | .shl q _ | .shr q _ | .sar q _
  | .min q _ | .max q _ | .cmp q _ | .sel q _ | .ld q _ | .st q _ | .ldw32 q _ | .stw32 q _ | .cas q _ | .fadd q _
  | .setf q _ | .getf q _ | .setfv q _ | .svc q _ | .commitLayerSet q _ | .commitFrameProgram q _ | .log q _
  | .gearQueryLink q _ | .gearRequest q _ | .gearQueryCluster q _ => q
  | .issue q _ | .poll q _ => q
  | .wait q _ | .signal q _ | .clear q _ | .atTime q _ | .stamp q _ => q
  | .illegalOpcode q _ => q
  | _ => .marshal

end Cheul

end Sys2Proof
end

