-- ==== Sys2Proof/Machine/Arith.lean ====
section
/-! DEFINITION. The integer operators of the spec's pseudocode (R6) and the byte order of stored values (R3). -/
namespace Sys2Proof.Machine

/-- R6: `floor (n / d)` for `d > 0`. -/
def floorDiv (n d : Int) : Int := n.fdiv d

/-- R6: `round_half_up (n / d)` for `d > 0`: `floor ((2n + d) / (2d))`. -/
def roundHalfUp (n d : Int) : Int := (2 * n + d).fdiv (2 * d)

/-- R6: arithmetic shift right on unbounded integers. -/
def sar (n : Int) (k : Nat) : Int := n.fdiv ((2 : Int) ^ k)

/-- R6: `clamp (x, lo, hi)`. -/
def clampI (x lo hi : Int) : Int := min (max x lo) hi

/-- The bits `[lo + w - 1 : lo]` of a number. -/
def bits (n lo w : Nat) : Nat := n / 2 ^ lo % 2 ^ w

/-- One bit of a number. -/
def bit (n i : Nat) : Bool := n / 2 ^ i % 2 == 1

/-- The two's complement reading of the low `w` bits of a number. -/
def signed (w n : Nat) : Int :=
  let m := n % 2 ^ w
  if 2 * m < 2 ^ w then (m : Int) else (m : Int) - (2 ^ w : Nat)

/-- The low `w` bits of an integer in two's complement. -/
def unsigned (w : Nat) (x : Int) : Nat := (x % ((2 : Int) ^ w)).toNat

/-- R3: the `n` bytes of a number, least significant byte first. -/
def leBytes : Nat → Nat → Bytes
  | 0, _ => []
  | n + 1, v => BitVec.ofNat 8 v :: leBytes n (v / 256)

/-- R3: the number that bytes spell, least significant byte first. -/
def leNat : Bytes → Nat
  | [] => 0
  | b :: t => b.toNat + 256 * leNat t

/-- R4: the number that bytes spell in network order, most significant byte first. -/
def beNat (b : Bytes) : Nat := leNat b.reverse

/-- R4: the `n` bytes of a number, most significant byte first. -/
def beBytes (n v : Nat) : Bytes := (leBytes n v).reverse

/-- Bytes `[off, off + n)` of a byte string, as a number (R3). -/
def fieldLe (b : Bytes) (off n : Nat) : Nat := leNat ((b.drop off).take n)

/-- Bytes `[off, off + n)` of a byte string in network order (R4). -/
def fieldBe (b : Bytes) (off n : Nat) : Nat := beNat ((b.drop off).take n)

/-- A count that stops at `top`. -/
def satAdd (top n k : Nat) : Nat := min top (n + k)

/-- The exclusive or of two numbers of any width. -/
def xorNat (a b : Nat) : Nat := a ^^^ b

/-- A truth value as a bit. -/
def b2n (b : Bool) : Nat := if b then 1 else 0

/-- The rounded-up quotient. -/
def ceilDiv (n d : Nat) : Nat := (n + d - 1) / d

end Sys2Proof.Machine
end

