-- ==== Sys2Proof/Machine/Reg.lean ====
section
/-! DEFINITION. The handles of every field the spec names (R86, R87), one name each, in the numbering
that the field tables of spec/ fix ("in the order of the table"). A field of a block with instances takes the
instance as its first argument, a field of an array its index as the last one. -/
namespace Sys2Proof.Machine

/-- R86: unit in [31:24], instance in [23:12], field in [11:0]. -/
def hdl (unit inst fno : Nat) : Nat := unit * 0x1000000 + inst * 0x1000 + fno

namespace Reg

def TILE_GEOM_tile_w : Nat := hdl 0x00 0 (0x27)
def TILE_GEOM_tile_h : Nat := hdl 0x00 0 (0x28)
def TILE_GEOM_unlinked : Nat := hdl 0x00 0 (0x29)
def FAMILY_member : Nat := hdl 0x00 0 (0x10)
def FAMILY_stepping : Nat := hdl 0x00 0 (0x11)
def FAMILY_scene_ports : Nat := hdl 0x00 0 (0x12)
def FAMILY_port_speed : Nat := hdl 0x00 0 (0x13)
def FAMILY_pcie_width : Nat := hdl 0x00 0 (0x14)
def FAMILY_tile_links : Nat := hdl 0x00 0 (0x15)
def FAMILY_clusters_active : Nat := hdl 0x00 0 (0x16)
def FAMILY_clusters_spare : Nat := hdl 0x00 0 (0x17)
def FAMILY_plots : Nat := hdl 0x00 0 (0x18)
def FAMILY_dram_channels : Nat := hdl 0x00 0 (0x19)
def FAMILY_parity_groups : Nat := hdl 0x00 0 (0x1A)
def FAMILY_paddock_mib : Nat := hdl 0x00 0 (0x1B)
def FAMILY_EXT_decoders : Nat := hdl 0x00 0 (0x1C)
def FAMILY_EXT_common_mib : Nat := hdl 0x00 0 (0x1D)
def RAY_GEOM_bear_h : Nat := hdl 0x00 0 (0x20)
def RAY_GEOM_bear_v : Nat := hdl 0x00 0 (0x21)
def RAY_GEOM_tan_h : Nat := hdl 0x00 0 (0x22)
def RAY_GEOM_tan_v : Nat := hdl 0x00 0 (0x23)
def RAY_GEOM_kq : Nat := hdl 0x00 0 (0x24)
def RAY_COUNT_shear_clamps : Nat := hdl 0x00 0 (0x25)
def RAY_COUNT_reserved_px : Nat := hdl 0x00 0 (0x26)
def MSH_STATUS_state : Nat := hdl 0x01 0 (0x1)
def MSH_STATUS_lockstep : Nat := hdl 0x01 0 (0x2)
def MSH_STATUS_trap_cause : Nat := hdl 0x01 0 (0x3)
def MSH_STATUS_restarts : Nat := hdl 0x01 0 (0x4)
def MSH_PC_pc : Nat := hdl 0x01 0 (0x5)
def MSH_PROG_active : Nat := hdl 0x01 0 (0x6)
def MSH_PROG_pending : Nat := hdl 0x01 0 (0x7)
def MSH_CKPT_frame : Nat := hdl 0x01 0 (0x8)
def MSH_DOORBELL_events : Nat := hdl 0x01 0 (0x9)
def MSH_DOORBELL_reserved_ : Nat := hdl 0x01 0 (0xA)
def SEQ_STATUS_state (n : Nat) : Nat := hdl 0x20 n (0xF01)
def SEQ_STATUS_trap_cause (n : Nat) : Nat := hdl 0x20 n (0xF02)
def SEQ_STATUS_logical (n : Nat) : Nat := hdl 0x20 n (0xF03)
def SEQ_STATUS_physical (n : Nat) : Nat := hdl 0x20 n (0xF04)
def SEQ_PC_pc (n : Nat) : Nat := hdl 0x20 n (0xF05)
def CHK_HOST_status : Nat := hdl 0x02 0 (0x1)
def CHK_HOST_handle : Nat := hdl 0x02 0 (0x2)
def CLOG_IDX_head : Nat := hdl 0x02 0 (0x3)
def CLOG_IDX_tail : Nat := hdl 0x02 0 (0x4)
def CLOG_OVF_count : Nat := hdl 0x02 0 (0x5)
def CLOG_CTRL_clear_ovf : Nat := hdl 0x02 0 (0x6)
def PORT_CTRL_enable (n : Nat) : Nat := hdl 0x10 n (0x1)
def PORT_CTRL_split (n : Nat) : Nat := hdl 0x10 n (0x2)
def PORT_CTRL_fec (n : Nat) : Nat := hdl 0x10 n (0x3)
def PORT_CTRL_vlan_en (n : Nat) : Nat := hdl 0x10 n (0x4)
def PORT_CTRL_vlan_id (n : Nat) : Nat := hdl 0x10 n (0x5)
def PORT_MAC_low (n : Nat) : Nat := hdl 0x10 n (0x6)
def PORT_MAC_high (n : Nat) : Nat := hdl 0x10 n (0x7)
def PORT_ADDR_ipv4 (n : Nat) : Nat := hdl 0x10 n (0x8)
def PORT_ADDR_udp_scene (n : Nat) : Nat := hdl 0x10 n (0x9)
def PORT_IPV6_w0 (n : Nat) : Nat := hdl 0x10 n (0xA)
def PORT_IPV6_w1 (n : Nat) : Nat := hdl 0x10 n (0xB)
def PORT_IPV6_w2 (n : Nat) : Nat := hdl 0x10 n (0xC)
def PORT_IPV6_w3 (n : Nat) : Nat := hdl 0x10 n (0xD)
def PORT_GROUP_ipv4 (n : Nat) : Nat := hdl 0x10 n (0xE)
def PORT_GROUP_v6w0 (n : Nat) : Nat := hdl 0x10 n (0xF)
def PORT_GROUP_v6w1 (n : Nat) : Nat := hdl 0x10 n (0x10)
def PORT_GROUP_v6w2 (n : Nat) : Nat := hdl 0x10 n (0x11)
def PORT_GROUP_v6w3 (n : Nat) : Nat := hdl 0x10 n (0x12)
def PORT_STATUS_link (n : Nat) : Nat := hdl 0x10 n (0x13)
def PORT_STATUS_fec_lock (n : Nat) : Nat := hdl 0x10 n (0x14)
def PORT_CNT_frames (n : Nat) : Nat := hdl 0x10 n (0x15)
def PORT_CNT_bad_fcs (n : Nat) : Nat := hdl 0x10 n (0x16)
def PORT_CNT_scene (n : Nat) : Nat := hdl 0x10 n (0x17)
def PORT_CNT_scene_bad (n : Nat) : Nat := hdl 0x10 n (0x18)
def PORT_CNT_filtered (n : Nat) : Nat := hdl 0x10 n (0x19)
def ING_SECTION_id : Nat := hdl 0x10 0 (0x801)
def ING_SECTION_plots_x : Nat := hdl 0x10 0 (0x802)
def ING_SECTION_plots_y : Nat := hdl 0x10 0 (0x803)
def ING_TIME_margin_us : Nat := hdl 0x10 0 (0x804)
def ING_TIME_loss_us : Nat := hdl 0x10 0 (0x805)
def ING_STATE_target : Nat := hdl 0x10 0 (0x806)
def ING_STATE_a_alive : Nat := hdl 0x10 0 (0x807)
def ING_STATE_b_alive : Nat := hdl 0x10 0 (0x808)
def ING_STATE_playback : Nat := hdl 0x10 0 (0x809)
def ING_STATE_assembled : Nat := hdl 0x10 0 (0x80A)
def ING_SET_next : Nat := hdl 0x10 0 (0x80B)
def ING_BUF_base : Nat := hdl 0x10 0 (0x80C)
def ING_BUF_size_mib : Nat := hdl 0x10 0 (0x80D)
def CLIP_CTRL_stop : Nat := hdl 0x10 0 (0x80E)
def ING_CNT_late : Nat := hdl 0x10 0 (0x80F)
def ING_CNT_early : Nat := hdl 0x10 0 (0x810)
def ING_CNT_dup : Nat := hdl 0x10 0 (0x811)
def ING_CNT_overlap : Nat := hdl 0x10 0 (0x812)
def ING_CNT_ref_miss : Nat := hdl 0x10 0 (0x813)
def ING_CNT_cold_reject : Nat := hdl 0x10 0 (0x814)
def ING_CNT_bad_head : Nat := hdl 0x10 0 (0x815)
def ING_CNT_clamped : Nat := hdl 0x10 0 (0x816)
def ING_CNT_deadline_miss : Nat := hdl 0x10 0 (0x817)
def ING_CNT_rebases : Nat := hdl 0x10 0 (0x818)
def ING_CNT_live_dropped : Nat := hdl 0x10 0 (0x819)
def DEC_STATUS_state (n : Nat) : Nat := hdl 0x12 n (0x1)
def DEC_STATUS_source (n : Nat) : Nat := hdl 0x12 n (0x2)
def DEC_CNT_blocks (n : Nat) : Nat := hdl 0x12 n (0x3)
def DEC_CNT_raw (n : Nat) : Nat := hdl 0x12 n (0x4)
def DEC_CNT_errors (n : Nat) : Nat := hdl 0x12 n (0x5)
def DEC_CNT_last_error (n : Nat) : Nat := hdl 0x12 n (0x6)
def ENC_CTRL_ref_span (n : Nat) : Nat := hdl 0x13 n (0x1)
def ENC_CTRL_pred_mask (n : Nat) : Nat := hdl 0x13 n (0x2)
def ENC_STATUS_state (n : Nat) : Nat := hdl 0x13 n (0x3)
def ENC_STATUS_parked (n : Nat) : Nat := hdl 0x13 n (0x4)
def ENC_CNT_blocks (n : Nat) : Nat := hdl 0x13 n (0x5)
def ENC_CNT_raw_blocks (n : Nat) : Nat := hdl 0x13 n (0x6)
def ENC_CNT_verify_fail (n : Nat) : Nat := hdl 0x13 n (0x7)
def ENC_CNT_stops (n : Nat) : Nat := hdl 0x13 n (0x8)
def ENC_CNT_resumed (n : Nat) : Nat := hdl 0x13 n (0x9)
def ENC_CNT_parked (n : Nat) : Nat := hdl 0x13 n (0xA)
def ENC_CNT_abandoned (n : Nat) : Nat := hdl 0x13 n (0xB)
def ENC_STOP_link (n : Nat) : Nat := hdl 0x13 n (0xC)
def ENC_STOP_plot (n : Nat) : Nat := hdl 0x13 n (0xD)
def ENC_STOP_bearing (n : Nat) : Nat := hdl 0x13 n (0xE)
def ENC_STOP_consumed (n : Nat) : Nat := hdl 0x13 n (0xF)
def ENC_STOP_produced (n : Nat) : Nat := hdl 0x13 n (0x10)
def ARB_REIN_rein0 : Nat := hdl 0x08 0 (0x1)
def ARB_REIN_rein1 : Nat := hdl 0x08 0 (0x2)
def ARB_REIN_rein2 : Nat := hdl 0x08 0 (0x3)
def ARB_REIN_rein3 : Nat := hdl 0x08 0 (0x4)
def ARB_REIN_rein4 : Nat := hdl 0x08 0 (0x5)
def ARB_REIN_rein5 : Nat := hdl 0x08 0 (0x6)
def ARB_REIN_rein6 : Nat := hdl 0x08 0 (0x7)
def ARB_REIN_rein7 : Nat := hdl 0x08 0 (0x8)
def ARB_REIN_rein8 : Nat := hdl 0x08 0 (0x9)
def ARB_REIN_rein9 : Nat := hdl 0x08 0 (0xA)
def ARB_REIN_rein10 : Nat := hdl 0x08 0 (0xB)
def ARB_REIN_rein11 : Nat := hdl 0x08 0 (0xC)
def ARB_REIN_rein12 : Nat := hdl 0x08 0 (0xD)
def ARB_REIN_rein13 : Nat := hdl 0x08 0 (0xE)
def ARB_REIN_rein14 : Nat := hdl 0x08 0 (0xF)
def ARB_REIN_rein15 : Nat := hdl 0x08 0 (0x10)
def ARB_HOLD_limit : Nat := hdl 0x08 0 (0x11)
def ARB_BITE_count : Nat := hdl 0x08 0 (0x12)
def ARB_BITE_class : Nat := hdl 0x08 0 (0x13)
def ARB_BITE_resource : Nat := hdl 0x08 0 (0x14)
def ARB_SPUR_refresh : Nat := hdl 0x08 0 (0x15)
def ARB_SPUR_debug : Nat := hdl 0x08 0 (0x16)
def ARB_CLS_grants (j : Nat) : Nat := hdl 0x08 0 (0x100 + 2 * j)
def ARB_CLS_wait_max (j : Nat) : Nat := hdl 0x08 0 (0x101 + 2 * j)
def PAD_STATUS_state (n : Nat) : Nat := hdl 0x30 n (0x1)
def PAD_STATUS_mirror_lost (n : Nat) : Nat := hdl 0x30 n (0x2)
def PAD_ECC_corrected (n : Nat) : Nat := hdl 0x30 n (0x3)
def PAD_ECC_uncorrected (n : Nat) : Nat := hdl 0x30 n (0x4)
def PAD_ERR_addr (n : Nat) : Nat := hdl 0x30 n (0x5)
def PAD_CONF_conflicts (n : Nat) : Nat := hdl 0x30 n (0x6)
def PAD_MIRZ_base (n : Nat) (j : Nat) : Nat := hdl 0x30 n (0x201 + 2 * j)
def PAD_MIRZ_size (n : Nat) (j : Nat) : Nat := hdl 0x30 n (0x202 + 2 * j)
def DRAM_STATUS_state (n : Nat) : Nat := hdl 0x40 n (0x1)
def DRAM_STATUS_rank0 (n : Nat) : Nat := hdl 0x40 n (0x2)
def DRAM_STATUS_rank1 (n : Nat) : Nat := hdl 0x40 n (0x3)
def DRAM_STATUS_refresh_mult (n : Nat) : Nat := hdl 0x40 n (0x4)
def DRAM_ECC_corrected (n : Nat) : Nat := hdl 0x40 n (0x5)
def DRAM_ECC_uncorrected (n : Nat) : Nat := hdl 0x40 n (0x6)
def DRAM_ECC_rebuilt (n : Nat) : Nat := hdl 0x40 n (0x7)
def DRAM_REF_debt0 (n : Nat) : Nat := hdl 0x40 n (0x8)
def DRAM_REF_debt1 (n : Nat) : Nat := hdl 0x40 n (0x9)
def DRAM_REF_spurs (n : Nat) : Nat := hdl 0x40 n (0xA)
def DRAM_CNT_activates (n : Nat) : Nat := hdl 0x40 n (0xB)
def DRAM_CNT_page_hits (n : Nat) : Nat := hdl 0x40 n (0xC)
def DRAM_FAIL_cause (n : Nat) : Nat := hdl 0x40 n (0xD)
def DRAM_MAP_grain_log2 : Nat := hdl 0x40 0 (0x801)
def DRAM_MAP_order : Nat := hdl 0x40 0 (0x802)
def DRAM_CFG_usable_mib : Nat := hdl 0x40 0 (0x803)
def DRAM_CFG_rank_mib : Nat := hdl 0x40 0 (0x804)
def DRAM_REF_debt_limit : Nat := hdl 0x40 0 (0x805)
def DRAM_PWR_pd_idle : Nat := hdl 0x40 0 (0x806)
def DRAM_PWR_keep0 : Nat := hdl 0x40 0 (0x807)
def DRAM_PWR_keep1 : Nat := hdl 0x40 0 (0x808)
def DRAM_PWR_sr_idle_us : Nat := hdl 0x40 0 (0x809)
def DRAM_PAR_gather_cyc : Nat := hdl 0x40 0 (0x80A)
def DRAM_PAR_ecc_limit : Nat := hdl 0x40 0 (0x80B)
def DRAM_GRP_failed (j : Nat) : Nat := hdl 0x40 0 (0x80C + 5 * j)
def DRAM_GRP_restore (j : Nat) : Nat := hdl 0x40 0 (0x80D + 5 * j)
def DRAM_GRP_restored_mib (j : Nat) : Nat := hdl 0x40 0 (0x80E + 5 * j)
def DRAM_GRP_full_lines (j : Nat) : Nat := hdl 0x40 0 (0x80F + 5 * j)
def DRAM_GRP_partial_lines (j : Nat) : Nat := hdl 0x40 0 (0x810 + 5 * j)
def TRV_STATUS_state (n : Nat) : Nat := hdl 0x20 n (0x1)
def TRV_STATUS_wait (n : Nat) : Nat := hdl 0x20 n (0x2)
def TRV_STATUS_queue (n : Nat) : Nat := hdl 0x20 n (0x3)
def TRV_STATUS_band (n : Nat) : Nat := hdl 0x20 n (0x4)
def TRV_STATUS_halving (n : Nat) : Nat := hdl 0x20 n (0x5)
def TRV_CTRL_release (n : Nat) : Nat := hdl 0x20 n (0x6)
def TRV_ERR_code (n : Nat) : Nat := hdl 0x20 n (0x7)
def TRV_ERR_index (n : Nat) : Nat := hdl 0x20 n (0x8)
def TRV_ERR_list (n : Nat) : Nat := hdl 0x20 n (0x9)
def TRV_CNT_bearings (n : Nat) : Nat := hdl 0x20 n (0xA)
def TRV_CNT_held_wait (n : Nat) : Nat := hdl 0x20 n (0xB)
def TRV_CNT_band_wait (n : Nat) : Nat := hdl 0x20 n (0xC)
def TRV_CNT_errors (n : Nat) : Nat := hdl 0x20 n (0xD)
def LDR_CNT_loads (n : Nat) : Nat := hdl 0x20 n (0xE)
def LDR_CNT_reuse_miss (n : Nat) : Nat := hdl 0x20 n (0xF)
def LDR_CNT_kib (n : Nat) : Nat := hdl 0x20 n (0x10)
def WM_STATE_bearing (n : Nat) (j : Nat) : Nat := hdl 0x20 n (0x11 + 4 * j)
def WM_STATE_rows (n : Nat) (j : Nat) : Nat := hdl 0x20 n (0x12 + 4 * j)
def WM_STATE_plot (n : Nat) (j : Nat) : Nat := hdl 0x20 n (0x13 + 4 * j)
def WM_STATE_held (n : Nat) (j : Nat) : Nat := hdl 0x20 n (0x14 + 4 * j)
def TRV_GLOBAL_progress_base : Nat := hdl 0x20 0 (0x801)
def TRV_GLOBAL_band_passed : Nat := hdl 0x20 0 (0x802)
def TRV_SPARE_idle : Nat := hdl 0x20 0 (0x803)
def TRV_SPARE_taken : Nat := hdl 0x20 0 (0x804)
def GUARD_REG_x0 (j : Nat) : Nat := hdl 0x20 0 (0x901 + 12 * j)
def GUARD_REG_x1 (j : Nat) : Nat := hdl 0x20 0 (0x902 + 12 * j)
def GUARD_REG_y0 (j : Nat) : Nat := hdl 0x20 0 (0x903 + 12 * j)
def GUARD_REG_y1 (j : Nat) : Nat := hdl 0x20 0 (0x904 + 12 * j)
def GUARD_REG_b_first (j : Nat) : Nat := hdl 0x20 0 (0x905 + 12 * j)
def GUARD_REG_b_last (j : Nat) : Nat := hdl 0x20 0 (0x906 + 12 * j)
def GUARD_REG_enable (j : Nat) : Nat := hdl 0x20 0 (0x907 + 12 * j)
def GUARD_REG_member_only (j : Nat) : Nat := hdl 0x20 0 (0x908 + 12 * j)
def GUARD_REG_action (j : Nat) : Nat := hdl 0x20 0 (0x909 + 12 * j)
def GUARD_REG_require (j : Nat) : Nat := hdl 0x20 0 (0x90A + 12 * j)
def GUARD_REG_pattern (j : Nat) : Nat := hdl 0x20 0 (0x90B + 12 * j)
def GUARD_REG_good_frames (j : Nat) : Nat := hdl 0x20 0 (0x90C + 12 * j)
def GUARD_STAT_sig (j : Nat) : Nat := hdl 0x20 0 (0xA81 + 4 * j)
def GUARD_STAT_outcome (j : Nat) : Nat := hdl 0x20 0 (0xA82 + 4 * j)
def GUARD_STAT_state (j : Nat) : Nat := hdl 0x20 0 (0xA83 + 4 * j)
def GUARD_STAT_good (j : Nat) : Nat := hdl 0x20 0 (0xA84 + 4 * j)
def GUARD_CNT_compared : Nat := hdl 0x20 0 (0xB01)
def GUARD_CNT_mismatches : Nat := hdl 0x20 0 (0xB02)
def GUARD_CNT_skipped : Nat := hdl 0x20 0 (0xB03)
def GUARD_CNT_incomplete : Nat := hdl 0x20 0 (0xB04)
def GUARD_CTRL_release : Nat := hdl 0x20 0 (0xB05)
def CORR_CTRL_swap : Nat := hdl 0x20 0 (0xD01)
def CORR_STATUS_swap_pending : Nat := hdl 0x20 0 (0xD02)
def CORR_STATUS_resync : Nat := hdl 0x20 0 (0xD03)
def CORR_STATUS_fmap_active : Nat := hdl 0x20 0 (0xD04)
def CORR_STATUS_swaps : Nat := hdl 0x20 0 (0xD05)
def CORR_FMAP_base : Nat := hdl 0x20 0 (0xD06)
def CORR_FMAP_active_entries : Nat := hdl 0x20 0 (0xD07)
def CORR_FMAP_shadow_entries : Nat := hdl 0x20 0 (0xD08)
def CORR_CNT_concealed : Nat := hdl 0x20 0 (0xD09)
def CORR_CNT_extra_rays : Nat := hdl 0x20 0 (0xD0A)
def CORR_CNT_fault_order : Nat := hdl 0x20 0 (0xD0B)
def CORR_CNT_window_ro : Nat := hdl 0x20 0 (0xD0C)
def ZONE_CEIL_ceil (j : Nat) : Nat := hdl 0x20 0 (0xD0D + j)
def GAIT_BASE_ledger : Nat := hdl 0x20 0 (0xE01)
def GAIT_BASE_plots : Nat := hdl 0x20 0 (0xE02)
def GAIT_TYPE_table (j : Nat) : Nat := hdl 0x20 0 (0xE03 + 2 * j)
def GAIT_TYPE_enable (j : Nat) : Nat := hdl 0x20 0 (0xE04 + 2 * j)
def GAIT_TH_th1 (j : Nat) : Nat := hdl 0x20 0 (0xE0B + 3 * j)
def GAIT_TH_th2 (j : Nat) : Nat := hdl 0x20 0 (0xE0C + 3 * j)
def GAIT_TH_th3 (j : Nat) : Nat := hdl 0x20 0 (0xE0D + 3 * j)
def GAIT_CTRL_stale_frames : Nat := hdl 0x20 0 (0xE17)
def GAIT_BANDS_bands (j : Nat) : Nat := hdl 0x20 0 (0xE18 + 1 * j)
def GAIT_CNT_starts : Nat := hdl 0x20 0 (0xE20)
def GAIT_CNT_reentries : Nat := hdl 0x20 0 (0xE21)
def GAIT_CNT_rebases : Nat := hdl 0x20 0 (0xE22)
def GAIT_CNT_temp_stale : Nat := hdl 0x20 0 (0xE23)
def GAIT_CNT_catchup : Nat := hdl 0x20 0 (0xE24)
def LINK_GEAR_gear_req (n : Nat) : Nat := hdl 0x80 n (0x1)
def LINK_GEAR_gear (n : Nat) : Nat := hdl 0x80 n (0x2)
def LINK_GEAR_next (n : Nat) : Nat := hdl 0x80 n (0x3)
def LINK_GEAR_cap (n : Nat) : Nat := hdl 0x80 n (0x4)
def LANE_STATE_tx (n : Nat) : Nat := hdl 0x80 n (0x5)
def LANE_STATE_bc (n : Nat) : Nat := hdl 0x80 n (0x6)
def LANE_STATE_bc_los (n : Nat) : Nat := hdl 0x80 n (0x7)
def LANE_STATE_bc_aligned (n : Nat) : Nat := hdl 0x80 n (0x8)
def LANE_EQ_tx_entry (n : Nat) : Nat := hdl 0x80 n (0x9)
def LANE_EQ_bc_entry (n : Nat) : Nat := hdl 0x80 n (0xA)
def LANE_EQ_tx_fom (n : Nat) : Nat := hdl 0x80 n (0xB)
def LANE_EQ_bc_fom (n : Nat) : Nat := hdl 0x80 n (0xC)
def LANE_EQ_round (n : Nat) : Nat := hdl 0x80 n (0xD)
def LANE_ADAPT_fom_low (n : Nat) : Nat := hdl 0x80 n (0xE)
def LANE_ADAPT_fom_raise (n : Nat) : Nat := hdl 0x80 n (0xF)
def LANE_ADAPT_raise_count (n : Nat) : Nat := hdl 0x80 n (0x10)
def LANE_ADAPT_enable (n : Nat) : Nat := hdl 0x80 n (0x11)
def LANE_ADAPT_retry (n : Nat) : Nat := hdl 0x80 n (0x12)
def LANE_FOM_tx (n : Nat) : Nat := hdl 0x80 n (0x13)
def LANE_FOM_bc (n : Nat) : Nat := hdl 0x80 n (0x14)
def BC_TRIM_phase (n : Nat) : Nat := hdl 0x80 n (0x15)
def BC_TRIM_bench (n : Nat) : Nat := hdl 0x80 n (0x16)
def BC_TRIM_centre (n : Nat) : Nat := hdl 0x80 n (0x17)
def BC_TRIM_enable (n : Nat) : Nat := hdl 0x80 n (0x18)
def BC_TRIM_drift_limit (n : Nat) : Nat := hdl 0x80 n (0x19)
def LANE_CNT_stuff_err (n : Nat) : Nat := hdl 0x80 n (0x1A)
def LANE_CNT_los (n : Nat) : Nat := hdl 0x80 n (0x1B)
def LANE_CNT_trials (n : Nat) : Nat := hdl 0x80 n (0x1C)
def LANE_CNT_cap_falls (n : Nat) : Nat := hdl 0x80 n (0x1D)
def LANE_CNT_trim_steps (n : Nat) : Nat := hdl 0x80 n (0x1E)
def LANE_CNT_wake_fail (n : Nat) : Nat := hdl 0x80 n (0x1F)
def TILE_STATUS_link (n : Nat) : Nat := hdl 0x80 n (0x101)
def TILE_STATUS_armed (n : Nat) : Nat := hdl 0x80 n (0x102)
def TILE_STATUS_cause (n : Nat) : Nat := hdl 0x80 n (0x103)
def TILE_STATUS_compat (n : Nat) : Nat := hdl 0x80 n (0x104)
def TILE_STATUS_held (n : Nat) : Nat := hdl 0x80 n (0x105)
def TILE_FLIP_frame (n : Nat) : Nat := hdl 0x80 n (0x106)
def TILE_TEMP_temp (n : Nat) : Nat := hdl 0x80 n (0x107)
def LINK_TIME_delay (n : Nat) : Nat := hdl 0x80 n (0x108)
def LINK_TIME_skew (n : Nat) : Nat := hdl 0x80 n (0x109)
def SVC_SLOTS_table_lo (n : Nat) : Nat := hdl 0x80 n (0x10A)
def SVC_SLOTS_table_hi (n : Nat) : Nat := hdl 0x80 n (0x10B)
def SVC_SLOTS_active (n : Nat) : Nat := hdl 0x80 n (0x10C)
def SVC_STATUS_ticket (n : Nat) : Nat := hdl 0x80 n (0x10D)
def SVC_STATUS_outcome (n : Nat) : Nat := hdl 0x80 n (0x10E)
def SVC_STATUS_queued (n : Nat) : Nat := hdl 0x80 n (0x10F)
def TILE_CTRL_crack_action (n : Nat) : Nat := hdl 0x80 n (0x110)
def TILE_CTRL_crack_pattern (n : Nat) : Nat := hdl 0x80 n (0x111)
def TILE_CTRL_compat_bearing (n : Nat) : Nat := hdl 0x80 n (0x112)
def TILE_CNT_bc_crc (n : Nat) : Nat := hdl 0x80 n (0x113)
def TILE_CNT_slab_drop (n : Nat) : Nat := hdl 0x80 n (0x114)
def TILE_CNT_not_held (n : Nat) : Nat := hdl 0x80 n (0x115)
def TILE_CNT_rejected (n : Nat) : Nat := hdl 0x80 n (0x116)
def TILE_CNT_late_sync (n : Nat) : Nat := hdl 0x80 n (0x117)
def TILE_CNT_svc_retries (n : Nat) : Nat := hdl 0x80 n (0x118)
def TILE_CNT_failovers (n : Nat) : Nat := hdl 0x80 n (0x119)
def LINK_SYNC_lead_us : Nat := hdl 0x80 0 (0x301)
def SVC_CTRL_ack_us : Nat := hdl 0x80 0 (0x302)
def SVC_CTRL_retries : Nat := hdl 0x80 0 (0x303)
def FAILOVER_enable : Nat := hdl 0x80 0 (0x304)
def FAILOVER_crc_limit : Nat := hdl 0x80 0 (0x305)
def FAILOVER_restore_ms : Nat := hdl 0x80 0 (0x306)
def DATUM_CTRL_select : Nat := hdl 0x04 0 (0x1)
def DATUM_CTRL_auto_switch : Nat := hdl 0x04 0 (0x2)
def DATUM_CTRL_allow_step : Nat := hdl 0x04 0 (0x3)
def DATUM_CTRL_slew_ppb : Nat := hdl 0x04 0 (0x4)
def DATUM_STATE_active : Nat := hdl 0x04 0 (0x5)
def DATUM_STATE_slewing : Nat := hdl 0x04 0 (0x6)
def DATUM_STATE_a_lost : Nat := hdl 0x04 0 (0x7)
def DATUM_STATE_b_lost : Nat := hdl 0x04 0 (0x8)
def DATUM_STATE_switches : Nat := hdl 0x04 0 (0x9)
def DATUM_SLEW_offset_ps : Nat := hdl 0x04 0 (0xA)
def DATUM_NOW_active : Nat := hdl 0x04 0 (0xB)
def DATUM_NOW_free : Nat := hdl 0x04 0 (0xC)
def DATUM_adj (j : Nat) : Nat := hdl 0x04 0 (0xD + 13 * j)
def DATUM_lock (j : Nat) : Nat := hdl 0x04 0 (0xE + 13 * j)
def DATUM_step_s (j : Nat) : Nat := hdl 0x04 0 (0xF + 13 * j)
def DATUM_step_ns (j : Nat) : Nat := hdl 0x04 0 (0x10 + 13 * j)
def DATUM_step_go (j : Nat) : Nat := hdl 0x04 0 (0x11 + 13 * j)
def DATUM_domain (j : Nat) : Nat := hdl 0x04 0 (0x12 + 13 * j)
def DATUM_ports (j : Nat) : Nat := hdl 0x04 0 (0x13 + 13 * j)
def DATUM_transport (j : Nat) : Nat := hdl 0x04 0 (0x14 + 13 * j)
def DATUM_delay_mech (j : Nat) : Nat := hdl 0x04 0 (0x15 + 13 * j)
def DATUM_loss_ms (j : Nat) : Nat := hdl 0x04 0 (0x16 + 13 * j)
def DATUM_syncs (j : Nat) : Nat := hdl 0x04 0 (0x17 + 13 * j)
def DATUM_now (j : Nat) : Nat := hdl 0x04 0 (0x18 + 13 * j)
def DATUM_sec (j : Nat) : Nat := hdl 0x04 0 (0x19 + 13 * j)
def FT_PERIOD_t_min_ns : Nat := hdl 0x04 0 (0x27)
def FT_PERIOD_t_max_ns : Nat := hdl 0x04 0 (0x28)
def FT_PERIOD_nominal_ns : Nat := hdl 0x04 0 (0x29)
def FT_PERIOD_mode : Nat := hdl 0x04 0 (0x2A)
def FT_PERIOD_latch_guard_us : Nat := hdl 0x04 0 (0x2B)
def FT_STATE_state : Nat := hdl 0x04 0 (0x2C)
def FT_STATE_locked_now : Nat := hdl 0x04 0 (0x2D)
def FT_STATE_commit_next : Nat := hdl 0x04 0 (0x2E)
def FT_STATE_commit_after : Nat := hdl 0x04 0 (0x2F)
def FRAME_COUNT_count : Nat := hdl 0x04 0 (0x30)
def LAST_FLIP_time : Nat := hdl 0x04 0 (0x31)
def FT_START_time : Nat := hdl 0x04 0 (0x32)
def FT_LATCH_time : Nat := hdl 0x04 0 (0x33)
def FT_COMMIT_current : Nat := hdl 0x04 0 (0x34)
def FT_COMMIT_next : Nat := hdl 0x04 0 (0x35)
def FT_COMMIT_after : Nat := hdl 0x04 0 (0x36)
def FT_REST_auto : Nat := hdl 0x04 0 (0x37)
def FT_REST_enter : Nat := hdl 0x04 0 (0x38)
def FT_REST_exit : Nat := hdl 0x04 0 (0x39)
def FT_REST_idle_ms : Nat := hdl 0x04 0 (0x3A)
def FT_CNT_tmax_starts : Nat := hdl 0x04 0 (0x3B)
def FT_CNT_forced_latch : Nat := hdl 0x04 0 (0x3C)
def FT_CNT_no_commit : Nat := hdl 0x04 0 (0x3D)
def FT_CNT_lock_miss : Nat := hdl 0x04 0 (0x3E)
def FT_CNT_rests : Nat := hdl 0x04 0 (0x3F)
def PTP_RX_ring (n : Nat) : Nat := hdl 0x10 n (0x101)
def PTP_RX_head (n : Nat) : Nat := hdl 0x10 n (0x102)
def PTP_RX_tail (n : Nat) : Nat := hdl 0x10 n (0x103)
def PTP_RX_dropped (n : Nat) : Nat := hdl 0x10 n (0x104)
def PTP_TX_buf (n : Nat) : Nat := hdl 0x10 n (0x105)
def PTP_TX_len (n : Nat) : Nat := hdl 0x10 n (0x106)
def PTP_TX_send (n : Nat) : Nat := hdl 0x10 n (0x107)
def PTP_TX_queued (n : Nat) : Nat := hdl 0x10 n (0x108)
def PTP_TX_lost (n : Nat) : Nat := hdl 0x10 n (0x109)
def TSQ_count (n : Nat) : Nat := hdl 0x10 n (0x10A)
def TSQ_ovf (n : Nat) : Nat := hdl 0x10 n (0x10B)
def TSQ_pop (n : Nat) : Nat := hdl 0x10 n (0x10C)
def TSQ_dropped (n : Nat) : Nat := hdl 0x10 n (0x10D)
def TSQ_TOP_ident (n : Nat) : Nat := hdl 0x10 n (0x10E)
def TSQ_TOP_valid (n : Nat) : Nat := hdl 0x10 n (0x10F)
def TSQ_TOP_a (n : Nat) : Nat := hdl 0x10 n (0x110)
def TSQ_TOP_b (n : Nat) : Nat := hdl 0x10 n (0x111)
def TSQ_TOP_free (n : Nat) : Nat := hdl 0x10 n (0x112)
def PTP_LAT_rx_ps (n : Nat) : Nat := hdl 0x10 n (0x113)
def PTP_LAT_tx_ps (n : Nat) : Nat := hdl 0x10 n (0x114)
def HEALTH_STATE_state : Nat := hdl 0x05 0 (0x1)
def HEALTH_STATE_rate_state : Nat := hdl 0x05 0 (0x2)
def HEALTH_STATE_hot_die : Nat := hdl 0x05 0 (0x3)
def HEALTH_STATE_fast : Nat := hdl 0x05 0 (0x4)
def HEALTH_STATE_sensor_failed : Nat := hdl 0x05 0 (0x5)
def HEALTH_STATE_changes : Nat := hdl 0x05 0 (0x6)
def HEALTH_TEMP_die0 : Nat := hdl 0x05 0 (0x7)
def HEALTH_TEMP_die1 : Nat := hdl 0x05 0 (0x8)
def HEALTH_TEMP_hub : Nat := hdl 0x05 0 (0x9)
def HEALTH_TEMP_governing : Nat := hdl 0x05 0 (0xA)
def HEALTH_RATE_die0 : Nat := hdl 0x05 0 (0xB)
def HEALTH_RATE_die1 : Nat := hdl 0x05 0 (0xC)
def HEALTH_RATE_hub : Nat := hdl 0x05 0 (0xD)
def HEALTH_RATE_governing : Nat := hdl 0x05 0 (0xE)
def HEALTH_TH_warn : Nat := hdl 0x05 0 (0xF)
def HEALTH_TH_throttle : Nat := hdl 0x05 0 (0x10)
def HEALTH_TH_crit : Nat := hdl 0x05 0 (0x11)
def HEALTH_RATE_TH_rate_warn : Nat := hdl 0x05 0 (0x12)
def HEALTH_RATE_TH_rate_act : Nat := hdl 0x05 0 (0x13)
def HEALTH_CTRL_crit_action : Nat := hdl 0x05 0 (0x14)
def HEALTH_CTRL_crit_pattern : Nat := hdl 0x05 0 (0x15)
def HEALTH_SHDN_last_cause : Nat := hdl 0x05 0 (0x16)
def GOV_CTRL_zone_ramp : Nat := hdl 0x05 0 (0x17)
def GOV_CTRL_zone_rise : Nat := hdl 0x05 0 (0x18)
def GOV_CTRL_rise_margin : Nat := hdl 0x05 0 (0x19)
def GOV_CTRL_guard_gallop : Nat := hdl 0x05 0 (0x1A)
def GOV_THERM_stage : Nat := hdl 0x05 0 (0x1B)
def GOV_THERM_max_stage : Nat := hdl 0x05 0 (0x1C)
def GOV_THERM_hold_frames : Nat := hdl 0x05 0 (0x1D)
def GOV_CLK_fill_pct : Nat := hdl 0x05 0 (0x1E)
def GOV_LINK_headroom_pct : Nat := hdl 0x05 0 (0x1F)
def GOV_HALVE_halving : Nat := hdl 0x05 0 (0x20)
def GOV_HALVE_periods : Nat := hdl 0x05 0 (0x21)
def GOV_CNT_ceiling_frames : Nat := hdl 0x05 0 (0x22)
def GOV_CNT_gear_changes : Nat := hdl 0x05 0 (0x23)
def GOV_TYPE_idle (j : Nat) : Nat := hdl 0x05 0 (0x24 + 4 * j)
def GOV_TYPE_full_r (j : Nat) : Nat := hdl 0x05 0 (0x25 + 4 * j)
def GOV_TYPE_full_g (j : Nat) : Nat := hdl 0x05 0 (0x26 + 4 * j)
def GOV_TYPE_full_b (j : Nat) : Nat := hdl 0x05 0 (0x27 + 4 * j)
def GOV_CLKG_gears (j : Nat) : Nat := hdl 0x05 0 (0x34 + 1 * j)
def GOV_ZONE_budget (j : Nat) : Nat := hdl 0x05 0 (0x37 + 4 * j)
def GOV_ZONE_ceil (j : Nat) : Nat := hdl 0x05 0 (0x38 + 4 * j)
def GOV_ZONE_predicted (j : Nat) : Nat := hdl 0x05 0 (0x39 + 4 * j)
def GOV_ZONE_over (j : Nat) : Nat := hdl 0x05 0 (0x3A + 4 * j)
def SELF_TRIM_enable : Nat := hdl 0x05 0 (0x137)
def SELF_TRIM_drift_limit : Nat := hdl 0x05 0 (0x138)
def SELF_TRIM_steps : Nat := hdl 0x05 0 (0x139)
def TRIM_CH_wck (j : Nat) : Nat := hdl 0x05 0 (0x13A + 3 * j)
def TRIM_CH_vref (j : Nat) : Nat := hdl 0x05 0 (0x13B + 3 * j)
def TRIM_CH_drift (j : Nat) : Nat := hdl 0x05 0 (0x13C + 3 * j)
def FM_STATUS_state : Nat := hdl 0x03 0 (0x1)
def FM_STATUS_handling : Nat := hdl 0x03 0 (0x2)
def FM_STATUS_queued : Nat := hdl 0x03 0 (0x3)
def FM_STATUS_worst : Nat := hdl 0x03 0 (0x4)
def FM_LOG_head : Nat := hdl 0x03 0 (0x5)
def FM_LOG_tail : Nat := hdl 0x03 0 (0x6)
def FM_LOG_overwritten : Nat := hdl 0x03 0 (0x7)
def FM_LOG_clear_ovf : Nat := hdl 0x03 0 (0x8)
def FM_CTRL_s3_action : Nat := hdl 0x03 0 (0x9)
def FM_CTRL_s3_pattern : Nat := hdl 0x03 0 (0xA)
def FM_CTRL_s4_action : Nat := hdl 0x03 0 (0xB)
def FM_CTRL_s4_pattern : Nat := hdl 0x03 0 (0xC)
def FM_CTRL_warm_reset : Nat := hdl 0x03 0 (0xD)
def FM_ENGINE_target : Nat := hdl 0x03 0 (0xE)
def FM_CNT_s1 : Nat := hdl 0x03 0 (0xF)
def FM_CNT_s2 : Nat := hdl 0x03 0 (0x10)
def FM_CNT_s3 : Nat := hdl 0x03 0 (0x11)
def FM_CNT_s4 : Nat := hdl 0x03 0 (0x12)
def FM_CNT_escalations : Nat := hdl 0x03 0 (0x13)
def FM_CNT_preemptions : Nat := hdl 0x03 0 (0x14)
def FM_CNT_queue_max : Nat := hdl 0x03 0 (0x15)
def FM_FIRST_w0 : Nat := hdl 0x03 0 (0x16)
def FM_FIRST_w1 : Nat := hdl 0x03 0 (0x17)
def FM_FIRST_w2 : Nat := hdl 0x03 0 (0x18)
def FM_FIRST_w3 : Nat := hdl 0x03 0 (0x19)
def FM_FIRST_clear : Nat := hdl 0x03 0 (0x1A)
def TRUST_STATUS_state : Nat := hdl 0x06 0 (0x1)
def TRUST_STATUS_last_outcome : Nat := hdl 0x06 0 (0x2)
def TRUST_STATUS_last_failed : Nat := hdl 0x06 0 (0x3)
def TRUST_CNT_accepted : Nat := hdl 0x06 0 (0x4)
def TRUST_CNT_rejected : Nat := hdl 0x06 0 (0x5)
def TRUST_ID_serial : Nat := hdl 0x06 0 (0x6)
def TRUST_KEYS_vendor_revoked : Nat := hdl 0x06 0 (0x7)
def TRUST_KEYS_owner_slots : Nat := hdl 0x06 0 (0x8)
def TRUST_KEYS_vendor_images : Nat := hdl 0x06 0 (0x9)
def TRUST_FLOOR_vendor : Nat := hdl 0x06 0 (0xA)
def TRUST_FLOOR_owner : Nat := hdl 0x06 0 (0xB)
def TRUST_GEN_owner_gen : Nat := hdl 0x06 0 (0xC)
def NVM_STATUS_bank_busy : Nat := hdl 0x07 0 (0x1)
def NVM_STATUS_host_busy : Nat := hdl 0x07 0 (0x2)
def NVM_STATUS_host_result : Nat := hdl 0x07 0 (0x3)
def NVM_ADDR_page : Nat := hdl 0x07 0 (0x4)
def NVM_ADDR_counter : Nat := hdl 0x07 0 (0x5)
def NVM_CMD_op : Nat := hdl 0x07 0 (0x6)
def NVM_UNLOCK_part : Nat := hdl 0x07 0 (0x7)
def NVM_UNLOCK_kind : Nat := hdl 0x07 0 (0x8)
def NVM_UNLOCK_go : Nat := hdl 0x07 0 (0x9)
def NVM_UNLOCK_lock : Nat := hdl 0x07 0 (0xA)
def NVM_LOCKS_open : Nat := hdl 0x07 0 (0xB)
def NVM_LOCKS_fails : Nat := hdl 0x07 0 (0xC)
def NVM_ECC_corrected : Nat := hdl 0x07 0 (0xD)
def NVM_ECC_uncorrected : Nat := hdl 0x07 0 (0xE)
def NVM_ECC_addr : Nat := hdl 0x07 0 (0xF)
def NVM_CNT_writes : Nat := hdl 0x07 0 (0x10)
def NVM_PW_w (j : Nat) : Nat := hdl 0x07 0 (0x11 + 1 * j)
def NVM_DATA_d (j : Nat) : Nat := hdl 0x07 0 (0x15 + 1 * j)
def RST_STATUS_cause : Nat := hdl 0x00 0 (0x30)
def RST_STATUS_stage : Nat := hdl 0x00 0 (0x31)
def RST_STATUS_slot : Nat := hdl 0x00 0 (0x32)
def RST_STATUS_fail0 : Nat := hdl 0x00 0 (0x33)
def RST_STATUS_fail1 : Nat := hdl 0x00 0 (0x34)
def RST_CTRL_warm : Nat := hdl 0x00 0 (0x35)
def RST_CTRL_perst_warm : Nat := hdl 0x00 0 (0x36)
def RST_BOOT_offset : Nat := hdl 0x00 0 (0x37)
def RST_BOOT_length : Nat := hdl 0x00 0 (0x38)
def RST_BOOT_go : Nat := hdl 0x00 0 (0x39)
def RST_TIME_ready_us : Nat := hdl 0x00 0 (0x3A)
def REF_CTRL_select : Nat := hdl 0x00 0 (0x3B)
def REF_CTRL_auto : Nat := hdl 0x00 0 (0x3C)
def REF_CTRL_tol_ppm : Nat := hdl 0x00 0 (0x3D)
def REF_STATUS_active : Nat := hdl 0x00 0 (0x3E)
def REF_STATUS_a_present : Nat := hdl 0x00 0 (0x3F)
def REF_STATUS_b_present : Nat := hdl 0x00 0 (0x40)
def REF_STATUS_a_tol : Nat := hdl 0x00 0 (0x41)
def REF_STATUS_b_tol : Nat := hdl 0x00 0 (0x42)
def REF_STATUS_pending : Nat := hdl 0x00 0 (0x43)
def REF_STATUS_internal : Nat := hdl 0x00 0 (0x44)
def REF_STATUS_switches : Nat := hdl 0x00 0 (0x45)
def REF_MEAS_diff_ppb : Nat := hdl 0x00 0 (0x46)
def CLK_STATUS_m0_lock : Nat := hdl 0x00 0 (0x47)
def CLK_STATUS_eth_lock : Nat := hdl 0x00 0 (0x48)
def CLK_STATUS_m0_unlocks : Nat := hdl 0x00 0 (0x49)
def HOST_BAR2_base : Nat := hdl 0x00 0 (0x60)
def HOST_EVT_sig_mask : Nat := hdl 0x00 0 (0x61)
def HOST_CTRL_bar2_wait_us : Nat := hdl 0x00 0 (0x62)
def HOST_IRQ_cause : Nat := hdl 0x00 0 (0x63)
def HOST_LINK_speed : Nat := hdl 0x00 0 (0x64)
def HOST_LINK_width : Nat := hdl 0x00 0 (0x65)
def HOST_LINK_downs : Nat := hdl 0x00 0 (0x66)
def HOST_CNT_bar0_bad : Nat := hdl 0x00 0 (0x67)
def HOST_CNT_bar2_unmapped : Nat := hdl 0x00 0 (0x68)
def HOST_CNT_poisoned : Nat := hdl 0x00 0 (0x69)
def HOST_CNT_bar2_timeout : Nat := hdl 0x00 0 (0x6A)
def HOST_CNT_msix_sent : Nat := hdl 0x00 0 (0x6B)

end Reg

end Sys2Proof.Machine
end

