-- ==== Sys2Proof/Config.lean ====
section
/-! DEFINITION. What an implementation fixes: the parameters of the four family members (R33, R668, R672), and the
FREE VALUES: constants without a body for what the spec leaves open or takes from a standard it does not restate. -/
namespace Sys2Proof

/-- The members of the family (R33, FAMILY.member of R34). -/
inductive Member
  | t2 | s32 | m128 | x512
  deriving DecidableEq, Repr

/-- The parameters of a member: the columns of R33, and the member columns of R668 and R672. Base addresses
are in the unit of their fields (fabric address divided by 64; `fmap` a common-paddock byte offset divided by 64). -/
structure Params where
  code : Nat
  tileLinks : Nat
  active : Nat
  spare : Nat
  plots : Nat
  channels : Nat
  groups : Nat
  paddockMib : Nat
  commonMib : Nat
  decoders : Nat
  ports : Nat
  portSpeed : Nat
  pcieWidth : Nat
  deviceId : Nat
  /-- 2 when the clusters, links and channels are split over two field dies (R29), 1 otherwise (R667). -/
  fieldDies : Nat
  sectX : Nat
  sectY : Nat
  mirzBases : List Nat
  mirzSizes : List Nat
  progress : Nat
  progressMax : Nat
  fmap : Nat
  fmapMax : Nat
  ledger : Nat
  ledgerMax : Nat
  plotRecs : Nat
  plotsMax : Nat
  tableBase : Nat
  tableStep : Nat
  tableMax : Nat
  ringBase : Nat
  ringStep : Nat
  ringMax : Nat
  txBase : Nat
  txStep : Nat
  txMax : Nat
  deriving DecidableEq, Repr

/-- Reset base of mirror zone z (R668), in 64 KiB units. -/
def Params.mirzBase (p : Params) (z : Nat) : Nat := p.mirzBases.getD z 0

/-- Reset size of mirror zone z (R668), in 64 KiB units. -/
def Params.mirzSize (p : Params) (z : Nat) : Nat := p.mirzSizes.getD z 0

/-- Physical traverse clusters, active and spare. -/
def Params.clusters (p : Params) : Nat := p.active + p.spare

/-- R33, R668, R672. The maxima are those of the field tables on the VL-X512, and on the other members the
largest values R668 admits (DEDUCED, log 68: one 16-byte progress record for each logical index). -/
def Member.params : Member → Params
  | .t2 => { code := 1, tileLinks := 2, active := 1, spare := 0, plots := 4, channels := 1, groups := 0,
             paddockMib := 7, commonMib := 4, decoders := 1, ports := 1, portSpeed := 0, pcieWidth := 1,
             deviceId := 0x0002, fieldDies := 1, sectX := 2, sectY := 2,
             mirzBases := [0, 32, 44, 0], mirzSizes := [32, 12, 2, 0],
             progress := 0x403FF0, progressMax := 0x403FFF, fmap := 0x1800, fmapMax := 0x1F00,
             ledger := 0x408000, ledgerMax := 0x409400, plotRecs := 0x4097FF, plotsMax := 0x4097FF,
             tableBase := 0x408400, tableStep := 0, tableMax := 0x4085EF,
             ringBase := 0x40B800, ringStep := 0, ringMax := 0x40FC00,
             txBase := 0x40BC00, txStep := 0, txMax := 0x40FFE0 }
  | .s32 => { code := 2, tileLinks := 32, active := 4, spare := 1, plots := 64, channels := 4, groups := 0,
              paddockMib := 31, commonMib := 16, decoders := 4, ports := 1, portSpeed := 1, pcieWidth := 2,
              deviceId := 0x0032, fieldDies := 1, sectX := 32, sectY := 2,
              mirzBases := [0, 64, 160, 0], mirzSizes := [64, 96, 32, 0],
              progress := 0x407FF0, progressMax := 0x407FFF, fmap := 0x4000, fmapMax := 0x5F00,
              ledger := 0x410000, ledgerMax := 0x418000, plotRecs := 0x41BFF0, plotsMax := 0x41BFF0,
              tableBase := 0x414000, tableStep := 0x1211, tableMax := 0x41ADEF,
              ringBase := 0x430000, ringStep := 0, ringMax := 0x43FC00,
              txBase := 0x430400, txStep := 0, txMax := 0x43FFE0 }
  | .m128 => { code := 3, tileLinks := 128, active := 16, spare := 1, plots := 256, channels := 8, groups := 1,
               paddockMib := 83, commonMib := 32, decoders := 8, ports := 2, portSpeed := 1, pcieWidth := 3,
               deviceId := 0x0128, fieldDies := 1, sectX := 32, sectY := 8,
               mirzBases := [0, 96, 288, 0], mirzSizes := [96, 192, 128, 0],
               progress := 0x40BFF0, progressMax := 0x40BFFC, fmap := 0x8000, fmapMax := 0x9F00,
               ledger := 0x418000, ledgerMax := 0x420000, plotRecs := 0x42FFC0, plotsMax := 0x42FFC0,
               tableBase := 0x428000, tableStep := 0x1211, tableMax := 0x42EDEF,
               ringBase := 0x468000, ringStep := 0x400, ringMax := 0x47FC00,
               txBase := 0x468800, txStep := 0x20, txMax := 0x47FFE0 }
  | .x512 => { code := 4, tileLinks := 512, active := 64, spare := 4, plots := 1024, channels := 24, groups := 3,
               paddockMib := 332, commonMib := 128, decoders := 32, ports := 8, portSpeed := 1, pcieWidth := 3,
               deviceId := 0x0512, fieldDies := 2, sectX := 32, sectY := 32,
               mirzBases := [0, 128, 704, 0], mirzSizes := [128, 576, 512, 0],
               progress := 0x40FFF0, progressMax := 0x40FFF0, fmap := 0xC000, fmapMax := 0xDF00,
               ledger := 0x420000, ledgerMax := 0x5C0000, plotRecs := 0x467F00, plotsMax := 0x5FFF00,
               tableBase := 0x460000, tableStep := 0x1211, tableMax := 0x5FB7BB,
               ringBase := 0x530000, ringStep := 0x400, ringMax := 0x5FFC00,
               txBase := 0x532000, txStep := 0x20, txMax := 0x5FFFE0 }

namespace Config

/-- FREE VALUE (log 3). SHA-512 of FIPS 180-4, which the spec names and does not restate (R106, R577, R586). -/
opaque sha512 : Bytes → Vector Byte 64

/-- FREE VALUE (log 3). Ed25519 verification of RFC 8032: public key, message, signature (R576). -/
opaque ed25519Verify : Bytes → Bytes → Bytes → Bool

/-- FREE VALUE (log 3). ML-DSA-65 verification of FIPS 204, empty context: public key, message, signature (R576). -/
opaque mlDsaVerify : Bytes → Bytes → Bytes → Bool

/-- FREE VALUE (log 3). The unit's Ed25519 signature of a message (R573, R585). -/
opaque ed25519Sign : Bytes → Vector Byte 64

/-- FREE VALUE (log 3). The unit's ML-DSA-65 signature of a message, with the serial number of the signing (R585). -/
opaque mlDsaSign : Nat → Bytes → Vector Byte 3309

/-- FREE VALUE (log 4). Fabric address, divided by 64, of the DRAM slot in which ingest places version slot `v` of
cell position `i` (R195 gives no placement). -/
opaque versionSlot : Nat → Nat → BitVec 34

/-- FREE VALUE (log 4). Fabric address, divided by 64, at which ingest places layer set number `n` (R200 gives no placement). -/
opaque layerSetSlot : Nat → BitVec 34

/-- FREE VALUE (log 5). A 64-bit value that nothing in the spec fixes, for the n-th such choice of a run. -/
opaque freeWord : Nat → BitVec 64

/-- FREE VALUE (log 5). A bit nothing in the spec fixes, for the n-th such choice of a run. -/
opaque freeBit : Nat → Bool

end Config

end Sys2Proof
end

