-- ==== Sys2Proof/Machine/State.lean ====
section
/-! DEFINITION. The state of the block: plain data, every piece of state the spec names (INVENTORY.md lists them with their
rules and reset values), and the queue of the commands that wait. -/
namespace Sys2Proof.Machine
open Sys2Proof

/-- Why the block stops with a fault. -/
inductive Fault
  /-- Raised by no command: every fault the spec names is contained by the block and recorded. Safe. -/
  | unreachable
  deriving DecidableEq, Repr

/-- Why a command has no meaning. -/
inductive Refusal
  /-- Raised by exec for a row without a meaning. Safe: nothing is claimed. -/
  | notModelled (mnemonic : String)
  /-- Raised by a command that names a sequencer, port, cluster, link, channel or slice which the member in
  `State.part` does not have (R33, R643): no such command can reach the block. Safe. -/
  | noSuchUnit
  deriving DecidableEq, Repr

/-- One field of a register: the value last accepted, the value in effect, and the values accepted for the next and
the after-next occurrence of the field's apply point (R13 to R18). -/
structure Cell where
  acc : Int
  eff : Int
  nxt : Option Int
  aft : Option Int
  deriving DecidableEq, Repr

/-- R494: 48-bit seconds, nanoseconds, and a fraction in units of 2^-32 ns. -/
structure Counter where
  sec : Nat
  ns : Nat
  frac : Nat
  deriving DecidableEq, Repr

/-- The three counters and the active datum's offset (R494 to R498), in units of 2^-32 ns. -/
structure Clock where
  free : Counter
  a : Counter
  b : Counter
  offset : Int
  /-- Remainder of the slew, in 10^-9 of an offset unit (the model's own, log 8). -/
  slewRem : Nat
  /-- R495: latched high words, by register offset. -/
  hiLatch : Tab Nat
  /-- R500: the free-running time of the latest Sync of each datum's domain, in units of 2^-32 ns. -/
  syncAt : Tab Nat
  deriving DecidableEq, Repr

/-- A store that waits in a sequencer's store buffer (R122), and the resource that its locked sequence holds for it until it
is performed (R133, R267). -/
structure StoreReq where
  addr : Nat
  data : Bytes
  lock : Option Nat
  deriving DecidableEq, Repr

/-- What a sequencer sleeps on: a WAIT (R75, R144) or an AT (R151). `timed` says that the timeout is not zero. -/
inductive Waiting
  | flags (mask : BitVec 64) (mode : Nat) (d : BitVec 5) (timed : Bool)
  | time (domain target : Nat) (d : BitVec 5) (timed : Bool)
  deriving DecidableEq, Repr

/-- A sequencer (R63, R69, R72, R122, R133). State, cause and pc stand in its status registers (R103, R104). -/
structure Seq where
  gpr : Tab Word
  events : BitVec 64
  waiting : Option Waiting
  /-- The resource of the open locked sequence: 0 to 23 a DRAM channel, 32 to 47 a common slice. -/
  lock : Option Nat
  /-- R135: the hold timer has bitten and the next instruction traps. -/
  bitten : Bool
  /-- The store buffer, oldest first. -/
  stores : List StoreReq
  deriving DecidableEq, Repr

/-- The frame checkpoint of the marshal (R112). -/
structure Checkpoint where
  pc : Int
  gpr : Tab Word
  events : BitVec 64
  frame : Nat
  deriving DecidableEq, Repr

/-- Flags of a SIGNAL on their way to a sequencer (R147). -/
structure Signal where
  target : Nat
  flags : BitVec 64
  deriving DecidableEq, Repr

/-- The sequencers: key 0 the marshal, key 1 + c the sequencer of physical cluster c. -/
structure Seqs where
  seqs : Tab Seq
  ckpt : Option Checkpoint
  /-- Marshal flags the hardware has set since the checkpoint (R113). -/
  hwSince : BitVec 64
  /-- A lockstep error or trap of the marshal awaits its restart. -/
  restartDue : Bool
  signals : List Signal
  /-- R665: debug halt asserted. -/
  debugHalt : Bool
  /-- The clamp log ring (R99, R100), by byte offset in its window. -/
  clog : Tab Byte
  deriving DecidableEq, Repr

/-- A descriptor in an engine queue (R139 to R142): its address, ticket, issuer (sequencer key), the words that the engine
read when it started it, whether its work is finished, and whether it has completed. -/
structure QEntry where
  addr : Nat
  ticket : Nat
  src : Nat
  words : List Nat
  fin : Bool
  done : Bool
  deriving DecidableEq, Repr

/-- An engine queue (R140, R143): descriptors accepted, descriptors counted done, and those held. -/
structure EngQ where
  accepted : Nat
  done : Nat
  entries : List QEntry
  deriving DecidableEq, Repr

/-- A line held in a gather buffer (R284 to R288): its group, its channel offset, the bursts held, the class of the write that
opened it, and its drain in progress: whether a full buffer forced it, and the bursts that it writes. `again` says that the
bursts held came during the drain. -/
structure GatherLine where
  group : Nat
  co : Nat
  held : Nat
  draining : Bool
  again : Bool
  cls : Fin 16
  forced : Bool
  mask : Nat
  deriving DecidableEq, Repr

/-- Paddock and DRAM (R248 to R302). -/
structure Mem where
  /-- Bytes by fabric address; an unlisted byte of paddock or DRAM reads 0 (log 6). -/
  cells : List Host.Cell
  /-- 8-byte groups (address / 8) whose home copy holds an uncorrectable error. -/
  bad : List Nat
  /-- 8-byte groups whose copy in the mirror partner holds an uncorrectable error. -/
  badCopy : List Nat
  /-- 8-byte groups that hold an error which the code corrects on a read (R252, R276). -/
  soft : List Nat
  /-- Bytes of the parity bursts, and parity bursts that hold an uncorrectable error, by line (R283). -/
  parity : Tab Byte
  badPar : List Nat
  /-- Uncorrectable errors of the period, by channel (R292). -/
  eccErrs : Tab Nat
  /-- Channel offset up to which a restore has rewritten the failed channel, by group (R295). -/
  restore : Tab Nat
  /-- Accesses that met a resource held by a lock or by debug halt: the model's own (log 27). -/
  stalls : Nat
  /-- Mirror zones are enabled (boot stage 6, R261). -/
  zonesOn : Bool
  /-- The gather buffers, oldest line first. -/
  gather : List GatherLine
  /-- Open row plus one of each bank, by (channel * 2 + rank) * 16 + bank (R281). -/
  openRow : Tab Nat
  /-- Timing set of the board record (R277), 32-bit times in ps. -/
  timing : List Nat
  deriving DecidableEq, Repr

/-- A resource, as R559 identifies it. -/
inductive Resource
  | link (n : Nat)
  | port (p : Nat)
  | stream (k : Nat)
  | dram (ch : Nat)
  | cluster (logical : Nat)
  | slice (k : Nat)
  | datum (d : Nat)
  | reference (r : Nat)
  | marshal
  | hub (cls inst : Nat)
  | tile (k : Nat)
  /-- A guarded region (R363, R670; log 16). -/
  | region (r : Nat)
  /-- The sensor of a die (R526). -/
  | sensor (die : Nat)
  deriving DecidableEq, Repr

/-- A recovery that has not completed (R559): the resource, the severity of its fault, and the free-running time at which
R552 completes it, in units of 2^-32 ns; none where another event does. -/
structure Recovery where
  res : Resource
  sev : Nat
  due : Option Nat
  deriving DecidableEq, Repr

/-- A fault on its way through the fault manager (R557 to R569). Severities 1 to 4. -/
structure FaultItem where
  res : Resource
  cause : Nat
  sev : Nat
  /-- Severity before escalation, 0 when not escalated. -/
  before : Nat
  unit : Nat
  inst : Nat
  d0 : Nat
  d1 : Nat
  /-- Datum word of detection. -/
  time : Nat
  queued : Bool
  preempted : Bool
  depth : Nat
  /-- FRAME_COUNT at detection (R363). -/
  frame : Nat
  deriving DecidableEq, Repr

/-- Tiles in the S3 state for a resource (R560, R564): `free` is the first frame that they may show again, none while the
resource stands at S3. -/
structure Hold where
  res : Resource
  tiles : List Nat
  free : Option Nat
  deriving DecidableEq, Repr

/-- The fault manager (R557 to R570). -/
structure FaultMgr where
  /-- Detected and not yet taken, oldest first. -/
  detected : List FaultItem
  handling : Option FaultItem
  /-- Handlings that a higher severity preempted, latest first. -/
  preempted : List FaultItem
  queue : List FaultItem
  /-- Resources whose own recovery has not completed. -/
  recovering : List Recovery
  /-- Resources that stand at S3. -/
  standing : List Resource
  holds : List Hold
  /-- The log ring, by byte offset in its window. -/
  ring : Tab Byte
  /-- R565: show time of the latest safe-state SYNC, in units of 2^-32 ns, and the pattern that these SYNCs call for. -/
  safeShow : Int
  safePattern : Option Nat
  deriving DecidableEq, Repr

/-- The host interface (R624 to R646). -/
structure HostIf where
  power : PowerState
  enable : Bool
  functionMask : Bool
  /-- MSI-X table words by byte offset (vector control words reset to masked). -/
  table : Tab Nat
  pba : Nat
  /-- Vectors raised and not yet sent or pended, oldest first. -/
  raised : List Nat
  deriving DecidableEq, Repr

/-- The composited values of a ray and its guard bit (R54, R353). -/
structure Ray where
  d : List Nat
  guard : Bool
  deriving DecidableEq, Repr

/-- A layer list command run in progress (R307, R308). `words` holds the command in hand, once the engine has read it. -/
structure ListRun where
  queue : Nat
  desc : Nat
  addr : Nat
  count : Nat
  tag : Nat
  frameBound : Bool
  index : Nat
  completed : Nat
  words : List Nat
  deriving DecidableEq, Repr

/-- A SHEAR in progress (R322 to R326): its fields, the frame tag of its list, the geometry latched at its start, the patch head
read there, and the bearing it does next. -/
structure Sweep where
  plot : Nat
  bFirst : Nat
  bCount : Nat
  ring : Nat
  wmBase : Nat
  outMode : Bool
  patch : Nat
  ringBase : Nat
  bearH : Nat
  bearV : Nat
  tanH : Nat
  tanV : Nat
  halving : Bool
  /-- Keys of the plot's dead emitters, as read at the start (R382). -/
  dead : List Nat
  tag : Nat
  head : Bytes
  /-- The bearing store (R304, R326): while halving is latched, the composited rays of the latest even bearing. -/
  store : List Ray
  /-- The frame in which the gait stage advanced the plot for this sweep, and the gains that it took for the hogels whose gain is
  not 2,048 (R390, R398, R400). -/
  gaitFrame : Option Nat
  gains : Tab (List Nat)
  next : Nat
  deriving DecidableEq, Repr

/-- The guard unit and gait sums of a cluster (R358, R391): the plot and frame tag in hand, the next bearing expected, one
CRC accumulator and member count per region, the sum of drive codes per hogel, and whether every bearing so far was
written as drive codes. -/
structure GuardUnit where
  plot : Nat
  frame : Nat
  next : Nat
  crc : Tab (Nat × Nat)
  sums : Tab Nat
  drive : Bool
  deriving DecidableEq, Repr

/-- What the hub keeps of the running frame (R47, R357 to R367, R560). -/
structure FrameHub where
  /-- CRCs of finished plots, by region * 2048 + plot. -/
  crcs : Tab Nat
  finished : List Nat
  /-- Plots for which a SHEAR latched bearing halving. -/
  halved : List Nat
  /-- Regions with an outcome for the running frame. -/
  decided : List Nat
  /-- GUARD_CTRL.release bits accepted for the next period start. -/
  release : Nat
  /-- Regions whose mismatch of the running frame has raised a fault. -/
  raised : List Nat
  /-- Layers counted in RAY_COUNT.shear_clamps, as a mask by plot. -/
  clamped : Tab Nat
  /-- Plots swept in the running period and in the one before, by logical index (log 15). -/
  plots : Tab (List Nat × List Nat)
  /-- Plots finished for a frame whose period has not started (R358). -/
  early : List GuardUnit
  deriving DecidableEq, Repr

/-- An encoder job (R233 to R244). A parked remainder is kept with `stopped` until its period start. -/
structure EncJob where
  ticket : Nat
  desc : Nat
  input : Nat
  link : Nat
  plot : Nat
  bearing : Nat
  wm : Nat
  waitWm : Bool
  noRef : Bool
  frame : Nat
  /-- The next block, and the block bytes placed. -/
  next : Nat
  produced : Nat
  /-- Verify failures in this slab (R553). -/
  fails : Nat
  stopped : Bool
  /-- The remainder of a parked job (R239). -/
  onto : Bool
  /-- The link whose lane carries the job's slabs (R486). -/
  carrier : Nat
  /-- The reference blocks of bearing b - 1, by block index (R228). -/
  refs : Tab (List Nat)
  deriving DecidableEq, Repr

/-- The blocks placed for a bearing of a plot in a frame, on a link (R228). -/
structure SlabRef where
  frame : Nat
  link : Nat
  blocks : Tab (List Nat)
  deriving DecidableEq, Repr

/-- A physical traverse cluster (R304). -/
structure Cluster where
  list : Option ListRun
  sweep : Option Sweep
  /-- The engine waits at this band mark, 0 for none; and band mark 255 executed in the period. -/
  bandWait : Nat
  band255 : Bool
  /-- Fabric address of the ray buffer behind each watermark (R329, R330). -/
  buffers : Tab Nat
  guard : Option GuardUnit
  /-- SHEAR commands completed in the period (R346). -/
  shears : Nat
  busy : Nat
  job : Option EncJob
  parked : Option EncJob
  /-- By plot * 512 + bearing. -/
  refs : Tab SlabRef
  failed : Bool
  /-- A spare that has taken an index and has not started its program (R67, R344). -/
  startDue : Bool
  /-- Clock gear decided for the next period (R170, R542). -/
  gearNext : Nat
  /-- Bytes fetched by the plot loader from DRAM (R348). -/
  fetched : Nat
  /-- The plot loader could not read a descriptor, and is in engine state 3 (R252). -/
  loaderLost : Bool
  /-- Half cycles of CK_TRV left over from the count of waits (R329, R348). -/
  waitHalf : Nat
  deriving DecidableEq, Repr

/-- A service message (R471): ticket, bytes, completion event of the marshal if asked, and the link it was queued for. -/
structure SvcMsg where
  ticket : Nat
  bytes : Bytes
  event : Option Nat
  link : Nat
  sends : Nat
  /-- Sent, and its ACK is awaited. -/
  waitAck : Bool
  deriving DecidableEq, Repr

/-- One end of a lane's line code (R415, R416): the scrambler state, the latest line bit, and the length of its run. -/
structure LineEnd where
  scr : BitVec 31
  last : Bool
  run : Nat
  deriving DecidableEq, Repr

/-- A SLAB packet in a link's slab buffer, which keeps it until its last cell is sent (R457, R486): the cluster whose encoder
fills it, where its content lies in the buffer (positions that count on, modulo the buffer's size, and lengths), whether it is
closed, the cells sent, and the CRC run over them (R447). -/
structure SlabPkt where
  owner : Nat
  pieces : List (Nat × Nat)
  closed : Bool
  sent : Nat
  crc : Nat
  deriving DecidableEq, Repr

/-- The part of a tile link that its registers do not show (R411 to R490). -/
structure Link where
  /-- Markers sent since the lane started, and the marker number at the latest transmit entry change (R482). -/
  markers : Nat
  entryMark : Nat
  triedTx : Nat
  triedBc : Nat
  openTx : Bool
  openBc : Bool
  /-- The entry in use has a recorded fom. -/
  hasTx : Bool
  hasBc : Bool
  latchesTx : Nat
  latchesBc : Nat
  capFrom : Nat
  raises : Nat
  /-- R431: the entry used at rest entry has no measured fom yet. -/
  wokeTx : Bool
  wokeBc : Bool
  /-- Back-channel bits of the sweep in progress, in 1/4 bit (R439), and a completed sweep that no trim step has used. -/
  sweep : Nat
  sweepNew : Bool
  driftNoted : Bool
  /-- GEAR requests for the next period and the one after. -/
  reqNext : Nat
  reqAfter : Nat
  /-- Window of the frame in bytes, bytes counted against it, and SLAB cells counted in the frame. -/
  window : Nat
  used : Nat
  cellsFrame : Nat
  granted : Nat
  stoppedInPeriod : Bool
  changing : Bool
  /-- The slab buffer (R234, R486): its packets, oldest first, and the position of the next block. -/
  buffer : List SlabPkt
  pos : Nat
  /-- The transmit lane: line time to spare in 1/4 bit, the number of its next cell in the marker period (R452), and its line
  code. -/
  room : Int
  cell : Nat
  tx : LineEnd
  /-- SYNC and BEACON cells that are due; the cells left of the SVC packet in progress, and the slot table of its first cell
  (R453, R470); the sister's buffer is next at a packet boundary (R486). -/
  due : List Bytes
  svcCells : List Bytes
  svcSlots : Option Nat
  turn : Bool
  /-- The back-channel receiver: its line code, the cells since the latest marker found or expected, whether that one passed the
  check, whether two apart have been found, the expected markers in a row that failed (R418), and the cells of an open FAULT
  packet (R446). -/
  rx : LineEnd
  since : Nat
  good : Bool
  found : Bool
  misses : Nat
  open_ : List Bytes
  /-- The back-channel phase has its benchmark (R601). -/
  benched : Bool
  deriving DecidableEq, Repr

/-- The tile protocol state of a link (R465, R469 to R475, R485 to R490). -/
structure LinkSvc where
  accepted : Nat
  queue : List SvcMsg
  inflight : Option SvcMsg
  swapDue : Bool
  rtts : List Int
  delayNext : Int
  /-- Departure times of recent downstream markers, by marker number, in ps. -/
  departs : List (Nat × Int)
  discards : Nat
  failedOver : Bool
  /-- The link is out of service: by its board table, a failed wake or as the second link of its tile (R422, R438, R489). -/
  failed : Bool
  /-- The latest STATUS shows an alarm of the endpoint's receiver on this link (R480). -/
  alarm : Bool
  /-- The link takes its slabs back at the next period start (R490). -/
  restoreDue : Bool
  /-- Seconds of the latest marker's beacon (R466). -/
  beaconSec : Nat
  deriving DecidableEq, Repr

/-- What the controller knows of a tile (R396, R397, R480). -/
structure Tile where
  temp : Option Int
  age : Nat
  stale : Bool
  seqStatus : Option Nat
  seqFault : Option Nat
  seqTemp : Option Nat
  seqCrack : Option Nat
  counts : List Nat
  crackOpen : Bool
  opens : Nat
  noLink : Bool
  /-- Entries of the latest FAULT report (R480). -/
  faults : List Nat
  deriving DecidableEq, Repr

/-- Drive codes summed for a tile in the frame (R536). -/
structure TilePower where
  sr : Nat
  sg : Nat
  sb : Nat
  n : Nat
  deriving DecidableEq, Repr

/-- R179. -/
structure FrameHead where
  show_ : Nat
  heads : Nat
  guards : Nat
  intraAll : Bool
  resync : Bool
  deriving DecidableEq, Repr

/-- One layer entry of a CELL_HEAD (R180), its disparity already clamped. -/
structure LayerHead where
  disp : Int
  predicted : Bool
  len : Nat
  deriving DecidableEq, Repr

/-- R180. -/
structure CellHead where
  rep : Bool
  bg : List Nat
  ref : Nat
  layers : List LayerHead
  deriving DecidableEq, Repr

/-- The assembly of one cell of a frame: its head, the chunks held (layer, offset, bytes), the layers begun (1 queued or
decoding, 2 decoded), one more than the version slot it writes (0 for none), whether it is complete, and whether ingest has
ceased to pursue it (R196). -/
structure CellAsm where
  head : Option CellHead
  chunks : List (Nat × Nat × Bytes)
  layers : Tab Nat
  slot : Nat
  complete : Bool
  given : Bool
  deriving DecidableEq, Repr

/-- A frame under assembly (R188, R196). Cells by (cy + 1) * 256 + (cx + 1). -/
structure Asm where
  head : Option FrameHead
  cells : Tab CellAsm
  /-- Expected signatures by region, and first region indices of the GUARD packets. -/
  guards : Tab Nat
  guardKeys : List Nat
  /-- Accepted packets, oldest first, for the clip store (R202). -/
  packets : List Bytes
  deriving DecidableEq, Repr

/-- The current version of a cell (R190): its slot, tag and layer count. -/
structure CellVer where
  slot : Nat
  tag : Nat
  layers : Nat
  deriving DecidableEq, Repr

/-- A complete layer bitstream waiting for a decoder slice (R199). -/
structure LayerJob where
  frame : Nat
  cell : Nat
  layer : Nat
  data : Bytes
  deriving DecidableEq, Repr

/-- A record job of the clip store (R203, R204). -/
structure RecJob where
  desc : Nat
  base : Nat
  size : Nat
  limit : Nat
  waitIntra : Bool
  written : Nat
  frames : Nat
  deriving DecidableEq, Repr

/-- A playback job of the clip store (R203, R205, R206). -/
structure PlayJob where
  desc : Nat
  base : Nat
  size : Nat
  limit : Nat
  loop : Bool
  show_ : Nat
  pos : Nat
  frames : Nat
  /-- Added to every frame number, modulo 2^32. -/
  offset : Nat
  deriving DecidableEq, Repr

/-- Scene ingest and the clip store. -/
structure Ingest where
  /-- The target frame and the frame after it. -/
  cur : Asm
  nxt : Asm
  vers : Tab CellVer
  /-- Closed layer sets that can still be rendered, by address: one more than the slot that each references, by cell. -/
  closed : List (Nat × Tab Nat)
  waiting : List LayerJob
  /-- Layer sets begun (selects the address of ING_SET.next). -/
  sets : Nat
  recJob : Option RecJob
  playJob : Option PlayJob
  clipStop : Bool
  /-- Port of the latest valid packet, by stream (R569). -/
  ports : Tab Nat
  /-- Free-running time of the latest valid packet, by stream (R187), in units of 2^-32 ns. -/
  seenAt : Tab Nat
  /-- The assembly deadline of the target has passed (R197). -/
  deadlineOver : Bool
  /-- Free-running time of the latest moment that R519 counts from, in units of 2^-32 ns. -/
  quietAt : Nat
  deriving DecidableEq, Repr

/-- A decoder slice's job (R219, R245): where it came from, and the result it will deliver. -/
structure DecJob where
  fromIngest : Bool
  frame : Nat
  cell : Nat
  layer : Nat
  desc : Nat
  dest : Nat
  pixels : List Nat
  err : Nat
  consumed : Nat
  blocks : Nat
  raw : Nat
  deriving DecidableEq, Repr

/-- Frame timing (R508 to R522). -/
structure Frame where
  /-- Active time of the latest period start and of the latest latch point, in units of 2^-32 ns. -/
  startAt : Int
  /-- Show time of the latest SYNC sent, not yet reached. -/
  showDue : Option Nat
  lastFrame : Nat
  /-- The frame programs of the next and after slots, 0 for none (R515). -/
  progNext : Nat
  progAfter : Nat
  restAsked : Bool
  restDecided : Bool
  restTrigger : Bool
  afterRest : Bool
  /-- Lead instant from which the first period counts T_max. -/
  readyAt : Option Int
  deriving DecidableEq, Repr

/-- One temperature sample (R528): its time in µs and the readings of the three dies. -/
structure Sample where
  t : Nat
  r0 : Int
  r1 : Int
  r2 : Int
  deriving DecidableEq, Repr

/-- A DRAM quantity under self-trim (R545 to R547). -/
structure TrimQ where
  value : Nat
  centre : Nat
  bench : Nat
  ends : Nat
  noted : Bool
  due : Bool
  deriving DecidableEq, Repr

/-- Health and governor. -/
structure Health where
  samples : List Sample
  /-- Consecutive samples above and below, by level: 0 WARN, 1 THROTTLE, 2 CRIT, 3 RATE_WARN, 4 RATE_ACT. -/
  above : Tab Nat
  below : Tab Nat
  flags : Nat
  invalid : Tab Nat
  calm : Nat
  /-- Shutdown in progress, and the rails cut. -/
  shutdown : Bool
  calmLatches : Nat
  power : Tab TilePower
  /-- The latest prediction of each tile, in 0.1 W (R536). -/
  predicted : Tab Nat
  zoneWarned : List Nat
  quants : Tab TrimQ
  deriving DecidableEq, Repr

/-- A page write on its way to commit (R591), and with the last write of a descriptor its ticket and its result (R592). -/
structure PageWrite where
  page : Nat
  data : Bytes
  owner : Option (Nat × Nat)
  deriving DecidableEq, Repr

/-- A host NVM command in progress (R604): its status, the bytes that it leaves in NVM_DATA, and its bank. -/
structure NvmHost where
  status : Nat
  data : Bytes
  bank : Nat
  deriving DecidableEq, Repr

/-- The embedded NVM (R587 to R604). -/
structure Nvm where
  cells : Tab Byte
  /-- Groups with an uncorrectable error, and groups with an error that the code corrects (R588). -/
  bad : List Nat
  soft : List Nat
  /-- Page writes begun and not committed, oldest first. -/
  writes : List PageWrite
  /-- Password hashes by 2 * partition + kind, as 64 bytes; none for no password. -/
  passwords : Tab Bytes
  host : Option NvmHost
  /-- The device certificate in IDENT (R574). -/
  cert : Bytes
  /-- The board record as found at the latest cold boot, from its head to the end of its lane section; empty when it is
  absent (R600, R616). -/
  board : Bytes
  deriving DecidableEq, Repr

/-- A section of an image (R107). -/
structure ImageSection where
  type : Nat
  size : Nat
  offset : Nat
  load : Nat
  deriving DecidableEq, Repr

/-- An image verified and loaded (R579): the address of its header, its sections, and its header and signature block. -/
structure LoadedImage where
  header : Nat
  sections : List ImageSection
  blob : Bytes
  kind : Nat
  deriving DecidableEq, Repr

/-- The trust engine and the fuses (R572 to R586). -/
structure Trust where
  serial : BitVec 64
  vendorHashes : List Bytes
  revoked : BitVec 4
  fuseKey : BitVec 256
  images : List LoadedImage
  boot : Bytes
  fieldTable : Bytes
  signings : Nat
  deriving DecidableEq, Repr

/-- A PTP transmit frame queued (R506), or a timestamp entry (R507). -/
structure PtpTx where
  ident : Nat
  buf : Nat
  len : Nat
  deriving DecidableEq, Repr

/-- R503, R507. -/
structure Tsq where
  ident : Nat
  a : Nat
  b : Nat
  free : Nat
  deriving DecidableEq, Repr

/-- The PTP side of a scene port. -/
structure PtpPort where
  tx : List PtpTx
  tsq : List Tsq
  deriving DecidableEq, Repr

/-- Correction tables (R375 to R380): bytes by window offset where they differ from the reset content. -/
structure Corr where
  active : Tab Byte
  shadow : Tab Byte
  /-- Window writes that wait for a resync, oldest first. -/
  waiting : List (Nat × Bytes)
  deriving DecidableEq, Repr

/-- The TAP's instructions (R663). -/
inductive TapInstr
  | extest | idcode | samplePreload | extestPulse | extestTrain | clamp | highz | debugHalt | debugRelease | bypass
  deriving DecidableEq, Repr

/-- Pins and boot (R605 to R616, R651, R663). -/
structure Pins where
  pwrOkAon : Bool
  pwrEnMain : Bool
  pwrOkMain : Bool
  /-- THERM_ALERT_N is driven low. -/
  thermAlert : Bool
  testEn : Bool
  tap : TapInstr
  /-- A test instruction holds the lands, and boot does not advance (R664). -/
  tapHolds : Bool
  /-- The identification register, as IDCODE captures it. -/
  idReg : BitVec 32
  /-- Staging: address and length of the image in hand. -/
  stageAddr : Nat
  stageLen : Nat
  /-- Both references missing, and M0 runs from its own oscillator (R621). -/
  holdover : Bool
  freeRun : Bool
  /-- DRAM_MAP before the latest warm reset (R611): grain_log2 and order. -/
  oldMap : Option (Nat × Nat)
  warmDue : Nat
  deriving DecidableEq, Repr

/-- What leaves the block: the line bits of a cell on a transmit lane (R414 to R416), an Ethernet frame, an MSI-X message, a host
completion (poisoned or aborted). -/
inductive Emission
  | line (link : Nat) (bits : Line)
  | ethernet (port : Nat) (frame : Bytes)
  | msix (vector : Nat)
  | completion (data : Bytes) (poisoned : Bool)
  | abort
  deriving DecidableEq, Repr

/-- The block. -/
structure State where
  part : Member
  /-- The commands that wait, first in, first out. -/
  pending : List Instr
  clk : Clock
  regs : Tab Cell
  sq : Seqs
  eng : Tab EngQ
  /-- Hub-die engines out of service, as class * 4096 + instance (R554). -/
  engDown : List Nat
  mem : Mem
  fm : FaultMgr
  host : HostIf
  clusters : Tab Cluster
  links : Tab Link
  svc : Tab LinkSvc
  tiles : Tab Tile
  hub : FrameHub
  ing : Ingest
  dec : Tab DecJob
  frame : Frame
  health : Health
  nvm : Nvm
  trust : Trust
  ptp : Tab PtpPort
  corr : Corr
  pins : Pins
  /-- What has left the block, newest first. -/
  out : List Emission
  /-- The model's own counter of free values used (log 5). -/
  nfree : Nat
  deriving DecidableEq, Repr

namespace State

/-- A counter at zero. -/
def zeroCounter : Counter := ⟨0, 0, 0⟩

/-- A frame with nothing held. -/
def emptyAsm : Asm := ⟨none, [], [], [], []⟩

/-- The machine right after reset: the always-on reset before boot stage 1 begins its work. Registers at their reset
values (none listed), memory with nothing listed, the queue empty. -/
def reset : State where
  part := .x512
  pending := []
  clk := ⟨zeroCounter, zeroCounter, zeroCounter, 0, 0, [], []⟩
  regs := []
  sq := ⟨[], none, 0, false, [], false, []⟩
  eng := []
  engDown := []
  mem := { cells := [], bad := [], badCopy := [], soft := [], parity := [], badPar := [], eccErrs := [], restore := [], stalls := 0,
           zonesOn := false, gather := [], openRow := [], timing := [] }
  fm := ⟨[], none, [], [], [], [], [], [], 0, none⟩
  host := ⟨.d0, false, false, [], 0, []⟩
  clusters := []
  links := []
  svc := []
  tiles := []
  hub := ⟨[], [], [], [], 0, [], [], [], []⟩
  ing := ⟨emptyAsm, emptyAsm, [], [], [], 0, none, none, false, [], [], false, 0⟩
  dec := []
  frame := ⟨0, none, 0, 0, 0, false, false, false, false, none⟩
  health := ⟨[], [], [], 0, [], 0, false, 0, [], [], [], []⟩
  nvm := ⟨[(0x24000, 1)], [], [], [], [], none, [], []⟩
  trust := ⟨0, [], 0, 0, [], [], [], 0⟩
  ptp := []
  corr := ⟨[], [], []⟩
  pins := ⟨false, false, false, false, false, .idcode, false, 0, 0, 0, false, false, none, 0⟩
  out := []
  nfree := 0

end State

end Sys2Proof.Machine
end

