-- ==== Sys2Proof/Machine/Fields.lean ====
section
/-! DEFINITION. The field tables of the spec (R86 to R89 and the register section of each chapter), one row per field or
array of fields, and the lookups over them. -/
namespace Sys2Proof.Machine
open Sys2Proof

/-- R8. -/
inductive Access
  | ro | rw | w1c | rc | wo
  deriving DecidableEq, Repr

/-- R13. -/
inductive Apply
  | now | band | frame | rest | boot
  deriving DecidableEq, Repr

/-- Which instances of a unit hold a row. `mirz` is the instance of common slice 0 alone (R275). -/
inductive InstKind
  | one | ports | decoders | clusters | slices | channels | links | mirz
  deriving DecidableEq, Repr

/-- What a bound may depend on: the accepted values of other fields (R44), the member, the instance and the index. -/
structure Env where
  acc : Nat → Int
  p : Params
  inst : Nat
  rep : Nat

/-- One row of a field table: an array of `reps` fields, field numbers `fstep` and offsets `ostep` apart. -/
structure FieldRow where
  unit : Nat
  kind : InstKind
  fno : Nat
  reps : Params → Nat
  fstep : Nat
  off : Nat
  ostep : Nat
  lsb : Nat
  width : Nat
  access : Access
  signed : Bool
  lo : Env → Int
  hi : Env → Int
  step : Int
  rst : Params → Nat → Nat → Int
  apply : Apply

/-- R87, R642: instances of a unit on a member. -/
def InstKind.count (k : InstKind) (p : Params) : Nat :=
  match k with
  | .one => 1
  | .ports => p.ports
  | .decoders => p.decoders
  | .clusters => p.clusters
  | .slices => p.clusters + 16
  | .channels => p.channels
  | .links => p.tileLinks
  | .mirz => p.clusters + 1

/-- The instance exists and holds the row. -/
def InstKind.holds (k : InstKind) (p : Params) (i : Nat) : Bool :=
  match k with
  | .mirz => i == p.clusters
  | _ => decide (i < k.count p)

/-- R26. -/
def tabR26 : List FieldRow := [
  ⟨0x00, .one, 0x27, fun _ => 1, 0, 0x50, 0x0, 0, 2, .rw, false, fun _ => 1, fun _ => 2, 1, fun _ _ _ => ((2 : Nat) : Int), .frame⟩,  -- TILE_GEOM_tile_w
  ⟨0x00, .one, 0x28, fun _ => 1, 0, 0x50, 0x0, 4, 2, .rw, false, fun _ => 1, fun _ => 2, 1, fun _ _ _ => ((2 : Nat) : Int), .frame⟩,  -- TILE_GEOM_tile_h
  ⟨0x00, .one, 0x29, fun _ => 1, 0, 0x50, 0x0, 16, 11, .ro, false, fun _ => 0, fun _ => 2047, 1, fun _ _ _ => ((0 : Nat) : Int), .now⟩]  -- TILE_GEOM_unlinked

/-- R34. -/
def tabR34 : List FieldRow := [
  ⟨0x00, .one, 0x10, fun _ => 1, 0, 0x8, 0x0, 0, 4, .ro, false, fun _ => 0, fun _ => 15, 1, fun p _ _ => ((p.code : Nat) : Int), .now⟩,  -- FAMILY_member
  ⟨0x00, .one, 0x11, fun _ => 1, 0, 0x8, 0x0, 4, 4, .ro, false, fun _ => 0, fun _ => 15, 1, fun _ _ _ => ((0 : Nat) : Int), .now⟩,  -- FAMILY_stepping
  ⟨0x00, .one, 0x12, fun _ => 1, 0, 0x8, 0x0, 8, 4, .ro, false, fun _ => 0, fun _ => 15, 1, fun p _ _ => ((p.ports : Nat) : Int), .now⟩,  -- FAMILY_scene_ports
  ⟨0x00, .one, 0x13, fun _ => 1, 0, 0x8, 0x0, 12, 1, .ro, false, fun _ => 0, fun _ => 1, 1, fun p _ _ => ((p.portSpeed : Nat) : Int), .now⟩,  -- FAMILY_port_speed
  ⟨0x00, .one, 0x14, fun _ => 1, 0, 0x8, 0x0, 13, 2, .ro, false, fun _ => 0, fun _ => 3, 1, fun p _ _ => ((p.pcieWidth : Nat) : Int), .now⟩,  -- FAMILY_pcie_width
  ⟨0x00, .one, 0x15, fun _ => 1, 0, 0x8, 0x0, 16, 10, .ro, false, fun _ => 0, fun _ => 1023, 1, fun p _ _ => ((p.tileLinks : Nat) : Int), .now⟩,  -- FAMILY_tile_links
  ⟨0x00, .one, 0x16, fun _ => 1, 0, 0x8, 0x0, 26, 7, .ro, false, fun _ => 0, fun _ => 127, 1, fun p _ _ => ((p.active : Nat) : Int), .now⟩,  -- FAMILY_clusters_active
  ⟨0x00, .one, 0x17, fun _ => 1, 0, 0x8, 0x0, 33, 3, .ro, false, fun _ => 0, fun _ => 7, 1, fun p _ _ => ((p.spare : Nat) : Int), .now⟩,  -- FAMILY_clusters_spare
  ⟨0x00, .one, 0x18, fun _ => 1, 0, 0x8, 0x0, 36, 11, .ro, false, fun _ => 0, fun _ => 2047, 1, fun p _ _ => ((p.plots : Nat) : Int), .now⟩,  -- FAMILY_plots
  ⟨0x00, .one, 0x19, fun _ => 1, 0, 0x8, 0x0, 47, 5, .ro, false, fun _ => 0, fun _ => 31, 1, fun p _ _ => ((p.channels : Nat) : Int), .now⟩,  -- FAMILY_dram_channels
  ⟨0x00, .one, 0x1A, fun _ => 1, 0, 0x8, 0x0, 52, 2, .ro, false, fun _ => 0, fun _ => 3, 1, fun p _ _ => ((p.groups : Nat) : Int), .now⟩,  -- FAMILY_parity_groups
  ⟨0x00, .one, 0x1B, fun _ => 1, 0, 0x8, 0x0, 54, 9, .ro, false, fun _ => 0, fun _ => 511, 1, fun p _ _ => ((p.paddockMib : Nat) : Int), .now⟩]  -- FAMILY_paddock_mib

/-- R36. -/
def tabR36 : List FieldRow := [
  ⟨0x00, .one, 0x1C, fun _ => 1, 0, 0x10, 0x0, 0, 6, .ro, false, fun _ => 0, fun _ => 63, 1, fun p _ _ => ((p.decoders : Nat) : Int), .now⟩,  -- FAMILY_EXT_decoders
  ⟨0x00, .one, 0x1D, fun _ => 1, 0, 0x10, 0x0, 8, 10, .ro, false, fun _ => 0, fun _ => 1023, 1, fun p _ _ => ((p.commonMib : Nat) : Int), .now⟩]  -- FAMILY_EXT_common_mib

/-- R43. -/
def tabR43 : List FieldRow := [
  ⟨0x00, .one, 0x20, fun _ => 1, 0, 0x40, 0x0, 0, 8, .rw, false, fun _ => 1, fun e => min 128 (512 / max 1 (e.acc (Reg.RAY_GEOM_bear_v))), 1, fun _ _ _ => ((64 : Nat) : Int), .frame⟩,  -- RAY_GEOM_bear_h
  ⟨0x00, .one, 0x21, fun _ => 1, 0, 0x40, 0x0, 8, 4, .rw, false, fun _ => 1, fun e => min 8 (512 / max 1 (e.acc (Reg.RAY_GEOM_bear_h))), 1, fun _ _ _ => ((8 : Nat) : Int), .frame⟩,  -- RAY_GEOM_bear_v
  ⟨0x00, .one, 0x22, fun _ => 1, 0, 0x40, 0x0, 16, 16, .rw, false, fun _ => 0, fun _ => 32767, 1, fun _ _ _ => ((16384 : Nat) : Int), .frame⟩,  -- RAY_GEOM_tan_h
  ⟨0x00, .one, 0x23, fun _ => 1, 0, 0x40, 0x0, 32, 16, .rw, false, fun _ => 0, fun _ => 32767, 1, fun _ _ _ => ((4096 : Nat) : Int), .frame⟩,  -- RAY_GEOM_tan_v
  ⟨0x00, .one, 0x24, fun _ => 1, 0, 0x40, 0x0, 48, 16, .ro, false, fun _ => 0, fun _ => 65535, 1, fun _ _ _ => ((5461 : Nat) : Int), .frame⟩]  -- RAY_GEOM_kq

/-- R62. -/
def tabR62 : List FieldRow := [
  ⟨0x00, .one, 0x25, fun _ => 1, 0, 0x48, 0x0, 0, 32, .rc, false, fun _ => 0, fun _ => 4294967295, 1, fun _ _ _ => ((0 : Nat) : Int), .now⟩,  -- RAY_COUNT_shear_clamps
  ⟨0x00, .one, 0x26, fun _ => 1, 0, 0x48, 0x0, 32, 32, .rc, false, fun _ => 0, fun _ => 4294967295, 1, fun _ _ _ => ((0 : Nat) : Int), .now⟩]  -- RAY_COUNT_reserved_px

/-- R103. -/
def tabR103 : List FieldRow := [
  ⟨0x01, .one, 0x1, fun _ => 1, 0, 0x0, 0x0, 0, 2, .ro, false, fun _ => 0, fun _ => 3, 1, fun _ _ _ => ((0 : Nat) : Int), .now⟩,  -- MSH_STATUS_state
  ⟨0x01, .one, 0x2, fun _ => 1, 0, 0x0, 0x0, 2, 1, .ro, false, fun _ => 0, fun _ => 1, 1, fun _ _ _ => ((1 : Nat) : Int), .now⟩,  -- MSH_STATUS_lockstep
  ⟨0x01, .one, 0x3, fun _ => 1, 0, 0x0, 0x0, 8, 8, .ro, false, fun _ => 0, fun _ => 255, 1, fun _ _ _ => ((0 : Nat) : Int), .now⟩,  -- MSH_STATUS_trap_cause
  ⟨0x01, .one, 0x4, fun _ => 1, 0, 0x0, 0x0, 16, 16, .rc, false, fun _ => 0, fun _ => 65535, 1, fun _ _ _ => ((0 : Nat) : Int), .now⟩,  -- MSH_STATUS_restarts
  ⟨0x01, .one, 0x5, fun _ => 1, 0, 0x8, 0x0, 0, 40, .ro, false, fun _ => 0, fun _ => 1099511627775, 1, fun _ _ _ => ((0 : Nat) : Int), .now⟩,  -- MSH_PC_pc
  ⟨0x01, .one, 0x6, fun _ => 1, 0, 0x10, 0x0, 0, 40, .ro, false, fun _ => 0, fun _ => 1099511627775, 1, fun _ _ _ => ((0 : Nat) : Int), .now⟩,  -- MSH_PROG_active
  ⟨0x01, .one, 0x7, fun _ => 1, 0, 0x18, 0x0, 0, 40, .ro, false, fun _ => 0, fun _ => 1099511627775, 1, fun _ _ _ => ((0 : Nat) : Int), .now⟩,  -- MSH_PROG_pending
  ⟨0x01, .one, 0x8, fun _ => 1, 0, 0x20, 0x0, 0, 64, .ro, false, fun _ => 0, fun _ => 18446744073709551615, 1, fun _ _ _ => ((0 : Nat) : Int), .now⟩,  -- MSH_CKPT_frame
  ⟨0x01, .one, 0x9, fun _ => 1, 0, 0x28, 0x0, 0, 16, .wo, false, fun _ => 0, fun _ => 65535, 1, fun _ _ _ => ((0 : Nat) : Int), .now⟩,  -- MSH_DOORBELL_events
  ⟨0x01, .one, 0xA, fun _ => 1, 0, 0x28, 0x0, 16, 16, .ro, false, fun _ => 0, fun _ => 65535, 1, fun _ _ _ => ((0 : Nat) : Int), .now⟩]  -- MSH_DOORBELL_reserved_

/-- R104. -/
def tabR104 : List FieldRow := [
  ⟨0x20, .clusters, 0xF01, fun _ => 1, 0, 0xF00, 0x0, 0, 2, .ro, false, fun _ => 0, fun _ => 3, 1, fun _ _ _ => ((0 : Nat) : Int), .now⟩,  -- SEQ_STATUS_state
  ⟨0x20, .clusters, 0xF02, fun _ => 1, 0, 0xF00, 0x0, 8, 8, .ro, false, fun _ => 0, fun _ => 255, 1, fun _ _ _ => ((0 : Nat) : Int), .now⟩,  -- SEQ_STATUS_trap_cause
  ⟨0x20, .clusters, 0xF03, fun _ => 1, 0, 0xF00, 0x0, 16, 7, .ro, false, fun _ => 0, fun _ => 127, 1, fun _ _ _ => ((127 : Nat) : Int), .now⟩,  -- SEQ_STATUS_logical
  ⟨0x20, .clusters, 0xF04, fun _ => 1, 0, 0xF00, 0x0, 24, 7, .ro, false, fun _ => 0, fun _ => 127, 1, fun _ inst _ => ((inst : Nat) : Int), .now⟩,  -- SEQ_STATUS_physical
  ⟨0x20, .clusters, 0xF05, fun _ => 1, 0, 0xF08, 0x0, 0, 40, .ro, false, fun _ => 0, fun _ => 1099511627775, 1, fun _ _ _ => ((0 : Nat) : Int), .now⟩]  -- SEQ_PC_pc

/-- R105. -/
def tabR105 : List FieldRow := [
  ⟨0x02, .one, 0x1, fun _ => 1, 0, 0x0, 0x0, 0, 3, .ro, false, fun _ => 0, fun _ => 7, 1, fun _ _ _ => ((0 : Nat) : Int), .now⟩,  -- CHK_HOST_status
  ⟨0x02, .one, 0x2, fun _ => 1, 0, 0x0, 0x0, 32, 32, .ro, false, fun _ => 0, fun _ => 4294967295, 1, fun _ _ _ => ((0 : Nat) : Int), .now⟩,  -- CHK_HOST_handle
  ⟨0x02, .one, 0x3, fun _ => 1, 0, 0x8, 0x0, 0, 16, .ro, false, fun _ => 0, fun _ => 65535, 1, fun _ _ _ => ((0 : Nat) : Int), .now⟩,  -- CLOG_IDX_head
  ⟨0x02, .one, 0x4, fun _ => 1, 0, 0x8, 0x0, 16, 16, .rw, false, fun _ => 0, fun _ => 65535, 1, fun _ _ _ => ((0 : Nat) : Int), .now⟩,  -- CLOG_IDX_tail
  ⟨0x02, .one, 0x5, fun _ => 1, 0, 0x10, 0x0, 0, 32, .ro, false, fun _ => 0, fun _ => 4294967295, 1, fun _ _ _ => ((0 : Nat) : Int), .now⟩,  -- CLOG_OVF_count
  ⟨0x02, .one, 0x6, fun _ => 1, 0, 0x18, 0x0, 0, 1, .wo, false, fun _ => 0, fun _ => 1, 1, fun _ _ _ => ((0 : Nat) : Int), .now⟩]  -- CLOG_CTRL_clear_ovf

/-- R208. -/
def tabR208a : List FieldRow := [
  ⟨0x10, .ports, 0x1, fun _ => 1, 0, 0x0, 0x0, 0, 1, .rw, false, fun _ => 0, fun _ => 1, 1, fun _ _ _ => ((0 : Nat) : Int), .now⟩,  -- PORT_CTRL_enable
  ⟨0x10, .ports, 0x2, fun _ => 1, 0, 0x0, 0x0, 1, 1, .rw, false, fun _ => 0, fun _ => 1, 1, fun _ _ _ => ((0 : Nat) : Int), .now⟩,  -- PORT_CTRL_split
  ⟨0x10, .ports, 0x3, fun _ => 1, 0, 0x0, 0x0, 2, 2, .rw, false, fun _ => 0, fun _ => 2, 1, fun _ _ _ => ((0 : Nat) : Int), .now⟩,  -- PORT_CTRL_fec
  ⟨0x10, .ports, 0x4, fun _ => 1, 0, 0x0, 0x0, 4, 1, .rw, false, fun _ => 0, fun _ => 1, 1, fun _ _ _ => ((0 : Nat) : Int), .now⟩,  -- PORT_CTRL_vlan_en
  ⟨0x10, .ports, 0x5, fun _ => 1, 0, 0x0, 0x0, 5, 12, .rw, false, fun _ => 1, fun _ => 4094, 1, fun _ _ _ => ((1 : Nat) : Int), .now⟩,  -- PORT_CTRL_vlan_id
  ⟨0x10, .ports, 0x6, fun _ => 1, 0, 0x8, 0x0, 0, 32, .rw, false, fun _ => 0, fun _ => 4294967295, 1, fun _ _ _ => ((0 : Nat) : Int), .now⟩,  -- PORT_MAC_low
  ⟨0x10, .ports, 0x7, fun _ => 1, 0, 0x8, 0x0, 32, 16, .rw, false, fun _ => 0, fun _ => 65535, 1, fun _ _ _ => ((0 : Nat) : Int), .now⟩,  -- PORT_MAC_high
  ⟨0x10, .ports, 0x8, fun _ => 1, 0, 0x10, 0x0, 0, 32, .rw, false, fun _ => 0, fun _ => 4294967295, 1, fun _ _ _ => ((0 : Nat) : Int), .now⟩,  -- PORT_ADDR_ipv4
  ⟨0x10, .ports, 0x9, fun _ => 1, 0, 0x10, 0x0, 32, 16, .rw, false, fun _ => 1, fun _ => 65535, 1, fun _ _ _ => ((47740 : Nat) : Int), .now⟩,  -- PORT_ADDR_udp_scene
  ⟨0x10, .ports, 0xA, fun _ => 1, 0, 0x18, 0x0, 0, 32, .rw, false, fun _ => 0, fun _ => 4294967295, 1, fun _ _ _ => ((0 : Nat) : Int), .now⟩,  -- PORT_IPV6_w0
  ⟨0x10, .ports, 0xB, fun _ => 1, 0, 0x18, 0x0, 32, 32, .rw, false, fun _ => 0, fun _ => 4294967295, 1, fun _ _ _ => ((0 : Nat) : Int), .now⟩,  -- PORT_IPV6_w1
  ⟨0x10, .ports, 0xC, fun _ => 1, 0, 0x20, 0x0, 0, 32, .rw, false, fun _ => 0, fun _ => 4294967295, 1, fun _ _ _ => ((0 : Nat) : Int), .now⟩,  -- PORT_IPV6_w2
  ⟨0x10, .ports, 0xD, fun _ => 1, 0, 0x20, 0x0, 32, 32, .rw, false, fun _ => 0, fun _ => 4294967295, 1, fun _ _ _ => ((0 : Nat) : Int), .now⟩,  -- PORT_IPV6_w3
  ⟨0x10, .ports, 0xE, fun _ => 1, 0, 0x28, 0x0, 0, 32, .rw, false, fun _ => 0, fun _ => 4294967295, 1, fun _ _ _ => ((0 : Nat) : Int), .now⟩]  -- PORT_GROUP_ipv4

/-- R208. -/
def tabR208b : List FieldRow := [
  ⟨0x10, .ports, 0xF, fun _ => 1, 0, 0x30, 0x0, 0, 32, .rw, false, fun _ => 0, fun _ => 4294967295, 1, fun _ _ _ => ((0 : Nat) : Int), .now⟩,  -- PORT_GROUP_v6w0
  ⟨0x10, .ports, 0x10, fun _ => 1, 0, 0x30, 0x0, 32, 32, .rw, false, fun _ => 0, fun _ => 4294967295, 1, fun _ _ _ => ((0 : Nat) : Int), .now⟩,  -- PORT_GROUP_v6w1
  ⟨0x10, .ports, 0x11, fun _ => 1, 0, 0x38, 0x0, 0, 32, .rw, false, fun _ => 0, fun _ => 4294967295, 1, fun _ _ _ => ((0 : Nat) : Int), .now⟩,  -- PORT_GROUP_v6w2
  ⟨0x10, .ports, 0x12, fun _ => 1, 0, 0x38, 0x0, 32, 32, .rw, false, fun _ => 0, fun _ => 4294967295, 1, fun _ _ _ => ((0 : Nat) : Int), .now⟩,  -- PORT_GROUP_v6w3
  ⟨0x10, .ports, 0x13, fun _ => 1, 0, 0x40, 0x0, 0, 4, .ro, false, fun _ => 0, fun _ => 15, 1, fun _ _ _ => ((0 : Nat) : Int), .now⟩,  -- PORT_STATUS_link
  ⟨0x10, .ports, 0x14, fun _ => 1, 0, 0x40, 0x0, 4, 4, .ro, false, fun _ => 0, fun _ => 15, 1, fun _ _ _ => ((0 : Nat) : Int), .now⟩,  -- PORT_STATUS_fec_lock
  ⟨0x10, .ports, 0x15, fun _ => 1, 0, 0x48, 0x0, 0, 32, .rc, false, fun _ => 0, fun _ => 4294967295, 1, fun _ _ _ => ((0 : Nat) : Int), .now⟩,  -- PORT_CNT_frames
  ⟨0x10, .ports, 0x16, fun _ => 1, 0, 0x48, 0x0, 32, 32, .rc, false, fun _ => 0, fun _ => 4294967295, 1, fun _ _ _ => ((0 : Nat) : Int), .now⟩,  -- PORT_CNT_bad_fcs
  ⟨0x10, .ports, 0x17, fun _ => 1, 0, 0x50, 0x0, 0, 32, .rc, false, fun _ => 0, fun _ => 4294967295, 1, fun _ _ _ => ((0 : Nat) : Int), .now⟩,  -- PORT_CNT_scene
  ⟨0x10, .ports, 0x18, fun _ => 1, 0, 0x50, 0x0, 32, 32, .rc, false, fun _ => 0, fun _ => 4294967295, 1, fun _ _ _ => ((0 : Nat) : Int), .now⟩,  -- PORT_CNT_scene_bad
  ⟨0x10, .ports, 0x19, fun _ => 1, 0, 0x58, 0x0, 0, 32, .rc, false, fun _ => 0, fun _ => 4294967295, 1, fun _ _ _ => ((0 : Nat) : Int), .now⟩]  -- PORT_CNT_filtered

/-- R209. -/
def tabR209a : List FieldRow := [
  ⟨0x10, .one, 0x801, fun _ => 1, 0, 0x1800, 0x0, 0, 16, .rw, false, fun _ => 0, fun _ => 65535, 1, fun _ _ _ => ((0 : Nat) : Int), .frame⟩,  -- ING_SECTION_id
  ⟨0x10, .one, 0x802, fun _ => 1, 0, 0x1800, 0x0, 16, 6, .rw, false, fun _ => 1, fun e => min 32 ((e.p.plots : Int) / max 1 (e.acc (Reg.ING_SECTION_plots_y))), 1, fun p _ _ => ((p.sectX : Nat) : Int), .frame⟩,  -- ING_SECTION_plots_x
  ⟨0x10, .one, 0x803, fun _ => 1, 0, 0x1800, 0x0, 22, 6, .rw, false, fun _ => 1, fun e => min 32 ((e.p.plots : Int) / max 1 (e.acc (Reg.ING_SECTION_plots_x))), 1, fun p _ _ => ((p.sectY : Nat) : Int), .frame⟩,  -- ING_SECTION_plots_y
  ⟨0x10, .one, 0x804, fun _ => 1, 0, 0x1808, 0x0, 0, 14, .rw, false, fun _ => 100, fun _ => 8000, 10, fun _ _ _ => ((1500 : Nat) : Int), .frame⟩,  -- ING_TIME_margin_us
  ⟨0x10, .one, 0x805, fun _ => 1, 0, 0x1808, 0x0, 16, 16, .rw, false, fun _ => 100, fun _ => 60000, 100, fun _ _ _ => ((2000 : Nat) : Int), .now⟩,  -- ING_TIME_loss_us
  ⟨0x10, .one, 0x806, fun _ => 1, 0, 0x1810, 0x0, 0, 32, .ro, false, fun _ => 0, fun _ => 4294967295, 1, fun _ _ _ => ((0 : Nat) : Int), .now⟩,  -- ING_STATE_target
  ⟨0x10, .one, 0x807, fun _ => 1, 0, 0x1810, 0x0, 32, 1, .ro, false, fun _ => 0, fun _ => 1, 1, fun _ _ _ => ((0 : Nat) : Int), .now⟩,  -- ING_STATE_a_alive
  ⟨0x10, .one, 0x808, fun _ => 1, 0, 0x1810, 0x0, 33, 1, .ro, false, fun _ => 0, fun _ => 1, 1, fun _ _ _ => ((0 : Nat) : Int), .now⟩,  -- ING_STATE_b_alive
  ⟨0x10, .one, 0x809, fun _ => 1, 0, 0x1810, 0x0, 34, 1, .ro, false, fun _ => 0, fun _ => 1, 1, fun _ _ _ => ((0 : Nat) : Int), .now⟩,  -- ING_STATE_playback
  ⟨0x10, .one, 0x80A, fun _ => 1, 0, 0x1810, 0x0, 35, 1, .ro, false, fun _ => 0, fun _ => 1, 1, fun _ _ _ => ((0 : Nat) : Int), .now⟩,  -- ING_STATE_assembled
  ⟨0x10, .one, 0x80B, fun _ => 1, 0, 0x1818, 0x0, 0, 40, .ro, false, fun _ => 0, fun _ => 1099511627775, 1, fun _ _ _ => ((0 : Nat) : Int), .now⟩,  -- ING_SET_next
  ⟨0x10, .one, 0x80C, fun _ => 1, 0, 0x1820, 0x0, 0, 20, .rw, false, fun _ => 0x10000, fun _ => 0xFFFFF, 1, fun _ _ _ => ((65536 : Nat) : Int), .boot⟩,  -- ING_BUF_base
  ⟨0x10, .one, 0x80D, fun _ => 1, 0, 0x1820, 0x0, 32, 16, .rw, false, fun e => ((3 * e.p.plots + 1) / 2 : Nat), fun _ => 65535, 1, fun _ _ _ => ((1536 : Nat) : Int), .boot⟩,  -- ING_BUF_size_mib
  ⟨0x10, .one, 0x80E, fun _ => 1, 0, 0x1828, 0x0, 0, 1, .wo, false, fun _ => 0, fun _ => 1, 1, fun _ _ _ => ((0 : Nat) : Int), .now⟩]  -- CLIP_CTRL_stop

/-- R209. -/
def tabR209b : List FieldRow := [
  ⟨0x10, .one, 0x80F, fun _ => 1, 0, 0x1840, 0x0, 0, 32, .rc, false, fun _ => 0, fun _ => 4294967295, 1, fun _ _ _ => ((0 : Nat) : Int), .now⟩,  -- ING_CNT_late
  ⟨0x10, .one, 0x810, fun _ => 1, 0, 0x1840, 0x0, 32, 32, .rc, false, fun _ => 0, fun _ => 4294967295, 1, fun _ _ _ => ((0 : Nat) : Int), .now⟩,  -- ING_CNT_early
  ⟨0x10, .one, 0x811, fun _ => 1, 0, 0x1848, 0x0, 0, 32, .rc, false, fun _ => 0, fun _ => 4294967295, 1, fun _ _ _ => ((0 : Nat) : Int), .now⟩,  -- ING_CNT_dup
  ⟨0x10, .one, 0x812, fun _ => 1, 0, 0x1848, 0x0, 32, 32, .rc, false, fun _ => 0, fun _ => 4294967295, 1, fun _ _ _ => ((0 : Nat) : Int), .now⟩,  -- ING_CNT_overlap
  ⟨0x10, .one, 0x813, fun _ => 1, 0, 0x1850, 0x0, 0, 32, .rc, false, fun _ => 0, fun _ => 4294967295, 1, fun _ _ _ => ((0 : Nat) : Int), .now⟩,  -- ING_CNT_ref_miss
  ⟨0x10, .one, 0x814, fun _ => 1, 0, 0x1850, 0x0, 32, 32, .rc, false, fun _ => 0, fun _ => 4294967295, 1, fun _ _ _ => ((0 : Nat) : Int), .now⟩,  -- ING_CNT_cold_reject
  ⟨0x10, .one, 0x815, fun _ => 1, 0, 0x1858, 0x0, 0, 32, .rc, false, fun _ => 0, fun _ => 4294967295, 1, fun _ _ _ => ((0 : Nat) : Int), .now⟩,  -- ING_CNT_bad_head
  ⟨0x10, .one, 0x816, fun _ => 1, 0, 0x1858, 0x0, 32, 32, .rc, false, fun _ => 0, fun _ => 4294967295, 1, fun _ _ _ => ((0 : Nat) : Int), .now⟩,  -- ING_CNT_clamped
  ⟨0x10, .one, 0x817, fun _ => 1, 0, 0x1860, 0x0, 0, 32, .rc, false, fun _ => 0, fun _ => 4294967295, 1, fun _ _ _ => ((0 : Nat) : Int), .now⟩,  -- ING_CNT_deadline_miss
  ⟨0x10, .one, 0x818, fun _ => 1, 0, 0x1860, 0x0, 32, 32, .rc, false, fun _ => 0, fun _ => 4294967295, 1, fun _ _ _ => ((0 : Nat) : Int), .now⟩,  -- ING_CNT_rebases
  ⟨0x10, .one, 0x819, fun _ => 1, 0, 0x1868, 0x0, 0, 32, .rc, false, fun _ => 0, fun _ => 4294967295, 1, fun _ _ _ => ((0 : Nat) : Int), .now⟩]  -- ING_CNT_live_dropped

/-- R246. -/
def tabR246 : List FieldRow := [
  ⟨0x12, .decoders, 0x1, fun _ => 1, 0, 0x0, 0x0, 0, 2, .ro, false, fun _ => 0, fun _ => 3, 1, fun _ _ _ => ((0 : Nat) : Int), .now⟩,  -- DEC_STATUS_state
  ⟨0x12, .decoders, 0x2, fun _ => 1, 0, 0x0, 0x0, 2, 1, .ro, false, fun _ => 0, fun _ => 1, 1, fun _ _ _ => ((0 : Nat) : Int), .now⟩,  -- DEC_STATUS_source
  ⟨0x12, .decoders, 0x3, fun _ => 1, 0, 0x8, 0x0, 0, 32, .rc, false, fun _ => 0, fun _ => 4294967295, 1, fun _ _ _ => ((0 : Nat) : Int), .now⟩,  -- DEC_CNT_blocks
  ⟨0x12, .decoders, 0x4, fun _ => 1, 0, 0x8, 0x0, 32, 32, .rc, false, fun _ => 0, fun _ => 4294967295, 1, fun _ _ _ => ((0 : Nat) : Int), .now⟩,  -- DEC_CNT_raw
  ⟨0x12, .decoders, 0x5, fun _ => 1, 0, 0x10, 0x0, 0, 32, .rc, false, fun _ => 0, fun _ => 4294967295, 1, fun _ _ _ => ((0 : Nat) : Int), .now⟩,  -- DEC_CNT_errors
  ⟨0x12, .decoders, 0x6, fun _ => 1, 0, 0x10, 0x0, 32, 8, .ro, false, fun _ => 0, fun _ => 255, 1, fun _ _ _ => ((0 : Nat) : Int), .now⟩]  -- DEC_CNT_last_error

/-- R247. -/
def tabR247a : List FieldRow := [
  ⟨0x13, .clusters, 0x1, fun _ => 1, 0, 0x0, 0x0, 0, 7, .rw, false, fun _ => 1, fun _ => 64, 1, fun _ _ _ => ((8 : Nat) : Int), .frame⟩,  -- ENC_CTRL_ref_span
  ⟨0x13, .clusters, 0x2, fun _ => 1, 0, 0x0, 0x0, 8, 4, .rw, false, fun _ => 0, fun _ => 15, 1, fun _ _ _ => ((15 : Nat) : Int), .frame⟩,  -- ENC_CTRL_pred_mask
  ⟨0x13, .clusters, 0x3, fun _ => 1, 0, 0x8, 0x0, 0, 2, .ro, false, fun _ => 0, fun _ => 3, 1, fun _ _ _ => ((0 : Nat) : Int), .now⟩,  -- ENC_STATUS_state
  ⟨0x13, .clusters, 0x4, fun _ => 1, 0, 0x8, 0x0, 2, 1, .ro, false, fun _ => 0, fun _ => 1, 1, fun _ _ _ => ((0 : Nat) : Int), .now⟩,  -- ENC_STATUS_parked
  ⟨0x13, .clusters, 0x5, fun _ => 1, 0, 0x10, 0x0, 0, 32, .rc, false, fun _ => 0, fun _ => 4294967295, 1, fun _ _ _ => ((0 : Nat) : Int), .now⟩,  -- ENC_CNT_blocks
  ⟨0x13, .clusters, 0x6, fun _ => 1, 0, 0x10, 0x0, 32, 32, .rc, false, fun _ => 0, fun _ => 4294967295, 1, fun _ _ _ => ((0 : Nat) : Int), .now⟩,  -- ENC_CNT_raw_blocks
  ⟨0x13, .clusters, 0x7, fun _ => 1, 0, 0x18, 0x0, 0, 32, .rc, false, fun _ => 0, fun _ => 4294967295, 1, fun _ _ _ => ((0 : Nat) : Int), .now⟩,  -- ENC_CNT_verify_fail
  ⟨0x13, .clusters, 0x8, fun _ => 1, 0, 0x18, 0x0, 32, 32, .rc, false, fun _ => 0, fun _ => 4294967295, 1, fun _ _ _ => ((0 : Nat) : Int), .now⟩,  -- ENC_CNT_stops
  ⟨0x13, .clusters, 0x9, fun _ => 1, 0, 0x20, 0x0, 0, 32, .rc, false, fun _ => 0, fun _ => 4294967295, 1, fun _ _ _ => ((0 : Nat) : Int), .now⟩,  -- ENC_CNT_resumed
  ⟨0x13, .clusters, 0xA, fun _ => 1, 0, 0x20, 0x0, 32, 32, .rc, false, fun _ => 0, fun _ => 4294967295, 1, fun _ _ _ => ((0 : Nat) : Int), .now⟩,  -- ENC_CNT_parked
  ⟨0x13, .clusters, 0xB, fun _ => 1, 0, 0x28, 0x0, 0, 32, .rc, false, fun _ => 0, fun _ => 4294967295, 1, fun _ _ _ => ((0 : Nat) : Int), .now⟩,  -- ENC_CNT_abandoned
  ⟨0x13, .clusters, 0xC, fun _ => 1, 0, 0x30, 0x0, 0, 10, .ro, false, fun _ => 0, fun _ => 1023, 1, fun _ _ _ => ((0 : Nat) : Int), .now⟩,  -- ENC_STOP_link
  ⟨0x13, .clusters, 0xD, fun _ => 1, 0, 0x30, 0x0, 10, 11, .ro, false, fun _ => 0, fun _ => 2047, 1, fun _ _ _ => ((0 : Nat) : Int), .now⟩,  -- ENC_STOP_plot
  ⟨0x13, .clusters, 0xE, fun _ => 1, 0, 0x30, 0x0, 21, 9, .ro, false, fun _ => 0, fun _ => 511, 1, fun _ _ _ => ((0 : Nat) : Int), .now⟩]  -- ENC_STOP_bearing

/-- R247. -/
def tabR247b : List FieldRow := [
  ⟨0x13, .clusters, 0xF, fun _ => 1, 0, 0x38, 0x0, 0, 32, .ro, false, fun _ => 0, fun _ => 4294967295, 1, fun _ _ _ => ((0 : Nat) : Int), .now⟩,  -- ENC_STOP_consumed
  ⟨0x13, .clusters, 0x10, fun _ => 1, 0, 0x38, 0x0, 32, 32, .ro, false, fun _ => 0, fun _ => 4294967295, 1, fun _ _ _ => ((0 : Nat) : Int), .now⟩]  -- ENC_STOP_produced

/-- R274. -/
def tabR274a : List FieldRow := [
  ⟨0x08, .one, 0x1, fun _ => 1, 0, 0x0, 0x0, 0, 4, .rw, false, fun _ => 0, fun _ => 15, 1, fun _ _ _ => ((1 : Nat) : Int), .now⟩,  -- ARB_REIN_rein0
  ⟨0x08, .one, 0x2, fun _ => 1, 0, 0x0, 0x0, 4, 4, .rw, false, fun _ => 0, fun _ => 15, 1, fun _ _ _ => ((2 : Nat) : Int), .now⟩,  -- ARB_REIN_rein1
  ⟨0x08, .one, 0x3, fun _ => 1, 0, 0x0, 0x0, 8, 4, .rw, false, fun _ => 0, fun _ => 15, 1, fun _ _ _ => ((11 : Nat) : Int), .now⟩,  -- ARB_REIN_rein2
  ⟨0x08, .one, 0x4, fun _ => 1, 0, 0x0, 0x0, 12, 4, .rw, false, fun _ => 0, fun _ => 15, 1, fun _ _ _ => ((8 : Nat) : Int), .now⟩,  -- ARB_REIN_rein3
  ⟨0x08, .one, 0x5, fun _ => 1, 0, 0x0, 0x0, 16, 4, .rw, false, fun _ => 0, fun _ => 15, 1, fun _ _ _ => ((10 : Nat) : Int), .now⟩,  -- ARB_REIN_rein4
  ⟨0x08, .one, 0x6, fun _ => 1, 0, 0x0, 0x0, 20, 4, .rw, false, fun _ => 0, fun _ => 15, 1, fun _ _ _ => ((13 : Nat) : Int), .now⟩,  -- ARB_REIN_rein5
  ⟨0x08, .one, 0x7, fun _ => 1, 0, 0x0, 0x0, 24, 4, .rw, false, fun _ => 0, fun _ => 15, 1, fun _ _ _ => ((13 : Nat) : Int), .now⟩,  -- ARB_REIN_rein6
  ⟨0x08, .one, 0x8, fun _ => 1, 0, 0x0, 0x0, 28, 4, .rw, false, fun _ => 0, fun _ => 15, 1, fun _ _ _ => ((12 : Nat) : Int), .now⟩,  -- ARB_REIN_rein7
  ⟨0x08, .one, 0x9, fun _ => 1, 0, 0x0, 0x0, 32, 4, .rw, false, fun _ => 0, fun _ => 15, 1, fun _ _ _ => ((7 : Nat) : Int), .now⟩,  -- ARB_REIN_rein8
  ⟨0x08, .one, 0xA, fun _ => 1, 0, 0x0, 0x0, 36, 4, .rw, false, fun _ => 0, fun _ => 15, 1, fun _ _ _ => ((14 : Nat) : Int), .now⟩,  -- ARB_REIN_rein9
  ⟨0x08, .one, 0xB, fun _ => 1, 0, 0x0, 0x0, 40, 4, .rw, false, fun _ => 0, fun _ => 15, 1, fun _ _ _ => ((12 : Nat) : Int), .now⟩,  -- ARB_REIN_rein10
  ⟨0x08, .one, 0xC, fun _ => 1, 0, 0x0, 0x0, 44, 4, .rw, false, fun _ => 0, fun _ => 15, 1, fun _ _ _ => ((3 : Nat) : Int), .now⟩,  -- ARB_REIN_rein11
  ⟨0x08, .one, 0xD, fun _ => 1, 0, 0x0, 0x0, 48, 4, .rw, false, fun _ => 0, fun _ => 15, 1, fun _ _ _ => ((6 : Nat) : Int), .now⟩,  -- ARB_REIN_rein12
  ⟨0x08, .one, 0xE, fun _ => 1, 0, 0x0, 0x0, 52, 4, .rw, false, fun _ => 0, fun _ => 15, 1, fun _ _ _ => ((5 : Nat) : Int), .now⟩]  -- ARB_REIN_rein13

/-- R274. -/
def tabR274b : List FieldRow := [
  ⟨0x08, .one, 0xF, fun _ => 1, 0, 0x0, 0x0, 56, 4, .ro, false, fun _ => 0, fun _ => 15, 1, fun _ _ _ => ((0 : Nat) : Int), .now⟩,  -- ARB_REIN_rein14
  ⟨0x08, .one, 0x10, fun _ => 1, 0, 0x0, 0x0, 60, 4, .ro, false, fun _ => 0, fun _ => 15, 1, fun _ _ _ => ((0 : Nat) : Int), .now⟩,  -- ARB_REIN_rein15
  ⟨0x08, .one, 0x11, fun _ => 1, 0, 0x8, 0x0, 0, 16, .rw, false, fun _ => 256, fun _ => 65280, 256, fun _ _ _ => ((4096 : Nat) : Int), .now⟩,  -- ARB_HOLD_limit
  ⟨0x08, .one, 0x12, fun _ => 1, 0, 0x10, 0x0, 0, 32, .rc, false, fun _ => 0, fun _ => 4294967295, 1, fun _ _ _ => ((0 : Nat) : Int), .now⟩,  -- ARB_BITE_count
  ⟨0x08, .one, 0x13, fun _ => 1, 0, 0x10, 0x0, 32, 4, .ro, false, fun _ => 0, fun _ => 15, 1, fun _ _ _ => ((0 : Nat) : Int), .now⟩,  -- ARB_BITE_class
  ⟨0x08, .one, 0x14, fun _ => 1, 0, 0x10, 0x0, 40, 6, .ro, false, fun _ => 0, fun _ => 63, 1, fun _ _ _ => ((0 : Nat) : Int), .now⟩,  -- ARB_BITE_resource
  ⟨0x08, .one, 0x15, fun _ => 1, 0, 0x18, 0x0, 0, 32, .rc, false, fun _ => 0, fun _ => 4294967295, 1, fun _ _ _ => ((0 : Nat) : Int), .now⟩,  -- ARB_SPUR_refresh
  ⟨0x08, .one, 0x16, fun _ => 1, 0, 0x18, 0x0, 32, 32, .rc, false, fun _ => 0, fun _ => 4294967295, 1, fun _ _ _ => ((0 : Nat) : Int), .now⟩,  -- ARB_SPUR_debug
  ⟨0x08, .one, 0x100, fun _ => 16, 2, 0x100, 0x8, 0, 32, .rc, false, fun _ => 0, fun _ => 4294967295, 1, fun _ _ _ => ((0 : Nat) : Int), .now⟩,  -- ARB_CLS_grants
  ⟨0x08, .one, 0x101, fun _ => 16, 2, 0x100, 0x8, 32, 32, .rc, false, fun _ => 0, fun _ => 4294967295, 1, fun _ _ _ => ((0 : Nat) : Int), .now⟩]  -- ARB_CLS_wait_max

/-- R275. -/
def tabR275 : List FieldRow := [
  ⟨0x30, .slices, 0x1, fun _ => 1, 0, 0x0, 0x0, 0, 2, .ro, false, fun _ => 0, fun _ => 3, 1, fun _ _ _ => ((0 : Nat) : Int), .now⟩,  -- PAD_STATUS_state
  ⟨0x30, .slices, 0x2, fun _ => 1, 0, 0x0, 0x0, 2, 1, .ro, false, fun _ => 0, fun _ => 1, 1, fun _ _ _ => ((0 : Nat) : Int), .now⟩,  -- PAD_STATUS_mirror_lost
  ⟨0x30, .slices, 0x3, fun _ => 1, 0, 0x8, 0x0, 0, 32, .rc, false, fun _ => 0, fun _ => 4294967295, 1, fun _ _ _ => ((0 : Nat) : Int), .now⟩,  -- PAD_ECC_corrected
  ⟨0x30, .slices, 0x4, fun _ => 1, 0, 0x8, 0x0, 32, 32, .rc, false, fun _ => 0, fun _ => 4294967295, 1, fun _ _ _ => ((0 : Nat) : Int), .now⟩,  -- PAD_ECC_uncorrected
  ⟨0x30, .slices, 0x5, fun _ => 1, 0, 0x10, 0x0, 0, 40, .ro, false, fun _ => 0, fun _ => 1099511627775, 1, fun _ _ _ => ((0 : Nat) : Int), .now⟩,  -- PAD_ERR_addr
  ⟨0x30, .slices, 0x6, fun _ => 1, 0, 0x18, 0x0, 0, 32, .rc, false, fun _ => 0, fun _ => 4294967295, 1, fun _ _ _ => ((0 : Nat) : Int), .now⟩,  -- PAD_CONF_conflicts
  ⟨0x30, .mirz, 0x201, fun _ => 4, 2, 0x200, 0x8, 0, 13, .rw, false, fun _ => 0, fun e => 16 * (e.p.commonMib : Int) - 1, 1, fun p _ rep => ((p.mirzBase rep : Nat) : Int), .boot⟩,  -- PAD_MIRZ_base
  ⟨0x30, .mirz, 0x202, fun _ => 4, 2, 0x200, 0x8, 16, 14, .rw, false, fun _ => 0, fun e => 16 * (e.p.commonMib : Int) - e.acc (Reg.PAD_MIRZ_base e.inst e.rep), 1, fun p _ rep => ((p.mirzSize rep : Nat) : Int), .boot⟩]  -- PAD_MIRZ_size

/-- R302. -/
def tabR302 : List FieldRow := [
  ⟨0x40, .channels, 0x1, fun _ => 1, 0, 0x0, 0x0, 0, 2, .ro, false, fun _ => 0, fun _ => 3, 1, fun _ _ _ => ((0 : Nat) : Int), .now⟩,  -- DRAM_STATUS_state
  ⟨0x40, .channels, 0x2, fun _ => 1, 0, 0x0, 0x0, 2, 2, .ro, false, fun _ => 0, fun _ => 3, 1, fun _ _ _ => ((0 : Nat) : Int), .now⟩,  -- DRAM_STATUS_rank0
  ⟨0x40, .channels, 0x3, fun _ => 1, 0, 0x0, 0x0, 4, 2, .ro, false, fun _ => 0, fun _ => 3, 1, fun _ _ _ => ((0 : Nat) : Int), .now⟩,  -- DRAM_STATUS_rank1
  ⟨0x40, .channels, 0x4, fun _ => 1, 0, 0x0, 0x0, 8, 3, .ro, false, fun _ => 0, fun _ => 7, 1, fun _ _ _ => ((1 : Nat) : Int), .now⟩,  -- DRAM_STATUS_refresh_mult
  ⟨0x40, .channels, 0x5, fun _ => 1, 0, 0x8, 0x0, 0, 32, .rc, false, fun _ => 0, fun _ => 4294967295, 1, fun _ _ _ => ((0 : Nat) : Int), .now⟩,  -- DRAM_ECC_corrected
  ⟨0x40, .channels, 0x6, fun _ => 1, 0, 0x8, 0x0, 32, 32, .rc, false, fun _ => 0, fun _ => 4294967295, 1, fun _ _ _ => ((0 : Nat) : Int), .now⟩,  -- DRAM_ECC_uncorrected
  ⟨0x40, .channels, 0x7, fun _ => 1, 0, 0x10, 0x0, 0, 32, .rc, false, fun _ => 0, fun _ => 4294967295, 1, fun _ _ _ => ((0 : Nat) : Int), .now⟩,  -- DRAM_ECC_rebuilt
  ⟨0x40, .channels, 0x8, fun _ => 1, 0, 0x18, 0x0, 0, 4, .ro, false, fun _ => 0, fun _ => 15, 1, fun _ _ _ => ((0 : Nat) : Int), .now⟩,  -- DRAM_REF_debt0
  ⟨0x40, .channels, 0x9, fun _ => 1, 0, 0x18, 0x0, 4, 4, .ro, false, fun _ => 0, fun _ => 15, 1, fun _ _ _ => ((0 : Nat) : Int), .now⟩,  -- DRAM_REF_debt1
  ⟨0x40, .channels, 0xA, fun _ => 1, 0, 0x18, 0x0, 32, 32, .rc, false, fun _ => 0, fun _ => 4294967295, 1, fun _ _ _ => ((0 : Nat) : Int), .now⟩,  -- DRAM_REF_spurs
  ⟨0x40, .channels, 0xB, fun _ => 1, 0, 0x20, 0x0, 0, 32, .rc, false, fun _ => 0, fun _ => 4294967295, 1, fun _ _ _ => ((0 : Nat) : Int), .now⟩,  -- DRAM_CNT_activates
  ⟨0x40, .channels, 0xC, fun _ => 1, 0, 0x20, 0x0, 32, 32, .rc, false, fun _ => 0, fun _ => 4294967295, 1, fun _ _ _ => ((0 : Nat) : Int), .now⟩,  -- DRAM_CNT_page_hits
  ⟨0x40, .channels, 0xD, fun _ => 1, 0, 0x28, 0x0, 0, 3, .ro, false, fun _ => 0, fun _ => 7, 1, fun _ _ _ => ((0 : Nat) : Int), .now⟩]  -- DRAM_FAIL_cause

/-- R303. -/
def tabR303a : List FieldRow := [
  ⟨0x40, .one, 0x801, fun _ => 1, 0, 0x800, 0x0, 0, 5, .rw, false, fun _ => 8, fun _ => 16, 1, fun _ _ _ => ((11 : Nat) : Int), .boot⟩,  -- DRAM_MAP_grain_log2
  ⟨0x40, .one, 0x802, fun _ => 1, 0, 0x800, 0x0, 8, 2, .rw, false, fun _ => 0, fun _ => 2, 1, fun _ _ _ => ((0 : Nat) : Int), .boot⟩,  -- DRAM_MAP_order
  ⟨0x40, .one, 0x803, fun _ => 1, 0, 0x808, 0x0, 0, 32, .ro, false, fun _ => 0, fun _ => 4294967295, 1, fun _ _ _ => ((0 : Nat) : Int), .now⟩,  -- DRAM_CFG_usable_mib
  ⟨0x40, .one, 0x804, fun _ => 1, 0, 0x808, 0x0, 32, 16, .ro, false, fun _ => 0, fun _ => 65535, 1, fun _ _ _ => ((0 : Nat) : Int), .now⟩,  -- DRAM_CFG_rank_mib
  ⟨0x40, .one, 0x805, fun _ => 1, 0, 0x810, 0x0, 0, 4, .rw, false, fun _ => 1, fun _ => 8, 1, fun _ _ _ => ((6 : Nat) : Int), .now⟩,  -- DRAM_REF_debt_limit
  ⟨0x40, .one, 0x806, fun _ => 1, 0, 0x818, 0x0, 0, 16, .rw, false, fun _ => 16, fun _ => 65520, 16, fun _ _ _ => ((256 : Nat) : Int), .frame⟩,  -- DRAM_PWR_pd_idle
  ⟨0x40, .one, 0x807, fun _ => 1, 0, 0x818, 0x0, 16, 1, .rw, false, fun _ => 0, fun _ => 1, 1, fun _ _ _ => ((0 : Nat) : Int), .frame⟩,  -- DRAM_PWR_keep0
  ⟨0x40, .one, 0x808, fun _ => 1, 0, 0x818, 0x0, 17, 1, .rw, false, fun _ => 0, fun _ => 1, 1, fun _ _ _ => ((0 : Nat) : Int), .frame⟩,  -- DRAM_PWR_keep1
  ⟨0x40, .one, 0x809, fun _ => 1, 0, 0x818, 0x0, 32, 20, .rw, false, fun _ => 100, fun _ => 1000000, 100, fun _ _ _ => ((1000 : Nat) : Int), .frame⟩,  -- DRAM_PWR_sr_idle_us
  ⟨0x40, .one, 0x80A, fun _ => 1, 0, 0x820, 0x0, 0, 13, .rw, false, fun _ => 64, fun _ => 4096, 64, fun _ _ _ => ((2048 : Nat) : Int), .now⟩,  -- DRAM_PAR_gather_cyc
  ⟨0x40, .one, 0x80B, fun _ => 1, 0, 0x820, 0x0, 16, 8, .rw, false, fun _ => 1, fun _ => 255, 1, fun _ _ _ => ((16 : Nat) : Int), .now⟩,  -- DRAM_PAR_ecc_limit
  ⟨0x40, .one, 0x80C, fun p => p.groups, 5, 0x840, 0x10, 0, 4, .ro, false, fun _ => 0, fun _ => 15, 1, fun _ _ _ => ((15 : Nat) : Int), .now⟩,  -- DRAM_GRP_failed
  ⟨0x40, .one, 0x80D, fun p => p.groups, 5, 0x840, 0x10, 4, 1, .wo, false, fun _ => 0, fun _ => 1, 1, fun _ _ _ => ((0 : Nat) : Int), .now⟩,  -- DRAM_GRP_restore
  ⟨0x40, .one, 0x80E, fun p => p.groups, 5, 0x840, 0x10, 32, 32, .ro, false, fun _ => 0, fun _ => 4294967295, 1, fun _ _ _ => ((0 : Nat) : Int), .now⟩]  -- DRAM_GRP_restored_mib

/-- R303. -/
def tabR303b : List FieldRow := [
  ⟨0x40, .one, 0x80F, fun p => p.groups, 5, 0x848, 0x10, 0, 32, .rc, false, fun _ => 0, fun _ => 4294967295, 1, fun _ _ _ => ((0 : Nat) : Int), .now⟩,  -- DRAM_GRP_full_lines
  ⟨0x40, .one, 0x810, fun p => p.groups, 5, 0x848, 0x10, 32, 32, .rc, false, fun _ => 0, fun _ => 4294967295, 1, fun _ _ _ => ((0 : Nat) : Int), .now⟩]  -- DRAM_GRP_partial_lines

/-- R348. -/
def tabR348a : List FieldRow := [
  ⟨0x20, .clusters, 0x1, fun _ => 1, 0, 0x0, 0x0, 0, 2, .ro, false, fun _ => 0, fun _ => 3, 1, fun _ _ _ => ((0 : Nat) : Int), .now⟩,  -- TRV_STATUS_state
  ⟨0x20, .clusters, 0x2, fun _ => 1, 0, 0x0, 0x0, 4, 3, .ro, false, fun _ => 0, fun _ => 7, 1, fun _ _ _ => ((0 : Nat) : Int), .now⟩,  -- TRV_STATUS_wait
  ⟨0x20, .clusters, 0x3, fun _ => 1, 0, 0x0, 0x0, 8, 3, .ro, false, fun _ => 0, fun _ => 7, 1, fun _ _ _ => ((0 : Nat) : Int), .now⟩,  -- TRV_STATUS_queue
  ⟨0x20, .clusters, 0x4, fun _ => 1, 0, 0x0, 0x0, 16, 8, .ro, false, fun _ => 0, fun _ => 255, 1, fun _ _ _ => ((0 : Nat) : Int), .now⟩,  -- TRV_STATUS_band
  ⟨0x20, .clusters, 0x5, fun _ => 1, 0, 0x0, 0x0, 24, 1, .ro, false, fun _ => 0, fun _ => 1, 1, fun _ _ _ => ((0 : Nat) : Int), .now⟩,  -- TRV_STATUS_halving
  ⟨0x20, .clusters, 0x6, fun _ => 1, 0, 0x8, 0x0, 0, 16, .wo, false, fun _ => 0, fun _ => 65535, 1, fun _ _ _ => ((0 : Nat) : Int), .now⟩,  -- TRV_CTRL_release
  ⟨0x20, .clusters, 0x7, fun _ => 1, 0, 0x10, 0x0, 0, 8, .ro, false, fun _ => 0, fun _ => 255, 1, fun _ _ _ => ((0 : Nat) : Int), .now⟩,  -- TRV_ERR_code
  ⟨0x20, .clusters, 0x8, fun _ => 1, 0, 0x10, 0x0, 16, 16, .ro, false, fun _ => 0, fun _ => 65535, 1, fun _ _ _ => ((0 : Nat) : Int), .now⟩,  -- TRV_ERR_index
  ⟨0x20, .clusters, 0x9, fun _ => 1, 0, 0x18, 0x0, 0, 40, .ro, false, fun _ => 0, fun _ => 1099511627775, 1, fun _ _ _ => ((0 : Nat) : Int), .now⟩,  -- TRV_ERR_list
  ⟨0x20, .clusters, 0xA, fun _ => 1, 0, 0x20, 0x0, 0, 32, .rc, false, fun _ => 0, fun _ => 4294967295, 1, fun _ _ _ => ((0 : Nat) : Int), .now⟩,  -- TRV_CNT_bearings
  ⟨0x20, .clusters, 0xB, fun _ => 1, 0, 0x20, 0x0, 32, 32, .rc, false, fun _ => 0, fun _ => 4294967295, 1, fun _ _ _ => ((0 : Nat) : Int), .now⟩,  -- TRV_CNT_held_wait
  ⟨0x20, .clusters, 0xC, fun _ => 1, 0, 0x28, 0x0, 0, 32, .rc, false, fun _ => 0, fun _ => 4294967295, 1, fun _ _ _ => ((0 : Nat) : Int), .now⟩,  -- TRV_CNT_band_wait
  ⟨0x20, .clusters, 0xD, fun _ => 1, 0, 0x28, 0x0, 32, 32, .rc, false, fun _ => 0, fun _ => 4294967295, 1, fun _ _ _ => ((0 : Nat) : Int), .now⟩,  -- TRV_CNT_errors
  ⟨0x20, .clusters, 0xE, fun _ => 1, 0, 0x30, 0x0, 0, 32, .rc, false, fun _ => 0, fun _ => 4294967295, 1, fun _ _ _ => ((0 : Nat) : Int), .now⟩]  -- LDR_CNT_loads

/-- R348. -/
def tabR348b : List FieldRow := [
  ⟨0x20, .clusters, 0xF, fun _ => 1, 0, 0x30, 0x0, 32, 32, .rc, false, fun _ => 0, fun _ => 4294967295, 1, fun _ _ _ => ((0 : Nat) : Int), .now⟩,  -- LDR_CNT_reuse_miss
  ⟨0x20, .clusters, 0x10, fun _ => 1, 0, 0x38, 0x0, 0, 32, .rc, false, fun _ => 0, fun _ => 4294967295, 1, fun _ _ _ => ((0 : Nat) : Int), .now⟩,  -- LDR_CNT_kib
  ⟨0x20, .clusters, 0x11, fun _ => 16, 4, 0x100, 0x8, 0, 9, .ro, false, fun _ => 0, fun _ => 511, 1, fun _ _ _ => ((0 : Nat) : Int), .now⟩,  -- WM_STATE_bearing
  ⟨0x20, .clusters, 0x12, fun _ => 16, 4, 0x100, 0x8, 9, 7, .ro, false, fun _ => 0, fun _ => 127, 1, fun _ _ _ => ((0 : Nat) : Int), .now⟩,  -- WM_STATE_rows
  ⟨0x20, .clusters, 0x13, fun _ => 16, 4, 0x100, 0x8, 16, 11, .ro, false, fun _ => 0, fun _ => 2047, 1, fun _ _ _ => ((0 : Nat) : Int), .now⟩,  -- WM_STATE_plot
  ⟨0x20, .clusters, 0x14, fun _ => 16, 4, 0x100, 0x8, 27, 1, .ro, false, fun _ => 0, fun _ => 1, 1, fun _ _ _ => ((0 : Nat) : Int), .now⟩]  -- WM_STATE_held

/-- R349. -/
def tabR349 : List FieldRow := [
  ⟨0x20, .one, 0x801, fun _ => 1, 0, 0x800, 0x0, 0, 23, .rw, false, fun _ => 0x400000, fun e => (e.p.progressMax : Int), 1, fun p _ _ => ((p.progress : Nat) : Int), .boot⟩,  -- TRV_GLOBAL_progress_base
  ⟨0x20, .one, 0x802, fun _ => 1, 0, 0x808, 0x0, 0, 8, .ro, false, fun _ => 0, fun _ => 255, 1, fun _ _ _ => ((0 : Nat) : Int), .now⟩,  -- TRV_GLOBAL_band_passed
  ⟨0x20, .one, 0x803, fun _ => 1, 0, 0x810, 0x0, 0, 4, .ro, false, fun _ => 0, fun _ => 15, 1, fun p _ _ => ((2 ^ p.spare - 1 : Nat) : Int), .now⟩,  -- TRV_SPARE_idle
  ⟨0x20, .one, 0x804, fun _ => 1, 0, 0x810, 0x0, 32, 8, .rc, false, fun _ => 0, fun _ => 255, 1, fun _ _ _ => ((0 : Nat) : Int), .now⟩]  -- TRV_SPARE_taken

/-- R369. -/
def tabR369a : List FieldRow := [
  ⟨0x20, .one, 0x901, fun _ => 32, 12, 0x900, 0x10, 0, 11, .rw, false, fun _ => 0, fun e => e.acc (Reg.GUARD_REG_x1 e.rep), 1, fun _ _ _ => ((0 : Nat) : Int), .frame⟩,  -- GUARD_REG_x0
  ⟨0x20, .one, 0x902, fun _ => 32, 12, 0x900, 0x10, 16, 11, .rw, false, fun e => e.acc (Reg.GUARD_REG_x0 e.rep), fun _ => 2047, 1, fun _ _ _ => ((0 : Nat) : Int), .frame⟩,  -- GUARD_REG_x1
  ⟨0x20, .one, 0x903, fun _ => 32, 12, 0x900, 0x10, 32, 11, .rw, false, fun _ => 0, fun e => e.acc (Reg.GUARD_REG_y1 e.rep), 1, fun _ _ _ => ((0 : Nat) : Int), .frame⟩,  -- GUARD_REG_y0
  ⟨0x20, .one, 0x904, fun _ => 32, 12, 0x900, 0x10, 48, 11, .rw, false, fun e => e.acc (Reg.GUARD_REG_y0 e.rep), fun _ => 2047, 1, fun _ _ _ => ((0 : Nat) : Int), .frame⟩,  -- GUARD_REG_y1
  ⟨0x20, .one, 0x905, fun _ => 32, 12, 0x908, 0x10, 0, 9, .rw, false, fun _ => 0, fun e => e.acc (Reg.GUARD_REG_b_last e.rep), 1, fun _ _ _ => ((0 : Nat) : Int), .frame⟩,  -- GUARD_REG_b_first
  ⟨0x20, .one, 0x906, fun _ => 32, 12, 0x908, 0x10, 16, 9, .rw, false, fun e => e.acc (Reg.GUARD_REG_b_first e.rep), fun _ => 511, 1, fun _ _ _ => ((0 : Nat) : Int), .frame⟩,  -- GUARD_REG_b_last
  ⟨0x20, .one, 0x907, fun _ => 32, 12, 0x908, 0x10, 32, 1, .rw, false, fun _ => 0, fun _ => 1, 1, fun _ _ _ => ((0 : Nat) : Int), .frame⟩,  -- GUARD_REG_enable
  ⟨0x20, .one, 0x908, fun _ => 32, 12, 0x908, 0x10, 33, 1, .rw, false, fun _ => 0, fun _ => 1, 1, fun _ _ _ => ((0 : Nat) : Int), .frame⟩,  -- GUARD_REG_member_only
  ⟨0x20, .one, 0x909, fun _ => 32, 12, 0x908, 0x10, 34, 2, .rw, false, fun _ => 0, fun _ => 1, 1, fun _ _ _ => ((0 : Nat) : Int), .frame⟩,  -- GUARD_REG_action
  ⟨0x20, .one, 0x90A, fun _ => 32, 12, 0x908, 0x10, 36, 1, .rw, false, fun _ => 0, fun _ => 1, 1, fun _ _ _ => ((0 : Nat) : Int), .frame⟩,  -- GUARD_REG_require
  ⟨0x20, .one, 0x90B, fun _ => 32, 12, 0x908, 0x10, 40, 4, .rw, false, fun _ => 0, fun _ => 15, 1, fun _ _ _ => ((0 : Nat) : Int), .frame⟩,  -- GUARD_REG_pattern
  ⟨0x20, .one, 0x90C, fun _ => 32, 12, 0x908, 0x10, 48, 8, .rw, false, fun _ => 1, fun _ => 255, 1, fun _ _ _ => ((2 : Nat) : Int), .frame⟩,  -- GUARD_REG_good_frames
  ⟨0x20, .one, 0xA81, fun _ => 32, 4, 0xB00, 0x8, 0, 32, .ro, false, fun _ => 0, fun _ => 4294967295, 1, fun _ _ _ => ((0 : Nat) : Int), .now⟩,  -- GUARD_STAT_sig
  ⟨0x20, .one, 0xA82, fun _ => 32, 4, 0xB00, 0x8, 32, 3, .ro, false, fun _ => 0, fun _ => 7, 1, fun _ _ _ => ((0 : Nat) : Int), .now⟩]  -- GUARD_STAT_outcome

/-- R369. -/
def tabR369b : List FieldRow := [
  ⟨0x20, .one, 0xA83, fun _ => 32, 4, 0xB00, 0x8, 36, 2, .ro, false, fun _ => 0, fun _ => 3, 1, fun _ _ _ => ((0 : Nat) : Int), .now⟩,  -- GUARD_STAT_state
  ⟨0x20, .one, 0xA84, fun _ => 32, 4, 0xB00, 0x8, 40, 8, .ro, false, fun _ => 0, fun _ => 255, 1, fun _ _ _ => ((0 : Nat) : Int), .now⟩,  -- GUARD_STAT_good
  ⟨0x20, .one, 0xB01, fun _ => 1, 0, 0xC00, 0x0, 0, 32, .rc, false, fun _ => 0, fun _ => 4294967295, 1, fun _ _ _ => ((0 : Nat) : Int), .now⟩,  -- GUARD_CNT_compared
  ⟨0x20, .one, 0xB02, fun _ => 1, 0, 0xC00, 0x0, 32, 32, .rc, false, fun _ => 0, fun _ => 4294967295, 1, fun _ _ _ => ((0 : Nat) : Int), .now⟩,  -- GUARD_CNT_mismatches
  ⟨0x20, .one, 0xB03, fun _ => 1, 0, 0xC08, 0x0, 0, 32, .rc, false, fun _ => 0, fun _ => 4294967295, 1, fun _ _ _ => ((0 : Nat) : Int), .now⟩,  -- GUARD_CNT_skipped
  ⟨0x20, .one, 0xB04, fun _ => 1, 0, 0xC08, 0x0, 32, 32, .rc, false, fun _ => 0, fun _ => 4294967295, 1, fun _ _ _ => ((0 : Nat) : Int), .now⟩,  -- GUARD_CNT_incomplete
  ⟨0x20, .one, 0xB05, fun _ => 1, 0, 0xC10, 0x0, 0, 32, .wo, false, fun _ => 0, fun _ => 4294967295, 1, fun _ _ _ => ((0 : Nat) : Int), .now⟩]  -- GUARD_CTRL_release

/-- R389. -/
def tabR389a : List FieldRow := [
  ⟨0x20, .one, 0xD01, fun _ => 1, 0, 0xD00, 0x0, 0, 1, .wo, false, fun _ => 0, fun _ => 1, 1, fun _ _ _ => ((0 : Nat) : Int), .frame⟩,  -- CORR_CTRL_swap
  ⟨0x20, .one, 0xD02, fun _ => 1, 0, 0xD08, 0x0, 0, 1, .ro, false, fun _ => 0, fun _ => 1, 1, fun _ _ _ => ((0 : Nat) : Int), .now⟩,  -- CORR_STATUS_swap_pending
  ⟨0x20, .one, 0xD03, fun _ => 1, 0, 0xD08, 0x0, 1, 1, .ro, false, fun _ => 0, fun _ => 1, 1, fun _ _ _ => ((0 : Nat) : Int), .now⟩,  -- CORR_STATUS_resync
  ⟨0x20, .one, 0xD04, fun _ => 1, 0, 0xD08, 0x0, 2, 1, .ro, false, fun _ => 0, fun _ => 1, 1, fun _ _ _ => ((0 : Nat) : Int), .now⟩,  -- CORR_STATUS_fmap_active
  ⟨0x20, .one, 0xD05, fun _ => 1, 0, 0xD08, 0x0, 32, 32, .rc, false, fun _ => 0, fun _ => 4294967295, 1, fun _ _ _ => ((0 : Nat) : Int), .now⟩,  -- CORR_STATUS_swaps
  ⟨0x20, .one, 0xD06, fun _ => 1, 0, 0xD10, 0x0, 0, 21, .rw, false, fun _ => 0, fun e => (e.p.fmapMax : Int), 1, fun p _ _ => ((p.fmap : Nat) : Int), .boot⟩,  -- CORR_FMAP_base
  ⟨0x20, .one, 0xD07, fun _ => 1, 0, 0xD18, 0x0, 0, 17, .ro, false, fun _ => 0, fun _ => 131071, 1, fun _ _ _ => ((0 : Nat) : Int), .now⟩,  -- CORR_FMAP_active_entries
  ⟨0x20, .one, 0xD08, fun _ => 1, 0, 0xD18, 0x0, 32, 17, .ro, false, fun _ => 0, fun _ => 131071, 1, fun _ _ _ => ((0 : Nat) : Int), .now⟩,  -- CORR_FMAP_shadow_entries
  ⟨0x20, .one, 0xD09, fun _ => 1, 0, 0xD20, 0x0, 0, 32, .rc, false, fun _ => 0, fun _ => 4294967295, 1, fun _ _ _ => ((0 : Nat) : Int), .now⟩,  -- CORR_CNT_concealed
  ⟨0x20, .one, 0xD0A, fun _ => 1, 0, 0xD20, 0x0, 32, 32, .rc, false, fun _ => 0, fun _ => 4294967295, 1, fun _ _ _ => ((0 : Nat) : Int), .now⟩,  -- CORR_CNT_extra_rays
  ⟨0x20, .one, 0xD0B, fun _ => 1, 0, 0xD28, 0x0, 0, 32, .rc, false, fun _ => 0, fun _ => 4294967295, 1, fun _ _ _ => ((0 : Nat) : Int), .now⟩,  -- CORR_CNT_fault_order
  ⟨0x20, .one, 0xD0C, fun _ => 1, 0, 0xD28, 0x0, 32, 32, .rc, false, fun _ => 0, fun _ => 4294967295, 1, fun _ _ _ => ((0 : Nat) : Int), .now⟩,  -- CORR_CNT_window_ro
  ⟨0x20, .one, 0xD0D, fun _ => 16, 4, 0xD80, 0x8, 0, 16, .rw, false, fun _ => 0, fun _ => 32768, 1, fun _ _ _ => ((32768 : Nat) : Int), .frame⟩,  -- ZONE_CEIL_ceil
  ⟨0x20, .one, 0xD0E, fun _ => 16, 4, 0xD80, 0x8, 16, 16, .rw, false, fun _ => 0, fun _ => 32768, 1, fun _ _ _ => ((32768 : Nat) : Int), .frame⟩]  -- ZONE_CEIL_ceil

/-- R389. -/
def tabR389b : List FieldRow := [
  ⟨0x20, .one, 0xD0F, fun _ => 16, 4, 0xD80, 0x8, 32, 16, .rw, false, fun _ => 0, fun _ => 32768, 1, fun _ _ _ => ((32768 : Nat) : Int), .frame⟩,  -- ZONE_CEIL_ceil
  ⟨0x20, .one, 0xD10, fun _ => 16, 4, 0xD80, 0x8, 48, 16, .rw, false, fun _ => 0, fun _ => 32768, 1, fun _ _ _ => ((32768 : Nat) : Int), .frame⟩]  -- ZONE_CEIL_ceil

/-- R410. -/
def tabR410 : List FieldRow := [
  ⟨0x20, .one, 0xE01, fun _ => 1, 0, 0xE00, 0x0, 0, 23, .rw, false, fun _ => 0x400000, fun e => (e.p.ledgerMax : Int), 1, fun p _ _ => ((p.ledger : Nat) : Int), .boot⟩,  -- GAIT_BASE_ledger
  ⟨0x20, .one, 0xE02, fun _ => 1, 0, 0xE08, 0x0, 0, 23, .rw, false, fun _ => 0x400000, fun e => (e.p.plotsMax : Int), 1, fun p _ _ => ((p.plotRecs : Nat) : Int), .boot⟩,  -- GAIT_BASE_plots
  ⟨0x20, .one, 0xE03, fun _ => 4, 2, 0xE10, 0x8, 0, 23, .rw, false, fun _ => 0x400000, fun e => (e.p.tableMax : Int), 1, fun p _ rep => ((p.tableBase + p.tableStep * rep : Nat) : Int), .frame⟩,  -- GAIT_TYPE_table
  ⟨0x20, .one, 0xE04, fun _ => 4, 2, 0xE10, 0x8, 32, 1, .rw, false, fun _ => 0, fun _ => 1, 1, fun _ _ _ => ((0 : Nat) : Int), .frame⟩,  -- GAIT_TYPE_enable
  ⟨0x20, .one, 0xE0B, fun _ => 4, 3, 0xE30, 0x8, 0, 12, .rw, true, fun _ => -2048, fun e => e.acc (Reg.GAIT_TH_th2 e.rep) - 32, 1, fun _ _ _ => ((560 : Nat) : Int), .frame⟩,  -- GAIT_TH_th1
  ⟨0x20, .one, 0xE0C, fun _ => 4, 3, 0xE30, 0x8, 16, 12, .rw, true, fun e => e.acc (Reg.GAIT_TH_th1 e.rep) + 32, fun e => e.acc (Reg.GAIT_TH_th3 e.rep) - 32, 1, fun _ _ _ => ((720 : Nat) : Int), .frame⟩,  -- GAIT_TH_th2
  ⟨0x20, .one, 0xE0D, fun _ => 4, 3, 0xE30, 0x8, 32, 12, .rw, true, fun e => e.acc (Reg.GAIT_TH_th2 e.rep) + 32, fun _ => 2047, 1, fun _ _ _ => ((880 : Nat) : Int), .frame⟩,  -- GAIT_TH_th3
  ⟨0x20, .one, 0xE17, fun _ => 1, 0, 0xE50, 0x0, 0, 8, .rw, false, fun _ => 1, fun _ => 255, 1, fun _ _ _ => ((120 : Nat) : Int), .now⟩,  -- GAIT_CTRL_stale_frames
  ⟨0x20, .one, 0xE18, fun _ => 8, 1, 0xE60, 0x8, 0, 64, .ro, false, fun _ => 0, fun _ => 18446744073709551615, 1, fun _ _ _ => ((0 : Nat) : Int), .now⟩,  -- GAIT_BANDS_bands
  ⟨0x20, .one, 0xE20, fun _ => 1, 0, 0xEA0, 0x0, 0, 32, .rc, false, fun _ => 0, fun _ => 4294967295, 1, fun _ _ _ => ((0 : Nat) : Int), .now⟩,  -- GAIT_CNT_starts
  ⟨0x20, .one, 0xE21, fun _ => 1, 0, 0xEA0, 0x0, 32, 32, .rc, false, fun _ => 0, fun _ => 4294967295, 1, fun _ _ _ => ((0 : Nat) : Int), .now⟩,  -- GAIT_CNT_reentries
  ⟨0x20, .one, 0xE22, fun _ => 1, 0, 0xEA8, 0x0, 0, 32, .rc, false, fun _ => 0, fun _ => 4294967295, 1, fun _ _ _ => ((0 : Nat) : Int), .now⟩,  -- GAIT_CNT_rebases
  ⟨0x20, .one, 0xE23, fun _ => 1, 0, 0xEA8, 0x0, 32, 32, .rc, false, fun _ => 0, fun _ => 4294967295, 1, fun _ _ _ => ((0 : Nat) : Int), .now⟩,  -- GAIT_CNT_temp_stale
  ⟨0x20, .one, 0xE24, fun _ => 1, 0, 0xEB0, 0x0, 0, 32, .rc, false, fun _ => 0, fun _ => 4294967295, 1, fun _ _ _ => ((0 : Nat) : Int), .now⟩]  -- GAIT_CNT_catchup

/-- R444. -/
def tabR444a : List FieldRow := [
  ⟨0x80, .links, 0x1, fun _ => 1, 0, 0x0, 0x0, 0, 2, .rw, false, fun _ => 0, fun _ => 3, 1, fun _ _ _ => ((3 : Nat) : Int), .frame⟩,  -- LINK_GEAR_gear_req
  ⟨0x80, .links, 0x2, fun _ => 1, 0, 0x0, 0x0, 4, 2, .ro, false, fun _ => 0, fun _ => 3, 1, fun _ _ _ => ((0 : Nat) : Int), .now⟩,  -- LINK_GEAR_gear
  ⟨0x80, .links, 0x3, fun _ => 1, 0, 0x0, 0x0, 8, 2, .ro, false, fun _ => 0, fun _ => 3, 1, fun _ _ _ => ((0 : Nat) : Int), .now⟩,  -- LINK_GEAR_next
  ⟨0x80, .links, 0x4, fun _ => 1, 0, 0x0, 0x0, 12, 2, .ro, false, fun _ => 0, fun _ => 3, 1, fun _ _ _ => ((3 : Nat) : Int), .now⟩,  -- LINK_GEAR_cap
  ⟨0x80, .links, 0x5, fun _ => 1, 0, 0x8, 0x0, 0, 3, .ro, false, fun _ => 0, fun _ => 7, 1, fun _ _ _ => ((0 : Nat) : Int), .now⟩,  -- LANE_STATE_tx
  ⟨0x80, .links, 0x6, fun _ => 1, 0, 0x8, 0x0, 4, 3, .ro, false, fun _ => 0, fun _ => 7, 1, fun _ _ _ => ((0 : Nat) : Int), .now⟩,  -- LANE_STATE_bc
  ⟨0x80, .links, 0x7, fun _ => 1, 0, 0x8, 0x0, 8, 1, .ro, false, fun _ => 0, fun _ => 1, 1, fun _ _ _ => ((1 : Nat) : Int), .now⟩,  -- LANE_STATE_bc_los
  ⟨0x80, .links, 0x8, fun _ => 1, 0, 0x8, 0x0, 9, 1, .ro, false, fun _ => 0, fun _ => 1, 1, fun _ _ _ => ((0 : Nat) : Int), .now⟩,  -- LANE_STATE_bc_aligned
  ⟨0x80, .links, 0x9, fun _ => 1, 0, 0x10, 0x0, 0, 3, .ro, false, fun _ => 0, fun _ => 7, 1, fun _ _ _ => ((0 : Nat) : Int), .now⟩,  -- LANE_EQ_tx_entry
  ⟨0x80, .links, 0xA, fun _ => 1, 0, 0x10, 0x0, 4, 3, .ro, false, fun _ => 0, fun _ => 7, 1, fun _ _ _ => ((0 : Nat) : Int), .now⟩,  -- LANE_EQ_bc_entry
  ⟨0x80, .links, 0xB, fun _ => 1, 0, 0x10, 0x0, 8, 8, .ro, false, fun _ => 0, fun _ => 255, 1, fun _ _ _ => ((0 : Nat) : Int), .now⟩,  -- LANE_EQ_tx_fom
  ⟨0x80, .links, 0xC, fun _ => 1, 0, 0x10, 0x0, 16, 8, .ro, false, fun _ => 0, fun _ => 255, 1, fun _ _ _ => ((0 : Nat) : Int), .now⟩,  -- LANE_EQ_bc_fom
  ⟨0x80, .links, 0xD, fun _ => 1, 0, 0x10, 0x0, 24, 2, .ro, false, fun _ => 0, fun _ => 3, 1, fun _ _ _ => ((0 : Nat) : Int), .now⟩,  -- LANE_EQ_round
  ⟨0x80, .links, 0xE, fun _ => 1, 0, 0x18, 0x0, 0, 8, .rw, false, fun _ => 1, fun e => e.acc (Reg.LANE_ADAPT_fom_raise e.inst) - 1, 1, fun _ _ _ => ((64 : Nat) : Int), .now⟩]  -- LANE_ADAPT_fom_low

/-- R444. -/
def tabR444b : List FieldRow := [
  ⟨0x80, .links, 0xF, fun _ => 1, 0, 0x18, 0x0, 8, 8, .rw, false, fun e => e.acc (Reg.LANE_ADAPT_fom_low e.inst) + 1, fun _ => 255, 1, fun _ _ _ => ((128 : Nat) : Int), .now⟩,  -- LANE_ADAPT_fom_raise
  ⟨0x80, .links, 0x10, fun _ => 1, 0, 0x18, 0x0, 16, 4, .rw, false, fun _ => 1, fun _ => 15, 1, fun _ _ _ => ((8 : Nat) : Int), .now⟩,  -- LANE_ADAPT_raise_count
  ⟨0x80, .links, 0x11, fun _ => 1, 0, 0x18, 0x0, 20, 1, .rw, false, fun _ => 0, fun _ => 1, 1, fun _ _ _ => ((1 : Nat) : Int), .now⟩,  -- LANE_ADAPT_enable
  ⟨0x80, .links, 0x12, fun _ => 1, 0, 0x18, 0x0, 21, 1, .wo, false, fun _ => 0, fun _ => 1, 1, fun _ _ _ => ((0 : Nat) : Int), .now⟩,  -- LANE_ADAPT_retry
  ⟨0x80, .links, 0x13, fun _ => 1, 0, 0x20, 0x0, 0, 64, .ro, false, fun _ => 0, fun _ => 18446744073709551615, 1, fun _ _ _ => ((0 : Nat) : Int), .now⟩,  -- LANE_FOM_tx
  ⟨0x80, .links, 0x14, fun _ => 1, 0, 0x28, 0x0, 0, 64, .ro, false, fun _ => 0, fun _ => 18446744073709551615, 1, fun _ _ _ => ((0 : Nat) : Int), .now⟩,  -- LANE_FOM_bc
  ⟨0x80, .links, 0x15, fun _ => 1, 0, 0x30, 0x0, 0, 6, .ro, false, fun _ => 0, fun _ => 63, 1, fun _ _ _ => ((0 : Nat) : Int), .now⟩,  -- BC_TRIM_phase
  ⟨0x80, .links, 0x16, fun _ => 1, 0, 0x30, 0x0, 8, 6, .ro, false, fun _ => 0, fun _ => 63, 1, fun _ _ _ => ((0 : Nat) : Int), .now⟩,  -- BC_TRIM_bench
  ⟨0x80, .links, 0x17, fun _ => 1, 0, 0x30, 0x0, 16, 6, .ro, false, fun _ => 0, fun _ => 63, 1, fun _ _ _ => ((0 : Nat) : Int), .now⟩,  -- BC_TRIM_centre
  ⟨0x80, .links, 0x18, fun _ => 1, 0, 0x30, 0x0, 24, 1, .rw, false, fun _ => 0, fun _ => 1, 1, fun _ _ _ => ((1 : Nat) : Int), .now⟩,  -- BC_TRIM_enable
  ⟨0x80, .links, 0x19, fun _ => 1, 0, 0x30, 0x0, 26, 6, .rw, false, fun _ => 1, fun _ => 32, 1, fun _ _ _ => ((8 : Nat) : Int), .now⟩,  -- BC_TRIM_drift_limit
  ⟨0x80, .links, 0x1A, fun _ => 1, 0, 0x38, 0x0, 0, 32, .rc, false, fun _ => 0, fun _ => 4294967295, 1, fun _ _ _ => ((0 : Nat) : Int), .now⟩,  -- LANE_CNT_stuff_err
  ⟨0x80, .links, 0x1B, fun _ => 1, 0, 0x38, 0x0, 32, 32, .rc, false, fun _ => 0, fun _ => 4294967295, 1, fun _ _ _ => ((0 : Nat) : Int), .now⟩,  -- LANE_CNT_los
  ⟨0x80, .links, 0x1C, fun _ => 1, 0, 0x40, 0x0, 0, 32, .rc, false, fun _ => 0, fun _ => 4294967295, 1, fun _ _ _ => ((0 : Nat) : Int), .now⟩]  -- LANE_CNT_trials

/-- R444. -/
def tabR444c : List FieldRow := [
  ⟨0x80, .links, 0x1D, fun _ => 1, 0, 0x40, 0x0, 32, 32, .rc, false, fun _ => 0, fun _ => 4294967295, 1, fun _ _ _ => ((0 : Nat) : Int), .now⟩,  -- LANE_CNT_cap_falls
  ⟨0x80, .links, 0x1E, fun _ => 1, 0, 0x48, 0x0, 0, 32, .rc, false, fun _ => 0, fun _ => 4294967295, 1, fun _ _ _ => ((0 : Nat) : Int), .now⟩,  -- LANE_CNT_trim_steps
  ⟨0x80, .links, 0x1F, fun _ => 1, 0, 0x48, 0x0, 32, 32, .rc, false, fun _ => 0, fun _ => 4294967295, 1, fun _ _ _ => ((0 : Nat) : Int), .now⟩]  -- LANE_CNT_wake_fail

/-- R492. -/
def tabR492a : List FieldRow := [
  ⟨0x80, .links, 0x101, fun _ => 1, 0, 0x100, 0x0, 0, 3, .ro, false, fun _ => 0, fun _ => 7, 1, fun _ _ _ => ((0 : Nat) : Int), .now⟩,  -- TILE_STATUS_link
  ⟨0x80, .links, 0x102, fun _ => 1, 0, 0x100, 0x0, 3, 1, .ro, false, fun _ => 0, fun _ => 1, 1, fun _ _ _ => ((0 : Nat) : Int), .now⟩,  -- TILE_STATUS_armed
  ⟨0x80, .links, 0x103, fun _ => 1, 0, 0x100, 0x0, 4, 3, .ro, false, fun _ => 0, fun _ => 7, 1, fun _ _ _ => ((0 : Nat) : Int), .now⟩,  -- TILE_STATUS_cause
  ⟨0x80, .links, 0x104, fun _ => 1, 0, 0x100, 0x0, 7, 1, .ro, false, fun _ => 0, fun _ => 1, 1, fun _ _ _ => ((0 : Nat) : Int), .now⟩,  -- TILE_STATUS_compat
  ⟨0x80, .links, 0x105, fun _ => 1, 0, 0x100, 0x0, 8, 1, .ro, false, fun _ => 0, fun _ => 1, 1, fun _ _ _ => ((0 : Nat) : Int), .now⟩,  -- TILE_STATUS_held
  ⟨0x80, .links, 0x106, fun _ => 1, 0, 0x108, 0x0, 0, 32, .ro, false, fun _ => 0, fun _ => 4294967295, 1, fun _ _ _ => ((0 : Nat) : Int), .now⟩,  -- TILE_FLIP_frame
  ⟨0x80, .links, 0x107, fun _ => 1, 0, 0x110, 0x0, 0, 16, .ro, true, fun _ => -32768, fun _ => 32767, 1, fun _ _ _ => ((0 : Nat) : Int), .now⟩,  -- TILE_TEMP_temp
  ⟨0x80, .links, 0x108, fun _ => 1, 0, 0x118, 0x0, 0, 32, .ro, false, fun _ => 0, fun _ => 4294967295, 1, fun _ _ _ => ((0 : Nat) : Int), .now⟩,  -- LINK_TIME_delay
  ⟨0x80, .links, 0x109, fun _ => 1, 0, 0x118, 0x0, 32, 16, .rw, true, fun _ => -8000, fun _ => 8000, 1, fun _ _ _ => ((0 : Nat) : Int), .now⟩,  -- LINK_TIME_skew
  ⟨0x80, .links, 0x10A, fun _ => 1, 0, 0x120, 0x0, 0, 32, .rw, false, fun _ => 0, fun _ => 4294967295, 1, fun _ _ _ => ((16843009 : Nat) : Int), .now⟩,  -- SVC_SLOTS_table_lo
  ⟨0x80, .links, 0x10B, fun _ => 1, 0, 0x120, 0x0, 32, 32, .rw, false, fun _ => 0, fun _ => 4294967295, 1, fun _ _ _ => ((16843009 : Nat) : Int), .now⟩,  -- SVC_SLOTS_table_hi
  ⟨0x80, .links, 0x10C, fun _ => 1, 0, 0x128, 0x0, 0, 64, .ro, false, fun _ => 0, fun _ => 18446744073709551615, 1, fun _ _ _ => ((72340172838076673 : Nat) : Int), .now⟩,  -- SVC_SLOTS_active
  ⟨0x80, .links, 0x10D, fun _ => 1, 0, 0x130, 0x0, 0, 32, .ro, false, fun _ => 0, fun _ => 4294967295, 1, fun _ _ _ => ((0 : Nat) : Int), .now⟩,  -- SVC_STATUS_ticket
  ⟨0x80, .links, 0x10E, fun _ => 1, 0, 0x130, 0x0, 32, 2, .ro, false, fun _ => 0, fun _ => 3, 1, fun _ _ _ => ((0 : Nat) : Int), .now⟩]  -- SVC_STATUS_outcome

/-- R492. -/
def tabR492b : List FieldRow := [
  ⟨0x80, .links, 0x10F, fun _ => 1, 0, 0x130, 0x0, 36, 4, .ro, false, fun _ => 0, fun _ => 15, 1, fun _ _ _ => ((0 : Nat) : Int), .now⟩,  -- SVC_STATUS_queued
  ⟨0x80, .links, 0x110, fun _ => 1, 0, 0x138, 0x0, 0, 2, .rw, false, fun _ => 0, fun _ => 2, 1, fun _ _ _ => ((0 : Nat) : Int), .frame⟩,  -- TILE_CTRL_crack_action
  ⟨0x80, .links, 0x111, fun _ => 1, 0, 0x138, 0x0, 4, 4, .rw, false, fun _ => 0, fun _ => 15, 1, fun _ _ _ => ((0 : Nat) : Int), .frame⟩,  -- TILE_CTRL_crack_pattern
  ⟨0x80, .links, 0x112, fun _ => 1, 0, 0x138, 0x0, 8, 9, .rw, false, fun _ => 0, fun _ => 511, 1, fun _ _ _ => ((0 : Nat) : Int), .frame⟩,  -- TILE_CTRL_compat_bearing
  ⟨0x80, .links, 0x113, fun _ => 1, 0, 0x140, 0x0, 0, 32, .rc, false, fun _ => 0, fun _ => 4294967295, 1, fun _ _ _ => ((0 : Nat) : Int), .now⟩,  -- TILE_CNT_bc_crc
  ⟨0x80, .links, 0x114, fun _ => 1, 0, 0x140, 0x0, 32, 32, .rc, false, fun _ => 0, fun _ => 4294967295, 1, fun _ _ _ => ((0 : Nat) : Int), .now⟩,  -- TILE_CNT_slab_drop
  ⟨0x80, .links, 0x115, fun _ => 1, 0, 0x148, 0x0, 0, 32, .rc, false, fun _ => 0, fun _ => 4294967295, 1, fun _ _ _ => ((0 : Nat) : Int), .now⟩,  -- TILE_CNT_not_held
  ⟨0x80, .links, 0x116, fun _ => 1, 0, 0x148, 0x0, 32, 32, .rc, false, fun _ => 0, fun _ => 4294967295, 1, fun _ _ _ => ((0 : Nat) : Int), .now⟩,  -- TILE_CNT_rejected
  ⟨0x80, .links, 0x117, fun _ => 1, 0, 0x150, 0x0, 0, 32, .rc, false, fun _ => 0, fun _ => 4294967295, 1, fun _ _ _ => ((0 : Nat) : Int), .now⟩,  -- TILE_CNT_late_sync
  ⟨0x80, .links, 0x118, fun _ => 1, 0, 0x150, 0x0, 32, 32, .rc, false, fun _ => 0, fun _ => 4294967295, 1, fun _ _ _ => ((0 : Nat) : Int), .now⟩,  -- TILE_CNT_svc_retries
  ⟨0x80, .links, 0x119, fun _ => 1, 0, 0x158, 0x0, 0, 32, .rc, false, fun _ => 0, fun _ => 4294967295, 1, fun _ _ _ => ((0 : Nat) : Int), .now⟩]  -- TILE_CNT_failovers

/-- R493. -/
def tabR493 : List FieldRow := [
  ⟨0x80, .one, 0x301, fun _ => 1, 0, 0x300, 0x0, 0, 8, .rw, false, fun _ => 2, fun _ => 200, 1, fun _ _ _ => ((8 : Nat) : Int), .frame⟩,  -- LINK_SYNC_lead_us
  ⟨0x80, .one, 0x302, fun _ => 1, 0, 0x308, 0x0, 0, 16, .rw, false, fun _ => 20, fun _ => 10000, 10, fun _ _ _ => ((500 : Nat) : Int), .now⟩,  -- SVC_CTRL_ack_us
  ⟨0x80, .one, 0x303, fun _ => 1, 0, 0x308, 0x0, 16, 4, .rw, false, fun _ => 1, fun _ => 15, 1, fun _ _ _ => ((4 : Nat) : Int), .now⟩,  -- SVC_CTRL_retries
  ⟨0x80, .one, 0x304, fun _ => 1, 0, 0x310, 0x0, 0, 1, .rw, false, fun _ => 0, fun _ => 1, 1, fun _ _ _ => ((1 : Nat) : Int), .now⟩,  -- FAILOVER_enable
  ⟨0x80, .one, 0x305, fun _ => 1, 0, 0x310, 0x0, 8, 8, .rw, false, fun _ => 1, fun _ => 255, 1, fun _ _ _ => ((8 : Nat) : Int), .now⟩,  -- FAILOVER_crc_limit
  ⟨0x80, .one, 0x306, fun _ => 1, 0, 0x310, 0x0, 16, 16, .rw, false, fun _ => 10, fun _ => 60000, 10, fun _ _ _ => ((1000 : Nat) : Int), .now⟩]  -- FAILOVER_restore_ms

/-- R523. -/
def tabR523a : List FieldRow := [
  ⟨0x04, .one, 0x1, fun _ => 1, 0, 0x0, 0x0, 0, 1, .rw, false, fun _ => 0, fun _ => 1, 1, fun _ _ _ => ((0 : Nat) : Int), .now⟩,  -- DATUM_CTRL_select
  ⟨0x04, .one, 0x2, fun _ => 1, 0, 0x0, 0x0, 1, 1, .rw, false, fun _ => 0, fun _ => 1, 1, fun _ _ _ => ((1 : Nat) : Int), .now⟩,  -- DATUM_CTRL_auto_switch
  ⟨0x04, .one, 0x3, fun _ => 1, 0, 0x0, 0x0, 2, 1, .rw, false, fun _ => 0, fun _ => 1, 1, fun _ _ _ => ((0 : Nat) : Int), .now⟩,  -- DATUM_CTRL_allow_step
  ⟨0x04, .one, 0x4, fun _ => 1, 0, 0x0, 0x0, 16, 16, .rw, false, fun _ => 100, fun _ => 10000, 100, fun _ _ _ => ((10000 : Nat) : Int), .now⟩,  -- DATUM_CTRL_slew_ppb
  ⟨0x04, .one, 0x5, fun _ => 1, 0, 0x8, 0x0, 0, 1, .ro, false, fun _ => 0, fun _ => 1, 1, fun _ _ _ => ((0 : Nat) : Int), .now⟩,  -- DATUM_STATE_active
  ⟨0x04, .one, 0x6, fun _ => 1, 0, 0x8, 0x0, 1, 1, .ro, false, fun _ => 0, fun _ => 1, 1, fun _ _ _ => ((0 : Nat) : Int), .now⟩,  -- DATUM_STATE_slewing
  ⟨0x04, .one, 0x7, fun _ => 1, 0, 0x8, 0x0, 2, 1, .ro, false, fun _ => 0, fun _ => 1, 1, fun _ _ _ => ((1 : Nat) : Int), .now⟩,  -- DATUM_STATE_a_lost
  ⟨0x04, .one, 0x8, fun _ => 1, 0, 0x8, 0x0, 3, 1, .ro, false, fun _ => 0, fun _ => 1, 1, fun _ _ _ => ((1 : Nat) : Int), .now⟩,  -- DATUM_STATE_b_lost
  ⟨0x04, .one, 0x9, fun _ => 1, 0, 0x8, 0x0, 32, 32, .rc, false, fun _ => 0, fun _ => 4294967295, 1, fun _ _ _ => ((0 : Nat) : Int), .now⟩,  -- DATUM_STATE_switches
  ⟨0x04, .one, 0xA, fun _ => 1, 0, 0x10, 0x0, 0, 64, .ro, true, fun _ => -9223372036854775808, fun _ => 9223372036854775807, 1, fun _ _ _ => ((0 : Nat) : Int), .now⟩,  -- DATUM_SLEW_offset_ps
  ⟨0x04, .one, 0xB, fun _ => 1, 0, 0x18, 0x0, 0, 64, .ro, false, fun _ => 0, fun _ => 18446744073709551615, 1, fun _ _ _ => ((0 : Nat) : Int), .now⟩,  -- DATUM_NOW_active
  ⟨0x04, .one, 0xC, fun _ => 1, 0, 0x20, 0x0, 0, 64, .ro, false, fun _ => 0, fun _ => 18446744073709551615, 1, fun _ _ _ => ((0 : Nat) : Int), .now⟩,  -- DATUM_NOW_free
  ⟨0x04, .one, 0xD, fun _ => 2, 13, 0x40, 0x40, 0, 22, .rw, true, fun _ => -1717986, fun _ => 1717986, 1, fun _ _ _ => ((0 : Nat) : Int), .now⟩,  -- DATUM_adj
  ⟨0x04, .one, 0xE, fun _ => 2, 13, 0x40, 0x40, 32, 1, .rw, false, fun _ => 0, fun _ => 1, 1, fun _ _ _ => ((0 : Nat) : Int), .now⟩]  -- DATUM_lock

/-- R523. -/
def tabR523b : List FieldRow := [
  ⟨0x04, .one, 0xF, fun _ => 2, 13, 0x48, 0x40, 0, 32, .rw, true, fun _ => -2147483648, fun _ => 2147483647, 1, fun _ _ _ => ((0 : Nat) : Int), .now⟩,  -- DATUM_step_s
  ⟨0x04, .one, 0x10, fun _ => 2, 13, 0x48, 0x40, 32, 31, .rw, true, fun _ => -999999999, fun _ => 999999999, 1, fun _ _ _ => ((0 : Nat) : Int), .now⟩,  -- DATUM_step_ns
  ⟨0x04, .one, 0x11, fun _ => 2, 13, 0x50, 0x40, 0, 1, .wo, false, fun _ => 0, fun _ => 1, 1, fun _ _ _ => ((0 : Nat) : Int), .now⟩,  -- DATUM_step_go
  ⟨0x04, .one, 0x12, fun _ => 2, 13, 0x50, 0x40, 8, 8, .rw, false, fun _ => 0, fun _ => 255, 1, fun _ _ _ => ((0 : Nat) : Int), .now⟩,  -- DATUM_domain
  ⟨0x04, .one, 0x13, fun _ => 2, 13, 0x50, 0x40, 16, 8, .rw, false, fun _ => 0, fun _ => 255, 1, fun _ _ _ => ((0 : Nat) : Int), .now⟩,  -- DATUM_ports
  ⟨0x04, .one, 0x14, fun _ => 2, 13, 0x50, 0x40, 24, 2, .rw, false, fun _ => 0, fun _ => 2, 1, fun _ _ _ => ((0 : Nat) : Int), .now⟩,  -- DATUM_transport
  ⟨0x04, .one, 0x15, fun _ => 2, 13, 0x50, 0x40, 26, 1, .rw, false, fun _ => 0, fun _ => 1, 1, fun _ _ _ => ((0 : Nat) : Int), .now⟩,  -- DATUM_delay_mech
  ⟨0x04, .one, 0x16, fun _ => 2, 13, 0x58, 0x40, 0, 16, .rw, false, fun _ => 100, fun _ => 60000, 100, fun _ _ _ => ((1000 : Nat) : Int), .now⟩,  -- DATUM_loss_ms
  ⟨0x04, .one, 0x17, fun _ => 2, 13, 0x58, 0x40, 32, 32, .rc, false, fun _ => 0, fun _ => 4294967295, 1, fun _ _ _ => ((0 : Nat) : Int), .now⟩,  -- DATUM_syncs
  ⟨0x04, .one, 0x18, fun _ => 2, 13, 0x60, 0x40, 0, 64, .ro, false, fun _ => 0, fun _ => 18446744073709551615, 1, fun _ _ _ => ((0 : Nat) : Int), .now⟩,  -- DATUM_now
  ⟨0x04, .one, 0x19, fun _ => 2, 13, 0x68, 0x40, 0, 48, .ro, false, fun _ => 0, fun _ => 281474976710655, 1, fun _ _ _ => ((0 : Nat) : Int), .now⟩,  -- DATUM_sec
  ⟨0x04, .one, 0x27, fun _ => 1, 0, 0x100, 0x0, 0, 24, .rw, false, fun _ => 4166667, fun e => e.acc (Reg.FT_PERIOD_nominal_ns), 1, fun _ _ _ => ((8333333 : Nat) : Int), .frame⟩,  -- FT_PERIOD_t_min_ns
  ⟨0x04, .one, 0x28, fun _ => 1, 0, 0x100, 0x0, 32, 24, .rw, false, fun e => e.acc (Reg.FT_PERIOD_nominal_ns), fun _ => 16777215, 1, fun _ _ _ => ((8750000 : Nat) : Int), .frame⟩,  -- FT_PERIOD_t_max_ns
  ⟨0x04, .one, 0x29, fun _ => 1, 0, 0x108, 0x0, 0, 24, .rw, false, fun e => e.acc (Reg.FT_PERIOD_t_min_ns), fun e => e.acc (Reg.FT_PERIOD_t_max_ns), 1, fun _ _ _ => ((8333333 : Nat) : Int), .frame⟩]  -- FT_PERIOD_nominal_ns

/-- R523. -/
def tabR523c : List FieldRow := [
  ⟨0x04, .one, 0x2A, fun _ => 1, 0, 0x108, 0x0, 32, 1, .rw, false, fun _ => 0, fun _ => 1, 1, fun _ _ _ => ((0 : Nat) : Int), .frame⟩,  -- FT_PERIOD_mode
  ⟨0x04, .one, 0x2B, fun _ => 1, 0, 0x108, 0x0, 40, 8, .rw, false, fun _ => 10, fun _ => 255, 1, fun _ _ _ => ((50 : Nat) : Int), .frame⟩,  -- FT_PERIOD_latch_guard_us
  ⟨0x04, .one, 0x2C, fun _ => 1, 0, 0x110, 0x0, 0, 3, .ro, false, fun _ => 0, fun _ => 7, 1, fun _ _ _ => ((0 : Nat) : Int), .now⟩,  -- FT_STATE_state
  ⟨0x04, .one, 0x2D, fun _ => 1, 0, 0x110, 0x0, 3, 1, .ro, false, fun _ => 0, fun _ => 1, 1, fun _ _ _ => ((0 : Nat) : Int), .now⟩,  -- FT_STATE_locked_now
  ⟨0x04, .one, 0x2E, fun _ => 1, 0, 0x110, 0x0, 4, 1, .ro, false, fun _ => 0, fun _ => 1, 1, fun _ _ _ => ((0 : Nat) : Int), .now⟩,  -- FT_STATE_commit_next
  ⟨0x04, .one, 0x2F, fun _ => 1, 0, 0x110, 0x0, 5, 1, .ro, false, fun _ => 0, fun _ => 1, 1, fun _ _ _ => ((0 : Nat) : Int), .now⟩,  -- FT_STATE_commit_after
  ⟨0x04, .one, 0x30, fun _ => 1, 0, 0x118, 0x0, 0, 64, .ro, false, fun _ => 0, fun _ => 18446744073709551615, 1, fun _ _ _ => ((0 : Nat) : Int), .now⟩,  -- FRAME_COUNT_count
  ⟨0x04, .one, 0x31, fun _ => 1, 0, 0x120, 0x0, 0, 64, .ro, false, fun _ => 0, fun _ => 18446744073709551615, 1, fun _ _ _ => ((0 : Nat) : Int), .now⟩,  -- LAST_FLIP_time
  ⟨0x04, .one, 0x32, fun _ => 1, 0, 0x128, 0x0, 0, 64, .ro, false, fun _ => 0, fun _ => 18446744073709551615, 1, fun _ _ _ => ((0 : Nat) : Int), .now⟩,  -- FT_START_time
  ⟨0x04, .one, 0x33, fun _ => 1, 0, 0x130, 0x0, 0, 64, .ro, false, fun _ => 0, fun _ => 18446744073709551615, 1, fun _ _ _ => ((0 : Nat) : Int), .now⟩,  -- FT_LATCH_time
  ⟨0x04, .one, 0x34, fun _ => 1, 0, 0x138, 0x0, 0, 40, .ro, false, fun _ => 0, fun _ => 1099511627775, 1, fun _ _ _ => ((0 : Nat) : Int), .now⟩,  -- FT_COMMIT_current
  ⟨0x04, .one, 0x35, fun _ => 1, 0, 0x140, 0x0, 0, 40, .ro, false, fun _ => 0, fun _ => 1099511627775, 1, fun _ _ _ => ((0 : Nat) : Int), .now⟩,  -- FT_COMMIT_next
  ⟨0x04, .one, 0x36, fun _ => 1, 0, 0x148, 0x0, 0, 40, .ro, false, fun _ => 0, fun _ => 1099511627775, 1, fun _ _ _ => ((0 : Nat) : Int), .now⟩,  -- FT_COMMIT_after
  ⟨0x04, .one, 0x37, fun _ => 1, 0, 0x150, 0x0, 0, 1, .rw, false, fun _ => 0, fun _ => 1, 1, fun _ _ _ => ((1 : Nat) : Int), .now⟩]  -- FT_REST_auto

/-- R523. -/
def tabR523d : List FieldRow := [
  ⟨0x04, .one, 0x38, fun _ => 1, 0, 0x150, 0x0, 1, 1, .wo, false, fun _ => 0, fun _ => 1, 1, fun _ _ _ => ((0 : Nat) : Int), .now⟩,  -- FT_REST_enter
  ⟨0x04, .one, 0x39, fun _ => 1, 0, 0x150, 0x0, 2, 1, .wo, false, fun _ => 0, fun _ => 1, 1, fun _ _ _ => ((0 : Nat) : Int), .now⟩,  -- FT_REST_exit
  ⟨0x04, .one, 0x3A, fun _ => 1, 0, 0x150, 0x0, 8, 24, .rw, false, fun _ => 100, fun _ => 3600000, 100, fun _ _ _ => ((10000 : Nat) : Int), .now⟩,  -- FT_REST_idle_ms
  ⟨0x04, .one, 0x3B, fun _ => 1, 0, 0x158, 0x0, 0, 32, .rc, false, fun _ => 0, fun _ => 4294967295, 1, fun _ _ _ => ((0 : Nat) : Int), .now⟩,  -- FT_CNT_tmax_starts
  ⟨0x04, .one, 0x3C, fun _ => 1, 0, 0x158, 0x0, 32, 32, .rc, false, fun _ => 0, fun _ => 4294967295, 1, fun _ _ _ => ((0 : Nat) : Int), .now⟩,  -- FT_CNT_forced_latch
  ⟨0x04, .one, 0x3D, fun _ => 1, 0, 0x160, 0x0, 0, 32, .rc, false, fun _ => 0, fun _ => 4294967295, 1, fun _ _ _ => ((0 : Nat) : Int), .now⟩,  -- FT_CNT_no_commit
  ⟨0x04, .one, 0x3E, fun _ => 1, 0, 0x160, 0x0, 32, 32, .rc, false, fun _ => 0, fun _ => 4294967295, 1, fun _ _ _ => ((0 : Nat) : Int), .now⟩,  -- FT_CNT_lock_miss
  ⟨0x04, .one, 0x3F, fun _ => 1, 0, 0x168, 0x0, 0, 32, .rc, false, fun _ => 0, fun _ => 4294967295, 1, fun _ _ _ => ((0 : Nat) : Int), .now⟩]  -- FT_CNT_rests

/-- R524. -/
def tabR524a : List FieldRow := [
  ⟨0x10, .ports, 0x101, fun _ => 1, 0, 0x100, 0x0, 0, 23, .rw, false, fun _ => 0x400000, fun e => (e.p.ringMax : Int), 1, fun p inst _ => ((p.ringBase + p.ringStep * inst : Nat) : Int), .boot⟩,  -- PTP_RX_ring
  ⟨0x10, .ports, 0x102, fun _ => 1, 0, 0x100, 0x0, 32, 16, .ro, false, fun _ => 0, fun _ => 65535, 1, fun _ _ _ => ((0 : Nat) : Int), .now⟩,  -- PTP_RX_head
  ⟨0x10, .ports, 0x103, fun _ => 1, 0, 0x108, 0x0, 0, 16, .rw, false, fun _ => 0, fun _ => 65535, 1, fun _ _ _ => ((0 : Nat) : Int), .now⟩,  -- PTP_RX_tail
  ⟨0x10, .ports, 0x104, fun _ => 1, 0, 0x108, 0x0, 32, 32, .rc, false, fun _ => 0, fun _ => 4294967295, 1, fun _ _ _ => ((0 : Nat) : Int), .now⟩,  -- PTP_RX_dropped
  ⟨0x10, .ports, 0x105, fun _ => 1, 0, 0x110, 0x0, 0, 23, .rw, false, fun _ => 0x400000, fun e => (e.p.txMax : Int), 1, fun p inst _ => ((p.txBase + p.txStep * inst : Nat) : Int), .now⟩,  -- PTP_TX_buf
  ⟨0x10, .ports, 0x106, fun _ => 1, 0, 0x110, 0x0, 32, 11, .rw, false, fun _ => 60, fun _ => 1522, 1, fun _ _ _ => ((60 : Nat) : Int), .now⟩,  -- PTP_TX_len
  ⟨0x10, .ports, 0x107, fun _ => 1, 0, 0x118, 0x0, 0, 16, .wo, false, fun _ => 0, fun _ => 65535, 1, fun _ _ _ => ((0 : Nat) : Int), .now⟩,  -- PTP_TX_send
  ⟨0x10, .ports, 0x108, fun _ => 1, 0, 0x118, 0x0, 16, 4, .ro, false, fun _ => 0, fun _ => 15, 1, fun _ _ _ => ((0 : Nat) : Int), .now⟩,  -- PTP_TX_queued
  ⟨0x10, .ports, 0x109, fun _ => 1, 0, 0x118, 0x0, 32, 32, .rc, false, fun _ => 0, fun _ => 4294967295, 1, fun _ _ _ => ((0 : Nat) : Int), .now⟩,  -- PTP_TX_lost
  ⟨0x10, .ports, 0x10A, fun _ => 1, 0, 0x120, 0x0, 0, 6, .ro, false, fun _ => 0, fun _ => 63, 1, fun _ _ _ => ((0 : Nat) : Int), .now⟩,  -- TSQ_count
  ⟨0x10, .ports, 0x10B, fun _ => 1, 0, 0x120, 0x0, 8, 1, .w1c, false, fun _ => 0, fun _ => 1, 1, fun _ _ _ => ((0 : Nat) : Int), .now⟩,  -- TSQ_ovf
  ⟨0x10, .ports, 0x10C, fun _ => 1, 0, 0x120, 0x0, 9, 1, .wo, false, fun _ => 0, fun _ => 1, 1, fun _ _ _ => ((0 : Nat) : Int), .now⟩,  -- TSQ_pop
  ⟨0x10, .ports, 0x10D, fun _ => 1, 0, 0x120, 0x0, 32, 32, .rc, false, fun _ => 0, fun _ => 4294967295, 1, fun _ _ _ => ((0 : Nat) : Int), .now⟩,  -- TSQ_dropped
  ⟨0x10, .ports, 0x10E, fun _ => 1, 0, 0x128, 0x0, 0, 16, .ro, false, fun _ => 0, fun _ => 65535, 1, fun _ _ _ => ((0 : Nat) : Int), .now⟩]  -- TSQ_TOP_ident

/-- R524. -/
def tabR524b : List FieldRow := [
  ⟨0x10, .ports, 0x10F, fun _ => 1, 0, 0x128, 0x0, 16, 1, .ro, false, fun _ => 0, fun _ => 1, 1, fun _ _ _ => ((0 : Nat) : Int), .now⟩,  -- TSQ_TOP_valid
  ⟨0x10, .ports, 0x110, fun _ => 1, 0, 0x130, 0x0, 0, 64, .ro, false, fun _ => 0, fun _ => 18446744073709551615, 1, fun _ _ _ => ((0 : Nat) : Int), .now⟩,  -- TSQ_TOP_a
  ⟨0x10, .ports, 0x111, fun _ => 1, 0, 0x138, 0x0, 0, 64, .ro, false, fun _ => 0, fun _ => 18446744073709551615, 1, fun _ _ _ => ((0 : Nat) : Int), .now⟩,  -- TSQ_TOP_b
  ⟨0x10, .ports, 0x112, fun _ => 1, 0, 0x140, 0x0, 0, 64, .ro, false, fun _ => 0, fun _ => 18446744073709551615, 1, fun _ _ _ => ((0 : Nat) : Int), .now⟩,  -- TSQ_TOP_free
  ⟨0x10, .ports, 0x113, fun _ => 1, 0, 0x148, 0x0, 0, 16, .rw, false, fun _ => 0, fun _ => 65535, 1, fun _ _ _ => ((0 : Nat) : Int), .now⟩,  -- PTP_LAT_rx_ps
  ⟨0x10, .ports, 0x114, fun _ => 1, 0, 0x148, 0x0, 32, 16, .rw, false, fun _ => 0, fun _ => 65535, 1, fun _ _ _ => ((0 : Nat) : Int), .now⟩]  -- PTP_LAT_tx_ps

/-- R548. -/
def tabR548a : List FieldRow := [
  ⟨0x05, .one, 0x1, fun _ => 1, 0, 0x0, 0x0, 0, 2, .ro, false, fun _ => 0, fun _ => 3, 1, fun _ _ _ => ((0 : Nat) : Int), .now⟩,  -- HEALTH_STATE_state
  ⟨0x05, .one, 0x2, fun _ => 1, 0, 0x0, 0x0, 2, 2, .ro, false, fun _ => 0, fun _ => 3, 1, fun _ _ _ => ((0 : Nat) : Int), .now⟩,  -- HEALTH_STATE_rate_state
  ⟨0x05, .one, 0x3, fun _ => 1, 0, 0x0, 0x0, 4, 2, .ro, false, fun _ => 0, fun _ => 3, 1, fun _ _ _ => ((0 : Nat) : Int), .now⟩,  -- HEALTH_STATE_hot_die
  ⟨0x05, .one, 0x4, fun _ => 1, 0, 0x0, 0x0, 6, 1, .ro, false, fun _ => 0, fun _ => 1, 1, fun _ _ _ => ((0 : Nat) : Int), .now⟩,  -- HEALTH_STATE_fast
  ⟨0x05, .one, 0x5, fun _ => 1, 0, 0x0, 0x0, 8, 3, .ro, false, fun _ => 0, fun _ => 7, 1, fun _ _ _ => ((0 : Nat) : Int), .now⟩,  -- HEALTH_STATE_sensor_failed
  ⟨0x05, .one, 0x6, fun _ => 1, 0, 0x0, 0x0, 32, 32, .rc, false, fun _ => 0, fun _ => 4294967295, 1, fun _ _ _ => ((0 : Nat) : Int), .now⟩,  -- HEALTH_STATE_changes
  ⟨0x05, .one, 0x7, fun _ => 1, 0, 0x8, 0x0, 0, 16, .ro, true, fun _ => -32768, fun _ => 32767, 1, fun _ _ _ => ((0 : Nat) : Int), .now⟩,  -- HEALTH_TEMP_die0
  ⟨0x05, .one, 0x8, fun _ => 1, 0, 0x8, 0x0, 16, 16, .ro, true, fun _ => -32768, fun _ => 32767, 1, fun _ _ _ => ((0 : Nat) : Int), .now⟩,  -- HEALTH_TEMP_die1
  ⟨0x05, .one, 0x9, fun _ => 1, 0, 0x8, 0x0, 32, 16, .ro, true, fun _ => -32768, fun _ => 32767, 1, fun _ _ _ => ((0 : Nat) : Int), .now⟩,  -- HEALTH_TEMP_hub
  ⟨0x05, .one, 0xA, fun _ => 1, 0, 0x8, 0x0, 48, 16, .ro, true, fun _ => -32768, fun _ => 32767, 1, fun _ _ _ => ((0 : Nat) : Int), .now⟩,  -- HEALTH_TEMP_governing
  ⟨0x05, .one, 0xB, fun _ => 1, 0, 0x10, 0x0, 0, 16, .ro, true, fun _ => -32768, fun _ => 32767, 1, fun _ _ _ => ((0 : Nat) : Int), .now⟩,  -- HEALTH_RATE_die0
  ⟨0x05, .one, 0xC, fun _ => 1, 0, 0x10, 0x0, 16, 16, .ro, true, fun _ => -32768, fun _ => 32767, 1, fun _ _ _ => ((0 : Nat) : Int), .now⟩,  -- HEALTH_RATE_die1
  ⟨0x05, .one, 0xD, fun _ => 1, 0, 0x10, 0x0, 32, 16, .ro, true, fun _ => -32768, fun _ => 32767, 1, fun _ _ _ => ((0 : Nat) : Int), .now⟩,  -- HEALTH_RATE_hub
  ⟨0x05, .one, 0xE, fun _ => 1, 0, 0x10, 0x0, 48, 16, .ro, true, fun _ => -32768, fun _ => 32767, 1, fun _ _ _ => ((0 : Nat) : Int), .now⟩]  -- HEALTH_RATE_governing

/-- R548. -/
def tabR548b : List FieldRow := [
  ⟨0x05, .one, 0xF, fun _ => 1, 0, 0x18, 0x0, 0, 12, .rw, false, fun _ => 960, fun e => e.acc (Reg.HEALTH_TH_throttle) - 16, 1, fun _ _ _ => ((1520 : Nat) : Int), .now⟩,  -- HEALTH_TH_warn
  ⟨0x05, .one, 0x10, fun _ => 1, 0, 0x18, 0x0, 16, 12, .rw, false, fun e => e.acc (Reg.HEALTH_TH_warn) + 16, fun _ => 1680, 1, fun _ _ _ => ((1600 : Nat) : Int), .now⟩,  -- HEALTH_TH_throttle
  ⟨0x05, .one, 0x11, fun _ => 1, 0, 0x18, 0x0, 32, 12, .ro, false, fun _ => 0, fun _ => 4095, 1, fun _ _ _ => ((1760 : Nat) : Int), .now⟩,  -- HEALTH_TH_crit
  ⟨0x05, .one, 0x12, fun _ => 1, 0, 0x20, 0x0, 0, 12, .rw, false, fun _ => 16, fun e => e.acc (Reg.HEALTH_RATE_TH_rate_act) - 16, 1, fun _ _ _ => ((48 : Nat) : Int), .now⟩,  -- HEALTH_RATE_TH_rate_warn
  ⟨0x05, .one, 0x13, fun _ => 1, 0, 0x20, 0x0, 16, 12, .rw, false, fun e => e.acc (Reg.HEALTH_RATE_TH_rate_warn) + 16, fun _ => 1024, 1, fun _ _ _ => ((128 : Nat) : Int), .now⟩,  -- HEALTH_RATE_TH_rate_act
  ⟨0x05, .one, 0x14, fun _ => 1, 0, 0x28, 0x0, 0, 1, .rw, false, fun _ => 0, fun _ => 1, 1, fun _ _ _ => ((0 : Nat) : Int), .now⟩,  -- HEALTH_CTRL_crit_action
  ⟨0x05, .one, 0x15, fun _ => 1, 0, 0x28, 0x0, 4, 4, .rw, false, fun _ => 0, fun _ => 15, 1, fun _ _ _ => ((0 : Nat) : Int), .now⟩,  -- HEALTH_CTRL_crit_pattern
  ⟨0x05, .one, 0x16, fun _ => 1, 0, 0x30, 0x0, 0, 2, .ro, false, fun _ => 0, fun _ => 3, 1, fun _ _ _ => ((0 : Nat) : Int), .now⟩,  -- HEALTH_SHDN_last_cause
  ⟨0x05, .one, 0x17, fun _ => 1, 0, 0x100, 0x0, 0, 12, .rw, false, fun _ => 33, fun _ => 3277, 1, fun _ _ _ => ((655 : Nat) : Int), .frame⟩,  -- GOV_CTRL_zone_ramp
  ⟨0x05, .one, 0x18, fun _ => 1, 0, 0x100, 0x0, 12, 12, .rw, false, fun _ => 1, fun _ => 3277, 1, fun _ _ _ => ((164 : Nat) : Int), .frame⟩,  -- GOV_CTRL_zone_rise
  ⟨0x05, .one, 0x19, fun _ => 1, 0, 0x100, 0x0, 24, 8, .rw, false, fun _ => 0, fun _ => 50, 1, fun _ _ _ => ((5 : Nat) : Int), .frame⟩,  -- GOV_CTRL_rise_margin
  ⟨0x05, .one, 0x1A, fun _ => 1, 0, 0x100, 0x0, 32, 1, .rw, false, fun _ => 0, fun _ => 1, 1, fun _ _ _ => ((0 : Nat) : Int), .frame⟩,  -- GOV_CTRL_guard_gallop
  ⟨0x05, .one, 0x1B, fun _ => 1, 0, 0x108, 0x0, 0, 3, .ro, false, fun _ => 0, fun _ => 7, 1, fun _ _ _ => ((0 : Nat) : Int), .now⟩,  -- GOV_THERM_stage
  ⟨0x05, .one, 0x1C, fun _ => 1, 0, 0x108, 0x0, 4, 3, .rw, false, fun _ => 0, fun _ => 4, 1, fun _ _ _ => ((4 : Nat) : Int), .now⟩]  -- GOV_THERM_max_stage

/-- R548. -/
def tabR548c : List FieldRow := [
  ⟨0x05, .one, 0x1D, fun _ => 1, 0, 0x108, 0x0, 8, 16, .rw, false, fun _ => 1, fun _ => 65535, 1, fun _ _ _ => ((120 : Nat) : Int), .now⟩,  -- GOV_THERM_hold_frames
  ⟨0x05, .one, 0x1E, fun _ => 1, 0, 0x110, 0x0, 0, 7, .rw, false, fun _ => 50, fun _ => 100, 1, fun _ _ _ => ((80 : Nat) : Int), .frame⟩,  -- GOV_CLK_fill_pct
  ⟨0x05, .one, 0x1F, fun _ => 1, 0, 0x118, 0x0, 0, 7, .rw, false, fun _ => 0, fun _ => 100, 1, fun _ _ _ => ((10 : Nat) : Int), .frame⟩,  -- GOV_LINK_headroom_pct
  ⟨0x05, .one, 0x20, fun _ => 1, 0, 0x120, 0x0, 0, 1, .ro, false, fun _ => 0, fun _ => 1, 1, fun _ _ _ => ((0 : Nat) : Int), .now⟩,  -- GOV_HALVE_halving
  ⟨0x05, .one, 0x21, fun _ => 1, 0, 0x120, 0x0, 32, 32, .rc, false, fun _ => 0, fun _ => 4294967295, 1, fun _ _ _ => ((0 : Nat) : Int), .now⟩,  -- GOV_HALVE_periods
  ⟨0x05, .one, 0x22, fun _ => 1, 0, 0x128, 0x0, 0, 32, .rc, false, fun _ => 0, fun _ => 4294967295, 1, fun _ _ _ => ((0 : Nat) : Int), .now⟩,  -- GOV_CNT_ceiling_frames
  ⟨0x05, .one, 0x23, fun _ => 1, 0, 0x128, 0x0, 32, 32, .rc, false, fun _ => 0, fun _ => 4294967295, 1, fun _ _ _ => ((0 : Nat) : Int), .now⟩,  -- GOV_CNT_gear_changes
  ⟨0x05, .one, 0x24, fun _ => 4, 4, 0x140, 0x8, 0, 16, .rw, false, fun _ => 0, fun _ => 65535, 1, fun _ _ _ => ((0 : Nat) : Int), .frame⟩,  -- GOV_TYPE_idle
  ⟨0x05, .one, 0x25, fun _ => 4, 4, 0x140, 0x8, 16, 16, .rw, false, fun _ => 0, fun _ => 65535, 1, fun _ _ _ => ((0 : Nat) : Int), .frame⟩,  -- GOV_TYPE_full_r
  ⟨0x05, .one, 0x26, fun _ => 4, 4, 0x140, 0x8, 32, 16, .rw, false, fun _ => 0, fun _ => 65535, 1, fun _ _ _ => ((0 : Nat) : Int), .frame⟩,  -- GOV_TYPE_full_g
  ⟨0x05, .one, 0x27, fun _ => 4, 4, 0x140, 0x8, 48, 16, .rw, false, fun _ => 0, fun _ => 65535, 1, fun _ _ _ => ((0 : Nat) : Int), .frame⟩,  -- GOV_TYPE_full_b
  ⟨0x05, .one, 0x34, fun _ => 3, 1, 0x160, 0x8, 0, 64, .ro, false, fun _ => 0, fun _ => 18446744073709551615, 1, fun _ _ _ => ((2 ^ 64 - 1 : Nat) : Int), .now⟩,  -- GOV_CLKG_gears
  ⟨0x05, .one, 0x37, fun _ => 64, 4, 0x200, 0x10, 0, 24, .rw, false, fun _ => 10, fun _ => 16777215, 1, fun _ _ _ => ((16777215 : Nat) : Int), .frame⟩,  -- GOV_ZONE_budget
  ⟨0x05, .one, 0x38, fun _ => 64, 4, 0x200, 0x10, 32, 16, .ro, false, fun _ => 0, fun _ => 65535, 1, fun _ _ _ => ((32768 : Nat) : Int), .now⟩]  -- GOV_ZONE_ceil

/-- R548. -/
def tabR548d : List FieldRow := [
  ⟨0x05, .one, 0x39, fun _ => 64, 4, 0x208, 0x10, 0, 32, .ro, false, fun _ => 0, fun _ => 4294967295, 1, fun _ _ _ => ((0 : Nat) : Int), .now⟩,  -- GOV_ZONE_predicted
  ⟨0x05, .one, 0x3A, fun _ => 64, 4, 0x208, 0x10, 32, 1, .ro, false, fun _ => 0, fun _ => 1, 1, fun _ _ _ => ((0 : Nat) : Int), .now⟩,  -- GOV_ZONE_over
  ⟨0x05, .one, 0x137, fun _ => 1, 0, 0x600, 0x0, 0, 1, .rw, false, fun _ => 0, fun _ => 1, 1, fun _ _ _ => ((1 : Nat) : Int), .now⟩,  -- SELF_TRIM_enable
  ⟨0x05, .one, 0x138, fun _ => 1, 0, 0x600, 0x0, 8, 6, .rw, false, fun _ => 1, fun _ => 63, 1, fun _ _ _ => ((6 : Nat) : Int), .now⟩,  -- SELF_TRIM_drift_limit
  ⟨0x05, .one, 0x139, fun _ => 1, 0, 0x600, 0x0, 32, 32, .rc, false, fun _ => 0, fun _ => 4294967295, 1, fun _ _ _ => ((0 : Nat) : Int), .now⟩,  -- SELF_TRIM_steps
  ⟨0x05, .one, 0x13A, fun _ => 24, 3, 0x700, 0x8, 0, 7, .ro, false, fun _ => 0, fun _ => 127, 1, fun _ _ _ => ((0 : Nat) : Int), .now⟩,  -- TRIM_CH_wck
  ⟨0x05, .one, 0x13B, fun _ => 24, 3, 0x700, 0x8, 8, 7, .ro, false, fun _ => 0, fun _ => 127, 1, fun _ _ _ => ((0 : Nat) : Int), .now⟩,  -- TRIM_CH_vref
  ⟨0x05, .one, 0x13C, fun _ => 24, 3, 0x700, 0x8, 16, 6, .ro, false, fun _ => 0, fun _ => 63, 1, fun _ _ _ => ((0 : Nat) : Int), .now⟩]  -- TRIM_CH_drift

/-- R571. -/
def tabR571a : List FieldRow := [
  ⟨0x03, .one, 0x1, fun _ => 1, 0, 0x0, 0x0, 0, 2, .ro, false, fun _ => 0, fun _ => 3, 1, fun _ _ _ => ((0 : Nat) : Int), .now⟩,  -- FM_STATUS_state
  ⟨0x03, .one, 0x2, fun _ => 1, 0, 0x0, 0x0, 2, 3, .ro, false, fun _ => 0, fun _ => 7, 1, fun _ _ _ => ((0 : Nat) : Int), .now⟩,  -- FM_STATUS_handling
  ⟨0x03, .one, 0x3, fun _ => 1, 0, 0x0, 0x0, 8, 5, .ro, false, fun _ => 0, fun _ => 31, 1, fun _ _ _ => ((0 : Nat) : Int), .now⟩,  -- FM_STATUS_queued
  ⟨0x03, .one, 0x4, fun _ => 1, 0, 0x0, 0x0, 16, 3, .rc, false, fun _ => 0, fun _ => 7, 1, fun _ _ _ => ((0 : Nat) : Int), .now⟩,  -- FM_STATUS_worst
  ⟨0x03, .one, 0x5, fun _ => 1, 0, 0x8, 0x0, 0, 32, .ro, false, fun _ => 0, fun _ => 4294967295, 1, fun _ _ _ => ((0 : Nat) : Int), .now⟩,  -- FM_LOG_head
  ⟨0x03, .one, 0x6, fun _ => 1, 0, 0x8, 0x0, 32, 32, .rw, false, fun _ => 0, fun _ => 4294967295, 1, fun _ _ _ => ((0 : Nat) : Int), .now⟩,  -- FM_LOG_tail
  ⟨0x03, .one, 0x7, fun _ => 1, 0, 0x10, 0x0, 0, 32, .ro, false, fun _ => 0, fun _ => 4294967295, 1, fun _ _ _ => ((0 : Nat) : Int), .now⟩,  -- FM_LOG_overwritten
  ⟨0x03, .one, 0x8, fun _ => 1, 0, 0x10, 0x0, 32, 1, .wo, false, fun _ => 0, fun _ => 1, 1, fun _ _ _ => ((0 : Nat) : Int), .now⟩,  -- FM_LOG_clear_ovf
  ⟨0x03, .one, 0x9, fun _ => 1, 0, 0x18, 0x0, 0, 1, .rw, false, fun _ => 0, fun _ => 1, 1, fun _ _ _ => ((0 : Nat) : Int), .frame⟩,  -- FM_CTRL_s3_action
  ⟨0x03, .one, 0xA, fun _ => 1, 0, 0x18, 0x0, 4, 4, .rw, false, fun _ => 0, fun _ => 15, 1, fun _ _ _ => ((0 : Nat) : Int), .frame⟩,  -- FM_CTRL_s3_pattern
  ⟨0x03, .one, 0xB, fun _ => 1, 0, 0x18, 0x0, 8, 1, .rw, false, fun _ => 0, fun _ => 1, 1, fun _ _ _ => ((0 : Nat) : Int), .now⟩,  -- FM_CTRL_s4_action
  ⟨0x03, .one, 0xC, fun _ => 1, 0, 0x18, 0x0, 12, 4, .rw, false, fun _ => 0, fun _ => 15, 1, fun _ _ _ => ((0 : Nat) : Int), .now⟩,  -- FM_CTRL_s4_pattern
  ⟨0x03, .one, 0xD, fun _ => 1, 0, 0x18, 0x0, 16, 1, .wo, false, fun _ => 0, fun _ => 1, 1, fun _ _ _ => ((0 : Nat) : Int), .now⟩,  -- FM_CTRL_warm_reset
  ⟨0x03, .one, 0xE, fun _ => 1, 0, 0x20, 0x0, 0, 17, .wo, false, fun _ => 0, fun _ => 131071, 1, fun _ _ _ => ((0 : Nat) : Int), .now⟩]  -- FM_ENGINE_target

/-- R571. -/
def tabR571b : List FieldRow := [
  ⟨0x03, .one, 0xF, fun _ => 1, 0, 0x28, 0x0, 0, 32, .rc, false, fun _ => 0, fun _ => 4294967295, 1, fun _ _ _ => ((0 : Nat) : Int), .now⟩,  -- FM_CNT_s1
  ⟨0x03, .one, 0x10, fun _ => 1, 0, 0x28, 0x0, 32, 32, .rc, false, fun _ => 0, fun _ => 4294967295, 1, fun _ _ _ => ((0 : Nat) : Int), .now⟩,  -- FM_CNT_s2
  ⟨0x03, .one, 0x11, fun _ => 1, 0, 0x30, 0x0, 0, 32, .rc, false, fun _ => 0, fun _ => 4294967295, 1, fun _ _ _ => ((0 : Nat) : Int), .now⟩,  -- FM_CNT_s3
  ⟨0x03, .one, 0x12, fun _ => 1, 0, 0x30, 0x0, 32, 32, .rc, false, fun _ => 0, fun _ => 4294967295, 1, fun _ _ _ => ((0 : Nat) : Int), .now⟩,  -- FM_CNT_s4
  ⟨0x03, .one, 0x13, fun _ => 1, 0, 0x38, 0x0, 0, 32, .rc, false, fun _ => 0, fun _ => 4294967295, 1, fun _ _ _ => ((0 : Nat) : Int), .now⟩,  -- FM_CNT_escalations
  ⟨0x03, .one, 0x14, fun _ => 1, 0, 0x38, 0x0, 32, 32, .rc, false, fun _ => 0, fun _ => 4294967295, 1, fun _ _ _ => ((0 : Nat) : Int), .now⟩,  -- FM_CNT_preemptions
  ⟨0x03, .one, 0x15, fun _ => 1, 0, 0x40, 0x0, 0, 5, .rc, false, fun _ => 0, fun _ => 31, 1, fun _ _ _ => ((0 : Nat) : Int), .now⟩,  -- FM_CNT_queue_max
  ⟨0x03, .one, 0x16, fun _ => 1, 0, 0x100, 0x0, 0, 64, .ro, false, fun _ => 0, fun _ => 18446744073709551615, 1, fun _ _ _ => ((0 : Nat) : Int), .now⟩,  -- FM_FIRST_w0
  ⟨0x03, .one, 0x17, fun _ => 1, 0, 0x108, 0x0, 0, 64, .ro, false, fun _ => 0, fun _ => 18446744073709551615, 1, fun _ _ _ => ((0 : Nat) : Int), .now⟩,  -- FM_FIRST_w1
  ⟨0x03, .one, 0x18, fun _ => 1, 0, 0x110, 0x0, 0, 64, .ro, false, fun _ => 0, fun _ => 18446744073709551615, 1, fun _ _ _ => ((0 : Nat) : Int), .now⟩,  -- FM_FIRST_w2
  ⟨0x03, .one, 0x19, fun _ => 1, 0, 0x118, 0x0, 0, 64, .ro, false, fun _ => 0, fun _ => 18446744073709551615, 1, fun _ _ _ => ((0 : Nat) : Int), .now⟩,  -- FM_FIRST_w3
  ⟨0x03, .one, 0x1A, fun _ => 1, 0, 0x120, 0x0, 0, 1, .wo, false, fun _ => 0, fun _ => 1, 1, fun _ _ _ => ((0 : Nat) : Int), .now⟩]  -- FM_FIRST_clear

/-- R603. -/
def tabR603 : List FieldRow := [
  ⟨0x06, .one, 0x1, fun _ => 1, 0, 0x0, 0x0, 0, 2, .ro, false, fun _ => 0, fun _ => 3, 1, fun _ _ _ => ((0 : Nat) : Int), .now⟩,  -- TRUST_STATUS_state
  ⟨0x06, .one, 0x2, fun _ => 1, 0, 0x0, 0x0, 8, 8, .ro, false, fun _ => 0, fun _ => 255, 1, fun _ _ _ => ((0 : Nat) : Int), .now⟩,  -- TRUST_STATUS_last_outcome
  ⟨0x06, .one, 0x3, fun _ => 1, 0, 0x0, 0x0, 16, 16, .ro, false, fun _ => 0, fun _ => 65535, 1, fun _ _ _ => ((0 : Nat) : Int), .now⟩,  -- TRUST_STATUS_last_failed
  ⟨0x06, .one, 0x4, fun _ => 1, 0, 0x8, 0x0, 0, 32, .rc, false, fun _ => 0, fun _ => 4294967295, 1, fun _ _ _ => ((0 : Nat) : Int), .now⟩,  -- TRUST_CNT_accepted
  ⟨0x06, .one, 0x5, fun _ => 1, 0, 0x8, 0x0, 32, 32, .rc, false, fun _ => 0, fun _ => 4294967295, 1, fun _ _ _ => ((0 : Nat) : Int), .now⟩,  -- TRUST_CNT_rejected
  ⟨0x06, .one, 0x6, fun _ => 1, 0, 0x10, 0x0, 0, 64, .ro, false, fun _ => 0, fun _ => 18446744073709551615, 1, fun _ _ _ => ((0 : Nat) : Int), .now⟩,  -- TRUST_ID_serial
  ⟨0x06, .one, 0x7, fun _ => 1, 0, 0x18, 0x0, 0, 4, .ro, false, fun _ => 0, fun _ => 15, 1, fun _ _ _ => ((0 : Nat) : Int), .now⟩,  -- TRUST_KEYS_vendor_revoked
  ⟨0x06, .one, 0x8, fun _ => 1, 0, 0x18, 0x0, 4, 4, .ro, false, fun _ => 0, fun _ => 15, 1, fun _ _ _ => ((0 : Nat) : Int), .now⟩,  -- TRUST_KEYS_owner_slots
  ⟨0x06, .one, 0x9, fun _ => 1, 0, 0x18, 0x0, 8, 1, .ro, false, fun _ => 0, fun _ => 1, 1, fun _ _ _ => ((0 : Nat) : Int), .now⟩,  -- TRUST_KEYS_vendor_images
  ⟨0x06, .one, 0xA, fun _ => 1, 0, 0x20, 0x0, 0, 63, .ro, false, fun _ => 0, fun _ => 9223372036854775807, 1, fun _ _ _ => ((0 : Nat) : Int), .now⟩,  -- TRUST_FLOOR_vendor
  ⟨0x06, .one, 0xB, fun _ => 1, 0, 0x28, 0x0, 0, 63, .ro, false, fun _ => 0, fun _ => 9223372036854775807, 1, fun _ _ _ => ((0 : Nat) : Int), .now⟩,  -- TRUST_FLOOR_owner
  ⟨0x06, .one, 0xC, fun _ => 1, 0, 0x30, 0x0, 0, 63, .ro, false, fun _ => 0, fun _ => 9223372036854775807, 1, fun _ _ _ => ((0 : Nat) : Int), .now⟩]  -- TRUST_GEN_owner_gen

/-- R604. -/
def tabR604a : List FieldRow := [
  ⟨0x07, .one, 0x1, fun _ => 1, 0, 0x0, 0x0, 0, 4, .ro, false, fun _ => 0, fun _ => 15, 1, fun _ _ _ => ((0 : Nat) : Int), .now⟩,  -- NVM_STATUS_bank_busy
  ⟨0x07, .one, 0x2, fun _ => 1, 0, 0x0, 0x0, 4, 1, .ro, false, fun _ => 0, fun _ => 1, 1, fun _ _ _ => ((0 : Nat) : Int), .now⟩,  -- NVM_STATUS_host_busy
  ⟨0x07, .one, 0x3, fun _ => 1, 0, 0x0, 0x0, 8, 8, .ro, false, fun _ => 0, fun _ => 255, 1, fun _ _ _ => ((0 : Nat) : Int), .now⟩,  -- NVM_STATUS_host_result
  ⟨0x07, .one, 0x4, fun _ => 1, 0, 0x8, 0x0, 0, 13, .rw, false, fun _ => 0, fun _ => 8191, 1, fun _ _ _ => ((0 : Nat) : Int), .now⟩,  -- NVM_ADDR_page
  ⟨0x07, .one, 0x5, fun _ => 1, 0, 0x8, 0x0, 16, 5, .rw, false, fun _ => 0, fun _ => 31, 1, fun _ _ _ => ((0 : Nat) : Int), .now⟩,  -- NVM_ADDR_counter
  ⟨0x07, .one, 0x6, fun _ => 1, 0, 0x10, 0x0, 0, 3, .wo, false, fun _ => 0, fun _ => 4, 1, fun _ _ _ => ((0 : Nat) : Int), .now⟩,  -- NVM_CMD_op
  ⟨0x07, .one, 0x7, fun _ => 1, 0, 0x18, 0x0, 0, 3, .rw, false, fun _ => 0, fun _ => 4, 1, fun _ _ _ => ((0 : Nat) : Int), .now⟩,  -- NVM_UNLOCK_part
  ⟨0x07, .one, 0x8, fun _ => 1, 0, 0x18, 0x0, 3, 1, .rw, false, fun _ => 0, fun _ => 1, 1, fun _ _ _ => ((0 : Nat) : Int), .now⟩,  -- NVM_UNLOCK_kind
  ⟨0x07, .one, 0x9, fun _ => 1, 0, 0x18, 0x0, 4, 1, .wo, false, fun _ => 0, fun _ => 1, 1, fun _ _ _ => ((0 : Nat) : Int), .now⟩,  -- NVM_UNLOCK_go
  ⟨0x07, .one, 0xA, fun _ => 1, 0, 0x18, 0x0, 5, 1, .wo, false, fun _ => 0, fun _ => 1, 1, fun _ _ _ => ((0 : Nat) : Int), .now⟩,  -- NVM_UNLOCK_lock
  ⟨0x07, .one, 0xB, fun _ => 1, 0, 0x20, 0x0, 0, 10, .ro, false, fun _ => 0, fun _ => 1023, 1, fun _ _ _ => ((0 : Nat) : Int), .now⟩,  -- NVM_LOCKS_open
  ⟨0x07, .one, 0xC, fun _ => 1, 0, 0x20, 0x0, 16, 4, .ro, false, fun _ => 0, fun _ => 15, 1, fun _ _ _ => ((0 : Nat) : Int), .now⟩,  -- NVM_LOCKS_fails
  ⟨0x07, .one, 0xD, fun _ => 1, 0, 0x28, 0x0, 0, 32, .rc, false, fun _ => 0, fun _ => 4294967295, 1, fun _ _ _ => ((0 : Nat) : Int), .now⟩,  -- NVM_ECC_corrected
  ⟨0x07, .one, 0xE, fun _ => 1, 0, 0x28, 0x0, 32, 32, .rc, false, fun _ => 0, fun _ => 4294967295, 1, fun _ _ _ => ((0 : Nat) : Int), .now⟩]  -- NVM_ECC_uncorrected

/-- R604. -/
def tabR604b : List FieldRow := [
  ⟨0x07, .one, 0xF, fun _ => 1, 0, 0x30, 0x0, 0, 19, .ro, false, fun _ => 0, fun _ => 524287, 1, fun _ _ _ => ((0 : Nat) : Int), .now⟩,  -- NVM_ECC_addr
  ⟨0x07, .one, 0x10, fun _ => 1, 0, 0x38, 0x0, 0, 32, .rc, false, fun _ => 0, fun _ => 4294967295, 1, fun _ _ _ => ((0 : Nat) : Int), .now⟩,  -- NVM_CNT_writes
  ⟨0x07, .one, 0x11, fun _ => 4, 1, 0x80, 0x4, 0, 32, .wo, false, fun _ => 0, fun _ => 4294967295, 1, fun _ _ _ => ((0 : Nat) : Int), .now⟩,  -- NVM_PW_w
  ⟨0x07, .one, 0x15, fun _ => 16, 1, 0x100, 0x4, 0, 32, .rw, false, fun _ => 0, fun _ => 4294967295, 1, fun _ _ _ => ((0 : Nat) : Int), .now⟩]  -- NVM_DATA_d

/-- R623. -/
def tabR623a : List FieldRow := [
  ⟨0x00, .one, 0x30, fun _ => 1, 0, 0x100, 0x0, 0, 4, .ro, false, fun _ => 0, fun _ => 15, 1, fun _ _ _ => ((1 : Nat) : Int), .now⟩,  -- RST_STATUS_cause
  ⟨0x00, .one, 0x31, fun _ => 1, 0, 0x100, 0x0, 8, 4, .ro, false, fun _ => 0, fun _ => 15, 1, fun _ _ _ => ((1 : Nat) : Int), .now⟩,  -- RST_STATUS_stage
  ⟨0x00, .one, 0x32, fun _ => 1, 0, 0x100, 0x0, 12, 2, .ro, false, fun _ => 0, fun _ => 3, 1, fun _ _ _ => ((3 : Nat) : Int), .now⟩,  -- RST_STATUS_slot
  ⟨0x00, .one, 0x33, fun _ => 1, 0, 0x100, 0x0, 16, 8, .ro, false, fun _ => 0, fun _ => 255, 1, fun _ _ _ => ((0 : Nat) : Int), .now⟩,  -- RST_STATUS_fail0
  ⟨0x00, .one, 0x34, fun _ => 1, 0, 0x100, 0x0, 24, 8, .ro, false, fun _ => 0, fun _ => 255, 1, fun _ _ _ => ((0 : Nat) : Int), .now⟩,  -- RST_STATUS_fail1
  ⟨0x00, .one, 0x35, fun _ => 1, 0, 0x108, 0x0, 0, 1, .wo, false, fun _ => 0, fun _ => 1, 1, fun _ _ _ => ((0 : Nat) : Int), .now⟩,  -- RST_CTRL_warm
  ⟨0x00, .one, 0x36, fun _ => 1, 0, 0x108, 0x0, 1, 1, .rw, false, fun _ => 0, fun _ => 1, 1, fun _ _ _ => ((0 : Nat) : Int), .now⟩,  -- RST_CTRL_perst_warm
  ⟨0x00, .one, 0x37, fun _ => 1, 0, 0x110, 0x0, 0, 21, .rw, false, fun _ => 0, fun _ => 2097151, 1, fun _ _ _ => ((0 : Nat) : Int), .now⟩,  -- RST_BOOT_offset
  ⟨0x00, .one, 0x38, fun _ => 1, 0, 0x118, 0x0, 0, 28, .rw, false, fun _ => 0, fun _ => 12582912, 8, fun _ _ _ => ((0 : Nat) : Int), .now⟩,  -- RST_BOOT_length
  ⟨0x00, .one, 0x39, fun _ => 1, 0, 0x118, 0x0, 28, 1, .wo, false, fun _ => 0, fun _ => 1, 1, fun _ _ _ => ((0 : Nat) : Int), .now⟩,  -- RST_BOOT_go
  ⟨0x00, .one, 0x3A, fun _ => 1, 0, 0x120, 0x0, 0, 32, .ro, false, fun _ => 0, fun _ => 4294967295, 1, fun _ _ _ => ((0 : Nat) : Int), .now⟩,  -- RST_TIME_ready_us
  ⟨0x00, .one, 0x3B, fun _ => 1, 0, 0x128, 0x0, 0, 1, .rw, false, fun _ => 0, fun _ => 1, 1, fun _ _ _ => ((0 : Nat) : Int), .now⟩,  -- REF_CTRL_select
  ⟨0x00, .one, 0x3C, fun _ => 1, 0, 0x128, 0x0, 1, 1, .rw, false, fun _ => 0, fun _ => 1, 1, fun _ _ _ => ((1 : Nat) : Int), .now⟩,  -- REF_CTRL_auto
  ⟨0x00, .one, 0x3D, fun _ => 1, 0, 0x128, 0x0, 8, 8, .rw, false, fun _ => 10, fun _ => 200, 10, fun _ _ _ => ((100 : Nat) : Int), .now⟩]  -- REF_CTRL_tol_ppm

/-- R623. -/
def tabR623b : List FieldRow := [
  ⟨0x00, .one, 0x3E, fun _ => 1, 0, 0x130, 0x0, 0, 1, .ro, false, fun _ => 0, fun _ => 1, 1, fun _ _ _ => ((0 : Nat) : Int), .now⟩,  -- REF_STATUS_active
  ⟨0x00, .one, 0x3F, fun _ => 1, 0, 0x130, 0x0, 1, 1, .ro, false, fun _ => 0, fun _ => 1, 1, fun _ _ _ => ((0 : Nat) : Int), .now⟩,  -- REF_STATUS_a_present
  ⟨0x00, .one, 0x40, fun _ => 1, 0, 0x130, 0x0, 2, 1, .ro, false, fun _ => 0, fun _ => 1, 1, fun _ _ _ => ((0 : Nat) : Int), .now⟩,  -- REF_STATUS_b_present
  ⟨0x00, .one, 0x41, fun _ => 1, 0, 0x130, 0x0, 3, 1, .ro, false, fun _ => 0, fun _ => 1, 1, fun _ _ _ => ((0 : Nat) : Int), .now⟩,  -- REF_STATUS_a_tol
  ⟨0x00, .one, 0x42, fun _ => 1, 0, 0x130, 0x0, 4, 1, .ro, false, fun _ => 0, fun _ => 1, 1, fun _ _ _ => ((0 : Nat) : Int), .now⟩,  -- REF_STATUS_b_tol
  ⟨0x00, .one, 0x43, fun _ => 1, 0, 0x130, 0x0, 5, 1, .ro, false, fun _ => 0, fun _ => 1, 1, fun _ _ _ => ((0 : Nat) : Int), .now⟩,  -- REF_STATUS_pending
  ⟨0x00, .one, 0x44, fun _ => 1, 0, 0x130, 0x0, 6, 1, .ro, false, fun _ => 0, fun _ => 1, 1, fun _ _ _ => ((0 : Nat) : Int), .now⟩,  -- REF_STATUS_internal
  ⟨0x00, .one, 0x45, fun _ => 1, 0, 0x130, 0x0, 32, 32, .rc, false, fun _ => 0, fun _ => 4294967295, 1, fun _ _ _ => ((0 : Nat) : Int), .now⟩,  -- REF_STATUS_switches
  ⟨0x00, .one, 0x46, fun _ => 1, 0, 0x138, 0x0, 0, 32, .ro, true, fun _ => -2147483648, fun _ => 2147483647, 1, fun _ _ _ => ((0 : Nat) : Int), .now⟩,  -- REF_MEAS_diff_ppb
  ⟨0x00, .one, 0x47, fun _ => 1, 0, 0x140, 0x0, 0, 1, .ro, false, fun _ => 0, fun _ => 1, 1, fun _ _ _ => ((0 : Nat) : Int), .now⟩,  -- CLK_STATUS_m0_lock
  ⟨0x00, .one, 0x48, fun _ => 1, 0, 0x140, 0x0, 8, 8, .ro, false, fun _ => 0, fun _ => 255, 1, fun _ _ _ => ((0 : Nat) : Int), .now⟩,  -- CLK_STATUS_eth_lock
  ⟨0x00, .one, 0x49, fun _ => 1, 0, 0x140, 0x0, 32, 32, .rc, false, fun _ => 0, fun _ => 4294967295, 1, fun _ _ _ => ((0 : Nat) : Int), .now⟩]  -- CLK_STATUS_m0_unlocks

/-- R645. -/
def tabR645 : List FieldRow := [
  ⟨0x00, .one, 0x60, fun _ => 1, 0, 0x200, 0x0, 0, 10, .rw, false, fun _ => 0, fun _ => 1020, 1, fun _ _ _ => ((0 : Nat) : Int), .now⟩,  -- HOST_BAR2_base
  ⟨0x00, .one, 0x61, fun _ => 1, 0, 0x208, 0x0, 0, 16, .rw, false, fun _ => 0, fun _ => 65535, 1, fun _ _ _ => ((0 : Nat) : Int), .now⟩,  -- HOST_EVT_sig_mask
  ⟨0x00, .one, 0x62, fun _ => 1, 0, 0x208, 0x0, 16, 14, .rw, false, fun _ => 10, fun _ => 10000, 10, fun _ _ _ => ((500 : Nat) : Int), .now⟩,  -- HOST_CTRL_bar2_wait_us
  ⟨0x00, .one, 0x63, fun _ => 1, 0, 0x210, 0x0, 0, 32, .w1c, false, fun _ => 0, fun _ => 4294967295, 1, fun _ _ _ => ((0 : Nat) : Int), .now⟩,  -- HOST_IRQ_cause
  ⟨0x00, .one, 0x64, fun _ => 1, 0, 0x218, 0x0, 0, 3, .ro, false, fun _ => 0, fun _ => 7, 1, fun _ _ _ => ((0 : Nat) : Int), .now⟩,  -- HOST_LINK_speed
  ⟨0x00, .one, 0x65, fun _ => 1, 0, 0x218, 0x0, 4, 4, .ro, false, fun _ => 0, fun _ => 15, 1, fun _ _ _ => ((0 : Nat) : Int), .now⟩,  -- HOST_LINK_width
  ⟨0x00, .one, 0x66, fun _ => 1, 0, 0x218, 0x0, 32, 32, .rc, false, fun _ => 0, fun _ => 4294967295, 1, fun _ _ _ => ((0 : Nat) : Int), .now⟩,  -- HOST_LINK_downs
  ⟨0x00, .one, 0x67, fun _ => 1, 0, 0x220, 0x0, 0, 32, .rc, false, fun _ => 0, fun _ => 4294967295, 1, fun _ _ _ => ((0 : Nat) : Int), .now⟩,  -- HOST_CNT_bar0_bad
  ⟨0x00, .one, 0x68, fun _ => 1, 0, 0x220, 0x0, 32, 32, .rc, false, fun _ => 0, fun _ => 4294967295, 1, fun _ _ _ => ((0 : Nat) : Int), .now⟩,  -- HOST_CNT_bar2_unmapped
  ⟨0x00, .one, 0x69, fun _ => 1, 0, 0x228, 0x0, 0, 32, .rc, false, fun _ => 0, fun _ => 4294967295, 1, fun _ _ _ => ((0 : Nat) : Int), .now⟩,  -- HOST_CNT_poisoned
  ⟨0x00, .one, 0x6A, fun _ => 1, 0, 0x228, 0x0, 32, 32, .rc, false, fun _ => 0, fun _ => 4294967295, 1, fun _ _ _ => ((0 : Nat) : Int), .now⟩,  -- HOST_CNT_bar2_timeout
  ⟨0x00, .one, 0x6B, fun _ => 1, 0, 0x230, 0x0, 0, 32, .rc, false, fun _ => 0, fun _ => 4294967295, 1, fun _ _ _ => ((0 : Nat) : Int), .now⟩]  -- HOST_CNT_msix_sent

/-- Every field row of unit 0x00. -/
def unit00 : List FieldRow := tabR26 ++ tabR34 ++ tabR36 ++ tabR43 ++ tabR62 ++ tabR623a ++ tabR623b ++ tabR645

/-- Every field row of unit 0x01. -/
def unit01 : List FieldRow := tabR103

/-- Every field row of unit 0x02. -/
def unit02 : List FieldRow := tabR105

/-- Every field row of unit 0x03. -/
def unit03 : List FieldRow := tabR571a ++ tabR571b

/-- Every field row of unit 0x04. -/
def unit04 : List FieldRow := tabR523a ++ tabR523b ++ tabR523c ++ tabR523d

/-- Every field row of unit 0x05. -/
def unit05 : List FieldRow := tabR548a ++ tabR548b ++ tabR548c ++ tabR548d

/-- Every field row of unit 0x06. -/
def unit06 : List FieldRow := tabR603

/-- Every field row of unit 0x07. -/
def unit07 : List FieldRow := tabR604a ++ tabR604b

/-- Every field row of unit 0x08. -/
def unit08 : List FieldRow := tabR274a ++ tabR274b

/-- Every field row of unit 0x10. -/
def unit10 : List FieldRow := tabR208a ++ tabR208b ++ tabR209a ++ tabR209b ++ tabR524a ++ tabR524b

/-- Every field row of unit 0x12. -/
def unit12 : List FieldRow := tabR246

/-- Every field row of unit 0x13. -/
def unit13 : List FieldRow := tabR247a ++ tabR247b

/-- Every field row of unit 0x20. -/
def unit20 : List FieldRow := tabR104 ++ tabR348a ++ tabR348b ++ tabR349 ++ tabR369a ++ tabR369b ++ tabR389a ++ tabR389b ++ tabR410

/-- Every field row of unit 0x30. -/
def unit30 : List FieldRow := tabR275

/-- Every field row of unit 0x40. -/
def unit40 : List FieldRow := tabR302 ++ tabR303a ++ tabR303b

/-- Every field row of unit 0x80. -/
def unit80 : List FieldRow := tabR444a ++ tabR444b ++ tabR444c ++ tabR492a ++ tabR492b ++ tabR493

/-- R87: the field rows of a unit number; an unassigned unit has none. -/
def rowsOfUnit (u : Nat) : List FieldRow :=
  if u = 0x00 then unit00
  else if u = 0x01 then unit01
  else if u = 0x02 then unit02
  else if u = 0x03 then unit03
  else if u = 0x04 then unit04
  else if u = 0x05 then unit05
  else if u = 0x06 then unit06
  else if u = 0x07 then unit07
  else if u = 0x08 then unit08
  else if u = 0x10 then unit10
  else if u = 0x12 then unit12
  else if u = 0x13 then unit13
  else if u = 0x20 then unit20
  else if u = 0x30 then unit30
  else if u = 0x40 then unit40
  else if u = 0x80 then unit80
  else []

/-- A field: its row, its instance and its index in an array. -/
structure Field where
  row : FieldRow
  inst : Nat
  rep : Nat

/-- The index at which a row holds field number `f`. -/
def FieldRow.repOf (r : FieldRow) (p : Params) (f : Nat) : Option Nat :=
  if f < r.fno then none
  else if r.fstep = 0 then (if f = r.fno then some 0 else none)
  else
    let d := f - r.fno
    if d % r.fstep = 0 ∧ d / r.fstep < r.reps p then some (d / r.fstep) else none

/-- The first row of a list that holds field number `f` of instance `i`. -/
def findField (p : Params) (i f : Nat) : List FieldRow → Option Field
  | [] => none
  | r :: t =>
    match r.kind.holds p i, r.repOf p f with
    | true, some j => some ⟨r, i, j⟩
    | _, _ => findField p i f t

/-- R86: the field that a handle names. -/
def fieldOf (p : Params) (h : Nat) : Option Field :=
  if h < 2 ^ 32 then findField p (h / 0x1000 % 0x1000) (h % 0x1000) (rowsOfUnit (h / 0x1000000)) else none

/-- The handle of a field. -/
def Field.handle (f : Field) : Nat := hdl f.row.unit f.inst (f.row.fno + f.row.fstep * f.rep)

/-- The reset value of a field. -/
def Field.reset (f : Field) (p : Params) : Int := f.row.rst p f.inst f.rep

/-- The reset value of the field a handle names, 0 where it names none. -/
def resetOf (p : Params) (h : Nat) : Int :=
  match fieldOf p h with
  | some f => f.reset p
  | none => 0

/-- R642: base and stride of a unit's register block. -/
def unitStride (u : Nat) : Nat :=
  match u with
  | 0x10 => 0x2000
  | 0x12 => 0x400
  | 0x13 => 0x400
  | 0x20 => 0x1000
  | 0x30 => 0x400
  | 0x40 => 0x1000
  | 0x80 => 0x400
  | _ => 0

/-- The BAR0 offset of the first byte of a field's register. -/
def Field.offset (f : Field) : Nat :=
  f.row.unit * 0x10000 + f.inst * unitStride f.row.unit + f.row.off + f.row.ostep * f.rep

/-- The fields of a list of rows that lie in the 32-bit word at `base + w` of instance `i`, in ascending bit order of
the table, each with its bit position in the word. -/
def fieldsInWord (p : Params) (i w : Nat) : List FieldRow → List (Field × Int)
  | [] => []
  | r :: t =>
    let rest := fieldsInWord p i w t
    if r.kind.holds p i then
      let reps := if r.fstep = 0 then 1 else r.reps p
      let found := (List.range reps).filterMap fun j =>
        let bit0 : Int := (r.off + r.ostep * j : Nat) * 8 + (r.lsb : Nat) - (w * 8 : Nat)
        if bit0 < 32 ∧ 0 < bit0 + (r.width : Nat) then some ((⟨r, i, j⟩ : Field), bit0) else none
      found ++ rest
    else rest

/-- R642: the unit, the instance and the offset within the instance of a BAR0 offset in the register blocks. -/
def locate (off : Nat) : Nat × Nat × Nat :=
  if off < 0x90000 then (off / 0x10000, 0, off % 0x10000)
  else if off < 0x100000 then (0xFF, 0, 0)
  else if off < 0x110000 then (0x10, (off - 0x100000) / 0x2000, (off - 0x100000) % 0x2000)
  else if off < 0x120000 then (0xFF, 0, 0)
  else if off < 0x130000 then (0x12, (off - 0x120000) / 0x400, (off - 0x120000) % 0x400)
  else if off < 0x200000 then (0x13, (off - 0x130000) / 0x400, (off - 0x130000) % 0x400)
  else if off < 0x300000 then (0x20, (off - 0x200000) / 0x1000, (off - 0x200000) % 0x1000)
  else if off < 0x400000 then (0x30, (off - 0x300000) / 0x400, (off - 0x300000) % 0x400)
  else if off < 0x800000 then (0x40, (off - 0x400000) / 0x1000, (off - 0x400000) % 0x1000)
  else if off < 0x1000000 then (0x80, (off - 0x800000) / 0x400, (off - 0x800000) % 0x400)
  else (0xFF, 0, 0)

/-- A field placed among others by rising bit position. -/
def insertByBit (x : Field × Int) : List (Field × Int) → List (Field × Int)
  | [] => [x]
  | y :: t => if x.2 ≤ y.2 then x :: y :: t else y :: insertByBit x t

/-- The fields that overlap the 32-bit word at a BAR0 offset, in ascending bit order, with their bit positions. -/
def wordFields (p : Params) (off : Nat) : List (Field × Int) :=
  let (u, i, w) := locate off
  (fieldsInWord p i w (rowsOfUnit u)).foldr insertByBit []

end Sys2Proof.Machine
end

