-- ==== Sys2Proof/Machine/Tab.lean ====
section
/-! DEFINITION. The operations on sparse tables: one value per key, keys strictly rising. `find`, `set` and `del` know no
default; `get` and `put` take the value an unlisted key has, and `put` of that value lists nothing, so that equal
contents are equal data. -/
namespace Sys2Proof.Machine

variable {α : Type}

/-- The value listed at key `i`. -/
def Tab.find : Tab α → Nat → Option α
  | [], _ => none
  | (k, v) :: t, i => if k = i then some v else Tab.find t i

/-- The table without key `i`. -/
def Tab.del : Tab α → Nat → Tab α
  | [], _ => []
  | (k, v) :: t, i => if k = i then Tab.del t i else (k, v) :: Tab.del t i

/-- The table with `(i, v)` at its place among rising keys (no key `i` is listed). -/
def Tab.ins : Tab α → Nat → α → Tab α
  | [], i, v => [(i, v)]
  | (k, w) :: t, i, v => if i < k then (i, v) :: (k, w) :: t else (k, w) :: Tab.ins t i v

/-- The table with `v` at key `i`. -/
def Tab.set (t : Tab α) (i : Nat) (v : α) : Tab α := Tab.ins (Tab.del t i) i v

/-- The value at key `i`, `d` where none is listed. -/
def Tab.get (d : α) (t : Tab α) (i : Nat) : α := (Tab.find t i).getD d

/-- The table with `v` at key `i`, in a table whose unlisted keys hold `d`. -/
def Tab.put [DecidableEq α] (d : α) (t : Tab α) (i : Nat) (v : α) : Tab α :=
  if v = d then Tab.del t i else Tab.set t i v

/-- Keys strictly rising from `lo`, and no value equal to `d`. -/
def Tab.wfFrom [DecidableEq α] (d : α) : Nat → Tab α → Bool
  | _, [] => true
  | lo, (k, v) :: t => decide (lo ≤ k) && decide (v ≠ d) && Tab.wfFrom d (k + 1) t

/-- The canonical form: keys strictly rising, no entry equal to the default `d`. -/
def Tab.wf [DecidableEq α] (d : α) (t : Tab α) : Bool := Tab.wfFrom d 0 t

end Sys2Proof.Machine
end

