-- ==== Sys2Proof/Machine/Net.lean ====
section
/-! DEFINITION. Checksums and the parts of Ethernet, IP and PTP frames that the scene ports look at (R172 to R175, R357, R447,
R502, R504). The frame formats are those of the standards the rules name. -/
namespace Sys2Proof.Machine
open Sys2Proof

/-- One bit of a reflected CRC-32 with polynomial `poly`. -/
def crcBit (poly c : Nat) : Nat := if c % 2 = 1 then xorNat (c / 2) poly else c / 2

/-- One byte of a reflected CRC-32. -/
def crcByte (poly c : Nat) (b : Byte) : Nat :=
  crcBit poly (crcBit poly (crcBit poly (crcBit poly (crcBit poly (crcBit poly (crcBit poly (crcBit poly
    (xorNat c b.toNat))))))))

/-- Bytes run through a reflected CRC-32 from state `c`. -/
def crcRun (poly c : Nat) (b : Bytes) : Nat := b.foldl (crcByte poly) c

/-- R357: CRC-32C, from all ones, with the result inverted. -/
def crc32c (b : Bytes) : Nat := xorNat (crcRun 0x82F63B78 0xFFFFFFFF b) 0xFFFFFFFF

/-- The frame check sequence of IEEE 802.3 (R172, R173). -/
def crcFcs (b : Bytes) : Nat := xorNat (crcRun 0xEDB88320 0xFFFFFFFF b) 0xFFFFFFFF

/-- The frame with its FCS. -/
def withFcs (b : Bytes) : Bytes := b ++ leBytes 4 (crcFcs b)

/-- The FCS of a received frame is good. -/
def fcsGood (b : Bytes) : Bool :=
  decide (18 ≤ b.length) && crcFcs (b.take (b.length - 4)) == fieldLe b (b.length - 4) 4

/-- The received frame without its FCS. -/
def withoutFcs (b : Bytes) : Bytes := b.take (b.length - 4)

/-- One's complement sum of 16-bit words in network order. -/
def onesSum : Bytes → Nat
  | [] => 0
  | [a] => a.toNat * 256
  | a :: b :: t => a.toNat * 256 + b.toNat + onesSum t

/-- The Internet checksum of a byte string. -/
def inetSum (b : Bytes) : Nat :=
  let s := onesSum b
  let s := s % 65536 + s / 65536
  let s := s % 65536 + s / 65536
  65535 - (s % 65536 + s / 65536)

/-- Offset of the EtherType: 12, or 16 behind an 802.1Q tag. -/
def typeOffset (b : Bytes) : Nat := if fieldBe b 12 2 = 0x8100 then 16 else 12

/-- The EtherType of a frame. -/
def etherType (b : Bytes) : Nat := fieldBe b (typeOffset b) 2

/-- The 802.1Q VLAN identifier of a frame, if it is tagged. -/
def vlanOf (b : Bytes) : Option Nat := if fieldBe b 12 2 = 0x8100 then some (fieldBe b 14 2 % 4096) else none

/-- The PTP transports of R502 and R523: 0 Ethernet, 1 UDP over IPv4, 2 UDP over IPv6; with the offset of the PTP header. -/
def ptpHeader (b : Bytes) : Option (Nat × Nat) :=
  let o := typeOffset b + 2
  if etherType b = 0x88F7 then some (0, o)
  else if etherType b = 0x0800 ∧ fieldBe b (o + 9) 1 = 17 then
    let u := o + 4 * (fieldBe b o 1 % 16)
    if fieldBe b (u + 2) 2 = 319 ∨ fieldBe b (u + 2) 2 = 320 then some (1, u + 8) else none
  else if etherType b = 0x86DD ∧ fieldBe b (o + 6) 1 = 17 then
    if fieldBe b (o + 42) 2 = 319 ∨ fieldBe b (o + 42) 2 = 320 then some (2, o + 48) else none
  else none

/-- The destination address is one that R502 gives for a transport (by MAC or IP destination). -/
def ptpAddressed (b : Bytes) (transport : Nat) : Bool :=
  let o := typeOffset b + 2
  match transport with
  | 0 => [0x011B19000000, 0x0180C200000E].contains (fieldBe b 0 6)
  | 1 => [0xE0000181, 0xE000006B].contains (fieldBe b (o + 16) 4)
  | _ =>
    (fieldBe b (o + 24) 1 == 0xFF && fieldBe b (o + 25) 1 / 16 == 0 && fieldBe b (o + 26) 14 == 0x181) ||
    (fieldBe b (o + 24) 2 == 0xFF02 && fieldBe b (o + 26) 14 == 0x6B)

/-- messageType of a PTP header; 0 to 3 are the event messages Sync, Delay_Req, Pdelay_Req and Pdelay_Resp (R502). -/
def ptpType (b : Bytes) (h : Nat) : Nat := fieldBe b h 1 % 16

/-- domainNumber of a PTP header. -/
def ptpDomain (b : Bytes) (h : Nat) : Nat := fieldBe b (h + 4) 1

/-- The frame carries a PTP event message (R507). -/
def ptpEvent (b : Bytes) : Bool :=
  match ptpHeader b with
  | some (_, h) => decide (ptpType b h < 4)
  | none => false

end Sys2Proof.Machine
end

