-- ==== Sys2Proof/Machine/Wire.lean ====
section
/-! DEFINITION. Cells, packets and the line code of the Uzolink lanes (R414 to R417, R445 to R448, R451): what a transmitter puts
on the line for a cell, and what a receiver makes of line bits. -/
namespace Sys2Proof.Machine
open Sys2Proof

/-! ### The line code -/

/-- A line end at the first bit after a marker cell (R415); no run has begun. -/
def LineEnd.start : LineEnd := ⟨0x7FFFFFFF, false, 0⟩

/-- R414: the bits of bytes, each from bit 0 upward. -/
def bitsOf (b : Bytes) : Line := b.flatMap fun x => (List.range 8).map x.getLsbD

/-- The byte whose bits, from bit 0 upward, are the first eight of a list. -/
def byteOf (l : Line) : Byte := BitVec.ofNat 8 (((List.range 8).map fun i => if l.getD i false then 2 ^ i else 0).sum)

/-- R414: `n` bytes of a list of bits. -/
def bytesOf : Nat → Line → Bytes
  | 0, _ => []
  | n + 1, l => byteOf l :: bytesOf n (l.drop 8)

/-- R415: the scrambler's bit, and its next state. -/
def scramblerBit (st : BitVec 31) : Bool × BitVec 31 :=
  let k := xor (st.getLsbD 30) (st.getLsbD 27)
  (k, st <<< 1 ||| BitVec.ofNat 31 (if k then 1 else 0))

/-- R416: a bit goes on the line; after the 31st of a run, its complement follows. -/
def LineEnd.put (e : LineEnd) (b : Bool) : LineEnd × Line :=
  let run := if b = e.last then e.run + 1 else 1
  if run = 31 then ({ e with last := !b, run := 1 }, [b, !b]) else ({ e with last := b, run := run }, [b])

/-- R415, R416: the bits of a cell go on the line, scrambled unless the cell is a marker. -/
def LineEnd.putAll (e : LineEnd) (marker : Bool) : Line → LineEnd × Line
  | [] => (e, [])
  | d :: t =>
    let (k, st) := scramblerBit e.scr
    let (e, o) := if marker then e.put d else { e with scr := st }.put (xor d k)
    let (e, r) := e.putAll marker t
    (e, o ++ r)

/-- R415: the scrambler restarts after a marker cell. -/
def LineEnd.send (e : LineEnd) (marker : Bool) (cell : Bytes) : LineEnd × Line :=
  let (e, o) := e.putAll marker (bitsOf cell)
  (if marker then { e with scr := LineEnd.start.scr } else e, o)

/-- R416, R417: the bits of a line without those that follow 31 identical bits; how many of these were not their complement. -/
def LineEnd.take (e : LineEnd) : Line → Line × Nat × LineEnd
  | [] => ([], 0, e)
  | b :: t =>
    let run := if b = e.last then e.run + 1 else 1
    if e.run = 31 then
      let (r, n, x) := ({ e with last := b, run := 1 } : LineEnd).take t
      (r, n + (if b = e.last then 1 else 0), x)
    else
      let (r, n, x) := ({ e with last := b, run := run } : LineEnd).take t
      (b :: r, n, x)

/-- R415: the bits that scrambled bits carry. -/
def LineEnd.descramble (e : LineEnd) : Line → Line × LineEnd
  | [] => ([], e)
  | o :: t =>
    let (k, st) := scramblerBit e.scr
    let (r, x) := ({ e with scr := st } : LineEnd).descramble t
    (xor o k :: r, x)

/-- Bits cut into cells of 256 bits; `n` bounds them. -/
def cutCells : Nat → Line → List Bytes
  | 0, _ => []
  | n + 1, l => bytesOf 32 l :: cutCells n (l.drop 256)

/-! ### Cells and packets -/

/-- R445, R446: the type byte of a cell. -/
def typeByte (code : Nat) (sop eop : Bool) : Byte := BitVec.ofNat 8 (code + (if sop then 16 else 0) + (if eop then 32 else 0))

/-- R447: a CRC-32C run on over a cell's bytes. -/
def crcOn (c : Nat) (b : Bytes) : Nat := crcRun 0x82F63B78 c b

/-- The CRC run before the first byte. -/
def crcStart : Nat := 0xFFFFFFFF

/-- R447: the last cell of a packet: its content, zeros, and the CRC of the packet, whose earlier cells have run it to `crc`. -/
def lastCell (code : Nat) (sop : Bool) (crc : Nat) (content : Bytes) : Bytes :=
  let b := typeByte code sop true :: (content ++ List.replicate (27 - content.length) 0)
  b ++ leBytes 4 (xorNat (crcOn crc b) crcStart)

/-- R445: a cell of a packet that is not its last: 31 bytes of content, zeros where it has ended. -/
def midCell (code : Nat) (sop : Bool) (content : Bytes) : Bytes :=
  typeByte code sop false :: (content ++ List.replicate (31 - content.length) 0)

/-- R446, R447: the cells of a packet from its content; `n` is how many follow the first. -/
def cellsFrom (code : Nat) (sop : Bool) (crc : Nat) : Nat → Bytes → List Bytes
  | 0, c => [lastCell code sop crc c]
  | n + 1, c =>
    let x := midCell code sop (c.take 31)
    x :: cellsFrom code false (crcOn crc x) n (c.drop 31)

/-- R445 to R447: the cells of a packet. -/
def packetCellsOf (code : Nat) (content : Bytes) : List Bytes :=
  cellsFrom code true crcStart ((content.length + 4 + 30) / 31 - 1) content

/-- R446: the cell of a single-cell packet. -/
def singleCell (code : Nat) (content : Bytes) : Bytes := lastCell code true crcStart content

/-- R446, R448: an IDLE, with zero content. -/
def idleCell : Bytes := singleCell 0x0 []

/-- The first byte of a cell, as a number. -/
def cellType (c : Bytes) : Nat := (c.headD 0).toNat

/-- R447, R448: the content of a packet of a code from its cells, none where its framing or its CRC fails. Content bytes run to
the CRC. -/
def packetContent (code : Nat) (cells : List Bytes) : Option Bytes :=
  let k := cells.length
  let all := cells.flatten
  let framed := decide (0 < k) && (List.range k).all fun i =>
    cellType (cells.getD i []) == (typeByte code (i == 0) (i + 1 == k)).toNat
  if framed && crc32c (all.take (all.length - 4)) == fieldLe all (all.length - 4) 4 then
    some ((cells.flatMap (·.drop 1)).take (31 * k - 4))
  else none

/-- R451: a cell passes the marker check; its content. -/
def markerContentOf (cell : Bytes) : Option Bytes :=
  match packetContent 0xF [cell] with
  | some c => if fieldLe c 0 2 = 0x5AC3 then some c else none
  | none => none

end Sys2Proof.Machine
end

