-- ==== Sys2Proof/Machine/Ops.lean ====
section
/-! DEFINITION. The named operations every command is written with: fields, time, events, interrupts, faults, the fault
log, engine queues and emissions. -/
namespace Sys2Proof.Machine
open Sys2Proof

/-! ### Fields -/

/-- The parameters of the part (R33). -/
def State.par (s : State) : Params := s.part.params

/-- The cell of a handle: the one listed, else the field's reset value with nothing pending. -/
def State.cell (s : State) (h : Nat) : Cell :=
  match Tab.find s.regs h with
  | some c => c
  | none => ⟨resetOf s.part.params h, resetOf s.part.params h, none, none⟩

/-- The value last accepted (R17). -/
def State.rd (s : State) (h : Nat) : Int := (s.cell h).acc

/-- The value in effect. -/
def State.ef (s : State) (h : Nat) : Int := (s.cell h).eff

/-- The value last accepted, as a number. -/
def State.rdN (s : State) (h : Nat) : Nat := (s.rd h).toNat

/-- The value in effect, as a number. -/
def State.efN (s : State) (h : Nat) : Nat := (s.ef h).toNat

/-- The state with a cell replaced. -/
def State.setCell (s : State) (h : Nat) (c : Cell) : State := { s with regs := Tab.set s.regs h c }

/-- The hardware writes a field: the value is at once accepted and in effect. -/
def State.wr (s : State) (h : Nat) (v : Int) : State := s.setCell h ⟨v, v, none, none⟩

/-- The hardware writes a field with a number. -/
def State.wrN (s : State) (h v : Nat) : State := s.wr h (v : Int)

/-- The largest value of the width of a field. -/
def topOf (p : Params) (h : Nat) : Nat :=
  match fieldOf p h with
  | some f => 2 ^ f.row.width - 1
  | none => 0xFFFFFFFF

/-- A count grows by `k` and stops at its largest value. -/
def State.bump (s : State) (h k : Nat) : State := s.wrN h (min (topOf s.par h) (s.rdN h + k))

/-- The field is 1. -/
def State.on (s : State) (h : Nat) : Bool := s.rd h == 1

/-! ### Boot stage -/

/-- RST_STATUS.stage (R612). -/
def State.stage (s : State) : Nat := s.rdN Reg.RST_STATUS_stage

/-- R664: the stages in which the TAP acts on a test instruction. -/
def tapStage (n : Nat) : Bool := (decide (2 ≤ n) && decide (n ≤ 6)) || n == 12 || n == 15

/-- R664: EXTEST, EXTEST_PULSE, EXTEST_TRAIN, CLAMP and HIGHZ. -/
def TapInstr.tests : TapInstr → Bool
  | .extest | .extestPulse | .extestTrain | .clamp | .highz => true
  | .idcode | .samplePreload | .debugHalt | .debugRelease | .bypass => false

/-- R612, R664: boot is in stage `n`, in which a test instruction that the TAP holds may come into effect. -/
def State.toStage (s : State) (n : Nat) : State :=
  let s := s.wrN Reg.RST_STATUS_stage n
  if s.pins.tap.tests && tapStage n then { s with pins := { s.pins with tapHolds := true } } else s

/-- R612, R664: boot is in stage `n` and may advance. -/
def State.bootAt (s : State) (n : Nat) : Bool := s.stage == n && !s.pins.tapHolds

/-- R629: the host interface runs from the lock of M0 in stage 3, but not in thermal shutdown; in D3hot it decodes no BAR
(R627). -/
def State.hostRuns (s : State) : Bool :=
  decide (4 ≤ s.stage) && decide (s.stage ≤ 12) && !s.health.shutdown
def State.hostUp (s : State) : Bool := s.hostRuns && s.host.power == .d0

/-- R665: debug halt, S4 safe state and thermal shutdown stop every sequencer and engine. -/
def State.stopped (s : State) : Bool := s.sq.debugHalt || s.health.shutdown || s.rd Reg.FM_STATUS_state == 2

/-- CLK_STATUS.eth_lock (R617): the PLL of scene port p locks, or stops with a port that is disabled. -/
def State.ethLock (s : State) (p : Nat) (on : Bool) : State :=
  let m := s.rdN Reg.CLK_STATUS_eth_lock
  if bit m p = on then s else s.wrN Reg.CLK_STATUS_eth_lock (if on then m + 2 ^ p else m - 2 ^ p)

/-! ### Time (R494 to R499) -/

/-- The counter in units of 2^-32 ns. -/
def Counter.units (c : Counter) : Nat := (c.sec * 1000000000 + c.ns) * 2 ^ 32 + c.frac

/-- The counter that shows a number of units. -/
def Counter.ofUnits (n : Nat) : Counter :=
  ⟨n / 2 ^ 32 / 1000000000 % 2 ^ 48, n / 2 ^ 32 % 1000000000, n % 2 ^ 32⟩

/-- The counter moved by a signed number of units; below zero it is zero. -/
def Counter.move (c : Counter) (d : Int) : Counter := Counter.ofUnits ((c.units : Int) + d).toNat

/-- R149: the datum word of a counter. -/
def Counter.word (c : Counter) : Nat := c.sec % 2 ^ 34 * 2 ^ 30 + c.ns

/-- The counter of datum d. -/
def State.datum (s : State) (d : Nat) : Counter := if d = 0 then s.clk.a else s.clk.b

/-- The state with datum d replaced. -/
def State.setDatum (s : State) (d : Nat) (c : Counter) : State :=
  if d = 0 then { s with clk := { s.clk with a := c } } else { s with clk := { s.clk with b := c } }

/-- R497: the source of the active datum. -/
def State.source (s : State) : Nat := s.rdN Reg.DATUM_STATE_active

/-- R497: the active datum, in units of 2^-32 ns. -/
def State.active (s : State) : Int := (s.datum s.source).units + s.clk.offset

/-- The counter that the active datum shows. -/
def State.activeCounter (s : State) : Counter := Counter.ofUnits s.active.toNat

/-- R149: the active datum word. -/
def State.activeWord (s : State) : Nat := s.activeCounter.word

/-- Datum d is locked (R501). -/
def State.locked (s : State) (d : Nat) : Bool := s.on (Reg.DATUM_lock d)

/-- R101: the active datum word, or the free-running counter's when no datum is locked. -/
def State.stampWord (s : State) : Nat :=
  if s.locked 0 || s.locked 1 then s.activeWord else s.clk.free.word

/-- R154, by mode of R150. -/
def State.domainWord (s : State) (mode : Nat) : Nat :=
  match mode with
  | 0 => s.activeWord
  | 1 => s.clk.a.word
  | 2 => s.clk.b.word
  | 3 => s.clk.free.word
  | _ => s.rdN Reg.LAST_FLIP_time

/-- Line rate of a gear in quarter bits per CK_DAT tick (R412: Gb/s times 2 ns times 4). -/
def gearQuarterBits (g : Nat) : Nat :=
  match g with
  | 0 => 50
  | 1 => 125
  | 2 => 200
  | _ => 250

/-- R498: the offset after `n` ticks of slew, and the remainder. -/
def slewStep (offset : Int) (rem ppb n : Nat) : Int × Nat :=
  let m := rem + n * ppb * 2 ^ 33
  let d := m / 1000000000
  if offset.natAbs ≤ d then (0, 0)
  else if 0 < offset then (offset - (d : Nat), m % 1000000000) else (offset + (d : Nat), m % 1000000000)

/-- FT_STATE.state. -/
def State.ftState (s : State) : Nat := s.rdN Reg.FT_STATE_state

/-- R499: no period runs before the first period after reset, and from rest entry until the first period after rest exit. -/
def State.noPeriod (s : State) : Bool := s.ftState == 0 || s.ftState == 4 || s.ftState == 5

/-- R520: every cluster domain is gated. -/
def State.gated (s : State) : Bool := s.ftState == 4

/-- The latch point of the running period has passed (R508). -/
def State.latched (s : State) : Bool := s.ftState == 2

/-! ### Interrupts (R639, R641) -/

/-- A condition of vector v occurs. -/
def State.irq (s : State) (v : Nat) : State :=
  let c := s.rdN Reg.HOST_IRQ_cause
  let s := if v < 32 ∧ !bit c v then s.wrN Reg.HOST_IRQ_cause (c + 2 ^ v) else s
  { s with host := { s.host with raised := s.host.raised ++ [v] } }

/-! ### Sequencers and events (R63 to R78) -/

/-- The key of a sequencer: 0 the marshal, 1 + c the sequencer of physical cluster c. -/
def keyOf : SeqId → Nat
  | .marshal => 0
  | .cluster c => c + 1

/-- A sequencer that has never run. -/
def blankSeq : Seq := ⟨[], 0, none, none, false, []⟩

/-- The sequencer of a key. -/
def State.seq (s : State) (k : Nat) : Seq := Tab.get blankSeq s.sq.seqs k

/-- The state with the sequencer of a key replaced. -/
def State.setSeq (s : State) (k : Nat) (q : Seq) : State :=
  { s with sq := { s.sq with seqs := Tab.put blankSeq s.sq.seqs k q } }

/-- The 64-bit mask of flag n. -/
def flag (n : Nat) : BitVec 64 := BitVec.ofNat 64 (2 ^ n)

/-- R73: the hardware sets flags of a sequencer. The marshal's are remembered for R113. -/
def State.setEvents (s : State) (k : Nat) (m : BitVec 64) : State :=
  let q := s.seq k
  let s := s.setSeq k { q with events := q.events ||| m }
  if k = 0 then { s with sq := { s.sq with hwSince := s.sq.hwSince ||| m } } else s

/-- R494: `n` CK_DAT ticks pass: the counters and the slew move. -/
def State.tick (s : State) (n : Nat) : State :=
  let (o, r) := slewStep s.clk.offset s.clk.slewRem (s.efN Reg.DATUM_CTRL_slew_ppb) n
  { s with
    clk := { s.clk with
      free := s.clk.free.move ((n * 2 ^ 33 : Nat) : Int)
      a := s.clk.a.move (n * (2 ^ 33 + s.ef (Reg.DATUM_adj 0)))
      b := s.clk.b.move (n * (2 ^ 33 + s.ef (Reg.DATUM_adj 1)))
      offset := o
      slewRem := r } }

/-- R498: a slew that has reached zero sets e9 and raises vector 9 (R639). -/
def State.slewDone (s : State) : State := (s.setEvents 0 (flag 9)).irq 9

/-- A cluster that has done nothing. -/
def blankCluster : Cluster :=
  { list := none, sweep := none, bandWait := 0, band255 := false, buffers := [], guard := none, shears := 0, busy := 0,
    job := none, parked := none, refs := [], failed := false, startDue := false, gearNext := 3, fetched := 0, loaderLost := false, waitHalf := 0 }

/-- A physical cluster. -/
def State.clu (s : State) (c : Nat) : Cluster := Tab.get blankCluster s.clusters c

/-- The state with a cluster replaced. -/
def State.setClu (s : State) (c : Nat) (x : Cluster) : State :=
  { s with clusters := Tab.put blankCluster s.clusters c x }

/-- R548: the clock gear of a physical cluster in effect. -/
def State.clockOf (s : State) (c : Nat) : Nat := bits (s.rdN (Reg.GOV_CLKG_gears (c / 32))) (2 * (c % 32)) 2

/-- R541: CK_TRV at a gear, in units of 0.25 GHz: half cycles in a CK_DAT tick. -/
def clockQuarters (g : Nat) : Nat := 3 + g

/-- R104: the logical index that physical cluster c serves; 0x7F for none. -/
def State.logical (s : State) (c : Nat) : Nat := s.rdN (Reg.SEQ_STATUS_logical c)

/-- The physical clusters that serve a logical index. -/
def State.serving (s : State) : List Nat := (List.range s.par.clusters).filter fun c => s.logical c != 0x7F

/-- The physical cluster that serves logical index l. -/
def State.physOf (s : State) (l : Nat) : Option Nat := s.serving.find? fun c => s.logical c == l

/-- Flags set in the marshal and in every serving cluster sequencer. -/
def State.setEventsAll (s : State) (m : BitVec 64) : State :=
  s.serving.foldl (fun s c => s.setEvents (c + 1) m) (s.setEvents 0 m)

/-- The handle of a sequencer's state field. -/
def stateReg (k : Nat) : Nat := if k = 0 then Reg.MSH_STATUS_state else Reg.SEQ_STATUS_state (k - 1)

/-- The handle of a sequencer's trap cause field. -/
def causeReg (k : Nat) : Nat := if k = 0 then Reg.MSH_STATUS_trap_cause else Reg.SEQ_STATUS_trap_cause (k - 1)

/-- The handle of a sequencer's program counter field. -/
def pcReg (k : Nat) : Nat := if k = 0 then Reg.MSH_PC_pc else Reg.SEQ_PC_pc (k - 1)

/-- The program counter of a sequencer. No rule narrows a branch target (R7), so it is held as the integer it is
(log 69). -/
def State.pc (s : State) (k : Nat) : Int := s.rd (pcReg k)

/-- The state with the program counter of a sequencer set. -/
def State.setPc (s : State) (k : Nat) (v : Int) : State := s.wr (pcReg k) v

/-- R69: a register of a sequencer; g0 reads zero. -/
def State.greg (s : State) (k : Nat) (r : BitVec 5) : Word :=
  if r = 0 then 0 else Tab.get 0 (s.seq k).gpr r.toNat

/-- R69: a register is written; a write to g0 is discarded. -/
def State.setGreg (s : State) (k : Nat) (r : BitVec 5) (v : Word) : State :=
  if r = 0 then s
  else
    let q := s.seq k
    s.setSeq k { q with gpr := Tab.put 0 q.gpr r.toNat v }

/-! ### Emissions -/

/-- Something leaves the block. -/
def State.emit (s : State) (e : Emission) : State := { s with out := e :: s.out }

/-! ### Faults and the fault log (R557 to R570) -/

/-- R552, R559, R670: the recovery of a fault: none when it completes at once, else the microseconds it takes, or `some none`
when an event completes it. -/
def recoveryOf (cause sev d1 : Nat) : Option (Option Nat) :=
  if sev = 3 then some none
  else if sev ≠ 2 then none
  else match cause with
    | 0x0001 => some (some 32)
    | 0x0008 => some (some 2)
    | 0x0010 => if d1 = 0xFF then none else some (some 10)
    | 0x0018 => some (some 4)
    | 0x0020 => some none
    | 0x0021 => some none
    | 0x0040 => some none
    | _ => none

/-- R559: the severity of the fault from which a resource has not yet recovered. -/
def State.recoveringSev (s : State) (res : Resource) : Option Nat :=
  (s.fm.recovering.find? fun x => x.res = res ∧ x.due.all (s.clk.free.units < ·)).map (·.sev)

/-- The fault manager is in the S4 safe state (R565). -/
def State.inS4 (s : State) : Bool := s.rd Reg.FM_STATUS_state == 2

/-- R558, R559: a resource detects a fault: it escalates when the resource has not recovered, and its recovery starts. -/
def State.raise (s : State) (res : Resource) (cause sev unit inst d0 d1 : Nat) : State :=
  let prev := if s.inS4 then none else s.recoveringSev res
  let (lvl, before) := match prev with
    | some p => (min 4 (max sev p + 1), sev)
    | none => (sev, 0)
  let item : FaultItem := ⟨res, cause, lvl, before, unit, inst, d0, d1, s.stampWord, false, false, 0, s.rdN Reg.FRAME_COUNT_count⟩
  let rest := s.fm.recovering.filter (fun x => x.res ≠ res)
  let rec_ := match recoveryOf cause lvl d1 with
    | none => if prev.isSome then s.fm.recovering else rest
    | some none => rest ++ [⟨res, lvl, none⟩]
    | some (some us) => rest ++ [⟨res, lvl, some (s.clk.free.units + us * 1000 * 2 ^ 32)⟩]
  { s with fm := { s.fm with detected := s.fm.detected ++ [item], recovering := rec_ } }

/-- R568: the 32 bytes of a record. -/
def recordBytes (n levelByte unit inst cause before depth d0 d1 time : Nat) : Bytes :=
  leBytes 4 n ++ leBytes 1 levelByte ++ leBytes 1 unit ++ leBytes 2 (inst % 4096) ++ leBytes 2 cause ++
  leBytes 1 before ++ leBytes 1 depth ++ leBytes 4 d0 ++ leBytes 8 d1 ++ leBytes 8 time

/-- Bytes written into a table at an offset. -/
def Tab.putBytes (t : Tab Byte) (off : Nat) : Bytes → Tab Byte
  | [] => t
  | b :: r => Tab.putBytes (Tab.put 0 t off b) (off + 1) r

/-- `n` bytes of a table from an offset. -/
def Tab.getBytes (t : Tab Byte) (off n : Nat) : Bytes := (List.range n).map fun i => Tab.get 0 t (off + i)

/-- R567, R570: a record goes into the ring; `levelByte` is byte 4. -/
def State.record (s : State) (levelByte unit inst cause before depth d0 d1 time : Nat) : State :=
  let head := s.rdN Reg.FM_LOG_head
  let tail := s.rdN Reg.FM_LOG_tail
  let b := recordBytes head levelByte unit inst cause before depth d0 d1 time
  let s := { s with fm := { s.fm with ring := Tab.putBytes s.fm.ring (32 * (head % 1024)) b } }
  let full := (head + 2 ^ 32 - tail) % 2 ^ 32 == 1024
  let s := if full then ((s.wrN Reg.FM_LOG_tail ((tail + 1) % 2 ^ 32)).bump Reg.FM_LOG_overwritten 1).irq 14 else s
  let s := s.wrN Reg.FM_LOG_head ((head + 1) % 2 ^ 32)
  if 5 ≤ levelByte % 8 ∧ !bit levelByte 7 then
    let s := if s.rd Reg.FM_FIRST_w0 == 0 then
        (((s.wrN Reg.FM_FIRST_w0 (fieldLe b 0 8)).wrN Reg.FM_FIRST_w1 (fieldLe b 8 8)).wrN Reg.FM_FIRST_w2
          (fieldLe b 16 8)).wrN Reg.FM_FIRST_w3 (fieldLe b 24 8)
      else s
    s.irq 1
  else s

/-- A note (0), warning (1) or error (2) record of a chapter. -/
def State.noteRecord (s : State) (level unit inst cause d0 d1 : Nat) : State :=
  s.record level unit inst cause 0 0 d0 d1 s.stampWord

/-- R564: the first frame that is rendered wholly after a recovery now: the running one for a cluster, which renders its
plots anew (R347), and for a recovery at the period start; else the next. -/
def State.wholeAfter (s : State) (r : Resource) : Nat :=
  let k := s.rdN Reg.FRAME_COUNT_count
  match r with
  | .cluster _ => k
  | _ => if s.active = s.frame.startAt then k else k + 1

/-- A resource reports itself in service: its own recovery has completed (R559), and it no longer stands at S3 (R564). -/
def State.recovered (s : State) (r : Resource) : State :=
  { s with fm := { s.fm with
      recovering := s.fm.recovering.filter (fun x => x.res ≠ r)
      standing := s.fm.standing.filter (· ≠ r)
      holds := s.fm.holds.map fun h =>
        if h.res = r ∧ h.free = none then { h with free := some (s.wholeAfter r) } else h } }

/-! ### Engine queues (R138 to R143) -/

/-- The key of an engine queue. -/
def qKey (cls inst queue : Nat) : Nat := cls * 0x10000 + inst * 8 + queue

/-- An engine queue that has accepted nothing. -/
def blankQ : EngQ := ⟨0, 0, []⟩

/-- An engine queue. -/
def State.engQ (s : State) (k : Nat) : EngQ := Tab.get blankQ s.eng k

/-- The state with an engine queue replaced. -/
def State.setEngQ (s : State) (k : Nat) (q : EngQ) : State := { s with eng := Tab.put blankQ s.eng k q }

/-- The first descriptor of a queue whose work is not finished. -/
def EngQ.head (q : EngQ) : Option QEntry := q.entries.find? fun e => !e.fin && !e.done

/-- The queue with the work of ticket `t` finished. -/
def EngQ.finish (q : EngQ) (t : Nat) : EngQ :=
  { q with entries := q.entries.map fun e => if e.ticket = t then { e with fin := true } else e }

/-- R142: completed descriptors at the front of the queue are counted. -/
def EngQ.count : List QEntry → Nat → List QEntry × Nat
  | [], n => ([], n)
  | e :: t, n => if e.done then EngQ.count t (n + 1) else (e :: t, n)

/-- R142: the descriptor of ticket `t` completes; done rises past it once every earlier one has completed. -/
def EngQ.complete (q : EngQ) (t : Nat) : EngQ :=
  let es := q.entries.map fun e => if e.ticket = t then { e with fin := true, done := true } else e
  let (rest, n) := EngQ.count es 0
  { q with entries := rest, done := (q.done + n) % 2 ^ 32 }

/-- R143: the test of a ticket against a done count. -/
def ticketDone (done t : Nat) : Bool := (done + 2 ^ 32 - t % 2 ^ 32) % 2 ^ 32 < 2 ^ 31

/-- Hub-die engine of class and instance is out of service (R554). -/
def State.engineDown (s : State) (cls inst : Nat) : Bool := s.engDown.contains (cls * 4096 + inst)

/-! ### Clusters, links, tiles -/

/-- A link that has done nothing. -/
def blankLink : Link :=
  { markers := 0, entryMark := 0, triedTx := 0, triedBc := 0, openTx := false, openBc := false, hasTx := false,
    hasBc := false, latchesTx := 0, latchesBc := 0, capFrom := 0, raises := 0, wokeTx := false, wokeBc := false, sweep := 0,
    sweepNew := false, driftNoted := false, reqNext := 0, reqAfter := 0, window := 0, used := 0, cellsFrame := 0, granted := 0,
    stoppedInPeriod := false, changing := false, buffer := [], pos := 0, room := 0, cell := 0, tx := LineEnd.start, due := [],
    svcCells := [], svcSlots := none, turn := false, rx := LineEnd.start, since := 0, good := false, found := false, misses := 0,
    open_ := [], benched := false }

/-- A tile link. -/
def State.lnk (s : State) (n : Nat) : Link := Tab.get blankLink s.links n

/-- The state with a link replaced. -/
def State.setLnk (s : State) (n : Nat) (l : Link) : State := { s with links := Tab.put blankLink s.links n l }

/-- The protocol side of a link that has done nothing. -/
def blankSvc : LinkSvc :=
  { accepted := 0, queue := [], inflight := none, swapDue := false, rtts := [], delayNext := 0,
    departs := [], discards := 0, failedOver := false, failed := false, alarm := false, restoreDue := false, beaconSec := 0 }

/-- The protocol side of a link. -/
def State.lsvc (s : State) (n : Nat) : LinkSvc := Tab.get blankSvc s.svc n

/-- The state with the protocol side of a link replaced. -/
def State.setLsvc (s : State) (n : Nat) (l : LinkSvc) : State := { s with svc := Tab.put blankSvc s.svc n l }

/-- A tile that has reported nothing. -/
def blankTile : Tile :=
  { temp := none, age := 0, stale := false, seqStatus := none, seqFault := none, seqTemp := none, seqCrack := none,
    counts := [0, 0, 0, 0], crackOpen := false, opens := 0, noLink := false, faults := [] }

/-- A tile. -/
def State.tile (s : State) (k : Nat) : Tile := Tab.get blankTile s.tiles k

/-- The state with a tile replaced. -/
def State.setTile (s : State) (k : Nat) (t : Tile) : State := { s with tiles := Tab.put blankTile s.tiles k t }

/-- R24: the sister of a link. -/
def sister (n : Nat) : Nat := if n % 2 = 0 then n + 1 else n - 1

/-- Both lanes of link n are up (R485): the back-channel has signal (R420), and the endpoint reports no alarm of its receiver
(R480). -/
def State.laneUp (s : State) (n : Nat) : Bool :=
  (s.rd (Reg.LANE_STATE_tx n) == 3 || s.rd (Reg.LANE_STATE_tx n) == 4) && s.rd (Reg.LANE_STATE_bc n) == 3 &&
    !s.on (Reg.LANE_STATE_bc_los n) && !(s.lsvc n).alarm

/-- The link is in service for its own slabs. -/
def State.linkOk (s : State) (n : Nat) : Bool := s.laneUp n && !(s.lsvc n).failedOver && !(s.lsvc n).failed

/-- R485: failover is armed for link n. -/
def State.armed (s : State) (n : Nat) : Bool :=
  s.linkOk n && s.linkOk (sister n) && s.on Reg.FAILOVER_enable

/-- The link carries its sister's slabs (R486). -/
def State.carrying (s : State) (n : Nat) : Bool := (s.lsvc (sister n)).failedOver

/-- TILE_STATUS.link (R492). -/
def State.linkStatus (s : State) (n : Nat) : Nat :=
  let l := s.lsvc n
  if l.failedOver then 2
  else if l.failed then 4
  else if s.rd (Reg.LANE_STATE_tx n) == 1 then 5
  else if s.carrying n then 3
  else if s.laneUp n then 1 else 0

/-- The next free value of the model (log 5). -/
def State.fresh (s : State) : Word × State := (Config.freeWord s.nfree, { s with nfree := s.nfree + 1 })

end Sys2Proof.Machine
end

