-- ==== Sys2Proof/Machine/Clocks.lean ====
section
/-! DEFINITION. The reference inputs and their selection (R618 to R622). -/
namespace Sys2Proof.Machine
open Sys2Proof

/-- The number of a reference: 0 REFCLK_A, 1 REFCLK_B. -/
def refNum : RefId → Nat
  | .a => 0
  | .b => 1

/-- The field that says that a reference is present. -/
def presentReg (w : Nat) : Nat := if w = 0 then Reg.REF_STATUS_a_present else Reg.REF_STATUS_b_present

/-- The reference selected now. -/
def State.reference (s : State) : Nat := s.rdN Reg.REF_STATUS_active

/-- A reference is not missing. -/
def State.refPresent (s : State) (w : Nat) : Bool := s.on (presentReg w)

/-- R618: the estimated error of a reference, in units of 2^-33 times 10^9 (ppb by 2^33). -/
def State.refError (s : State) (w : Nat) : Int :=
  let sel := -(s.ef (Reg.DATUM_adj s.source)) * 1000000000
  let diff := signed 32 (s.rdN Reg.REF_MEAS_diff_ppb) * 2 ^ 33
  if w = s.reference then sel else if w = 0 then sel + diff else sel - diff

/-- R618: a reference is out of tolerance. -/
def State.refOut (s : State) (w : Nat) : Bool :=
  s.locked s.source && decide (s.efN Reg.REF_CTRL_tol_ppm * 1000 * 2 ^ 33 < (s.refError w).natAbs)

/-- A reference that a switch may take. -/
def State.refGood (s : State) (w : Nat) : Bool := s.refPresent w && !s.refOut w

/-- R619: a switch to a reference, with vector 13 (R639). -/
def State.switchRef (s : State) (w : Nat) : State :=
  (((s.wrN Reg.REF_STATUS_active w).wrN Reg.REF_STATUS_pending 0).bump Reg.REF_STATUS_switches 1).irq 13

/-- R619: the selected reference is lost: the other is selected if it is good, with an S2 fault. -/
def State.refLost (s : State) (w : Nat) : State :=
  if w = s.reference ∧ s.on Reg.REF_CTRL_auto = true ∧ s.refGood (1 - w) = true then
    (s.switchRef (1 - w)).raise (.reference w) 0x002A 2 0x00 0 w 0
  else s

/-- R620: both references are missing: an S4 fault, CK_AON moves to the internal oscillator and M0 holds. -/
def State.bothLost_ref (s : State) (w : Nat) : State :=
  let s := { s with pins := { s.pins with holdover := true, freeRun := false } }
  (s.wrN Reg.REF_STATUS_internal 1).raise (.reference w) 0x002A 4 0x00 0 w 0

/-- REFERENCE_MISSING (R618 to R620): a reference is out of tolerance, or its edges stop. -/
def execReferenceMissing (w : RefId) (s : State) : Host.Outcome State Fault Refusal :=
  let n := refNum w
  if !s.refPresent n then .next s
  else if s.refOut n && s.reference == n && s.on Reg.REF_CTRL_auto && s.refGood (1 - n) then .next (s.refLost n)
  else
    let s := s.wrN (presentReg n) 0
    if s.refPresent (1 - n) then .next (s.refLost n) else .next (s.bothLost_ref n)

/-- HOLDOVER_EXPIRY (R621): both references have been missing for 10 ms, and M0 runs on from its own oscillator. -/
def execHoldoverExpiry (s : State) : Host.Outcome State Fault Refusal :=
  if s.pins.holdover then .next { s with pins := { s.pins with freeRun := true } } else .next s

/-- R622: a switch that waits takes place. -/
def State.pendingSwitch (s : State) : State :=
  let w := s.efN Reg.REF_CTRL_select
  if s.on Reg.REF_STATUS_pending && s.refGood w then s.switchRef w else s

/-- REFERENCE_RETURN (R620 to R622): edges of a reference return; M0 and CK_AON come back to a reference. -/
def execReferenceReturn (w : RefId) (s : State) : Host.Outcome State Fault Refusal :=
  let n := refNum w
  let s := s.wrN (presentReg n) 1
  if s.pins.holdover then
    let s := { s with pins := { s.pins with holdover := false, freeRun := false } }.wrN Reg.REF_STATUS_internal 0
    .next (if s.reference = n then s else s.switchRef n)
  else .next s.pendingSwitch

/-- R622: a value of REF_CTRL.select is accepted. -/
def State.selectRef (s : State) (v : Nat) : State :=
  if v = s.reference then s.wrN Reg.REF_STATUS_pending 0
  else if s.refGood v then s.switchRef v
  else s.wrN Reg.REF_STATUS_pending 1

end Sys2Proof.Machine
end

