-- ==== Sys2Proof/Machine/Memory.lean ====
section
/-! DEFINITION. Paddock and DRAM as every master sees them (R248 to R302): population, mirrored zones, errors, parity groups,
the gather buffers, and reads and writes of bytes. -/
namespace Sys2Proof.Machine
open Sys2Proof

/-- First address of common paddock (R248). -/
def commonBase : Nat := 0x10000000
/-- First address of the register region (R644). -/
def regBase : Nat := 0x0800000000
/-- Size of the register region (R644). -/
def regSize : Nat := 0x4000000
/-- First address of DRAM (R278). -/
def dramBase : Nat := 0x1000000000

/-- Regions of the fabric address space (R644). -/
inductive Region
  | clusterSlice (c : Nat)
  | common
  | regs
  | dram
  | nothing
  deriving DecidableEq, Repr

/-- R278: usable DRAM in bytes, 0 while no board record is installed (R616). -/
def State.usable (s : State) : Nat := 2 ^ 20 * s.rdN Reg.DRAM_CFG_usable_mib

/-- R644: the region of a fabric address. -/
def State.region (s : State) (a : Nat) : Region :=
  if a < 0x300000 * s.par.clusters then .clusterSlice (a / 0x300000)
  else if commonBase ≤ a ∧ a < commonBase + 2 ^ 20 * s.par.commonMib then .common
  else if regBase ≤ a ∧ a < regBase + regSize then .regs
  else if dramBase ≤ a ∧ a < dramBase + s.usable then .dram
  else .nothing

/-- R248: the common-paddock word of an address. -/
def commonWord (a : Nat) : Nat := (a - commonBase) / 64

/-- R256, R261: the enabled zone that holds a common word: its first word and its size in words. -/
def State.zoneOf (s : State) (w : Nat) : Option (Nat × Nat) :=
  if s.mem.zonesOn then
    ((List.range 4).map fun z =>
      (1024 * s.efN (Reg.PAD_MIRZ_base s.par.clusters z), 1024 * s.efN (Reg.PAD_MIRZ_size s.par.clusters z))).find?
      fun z => z.1 ≤ w && w < z.1 + z.2
  else none

/-- R256: the word that holds the copy of a word of a zone's lower half. -/
def copyWord (n w : Nat) : Nat := xorNat (w + n / 2) 8

/-- R256: the address is in the upper half of a zone. -/
def State.upperHalf (s : State) (a : Nat) : Bool :=
  match s.region a with
  | .common =>
    match s.zoneOf (commonWord a) with
    | some z => z.1 + z.2 / 2 ≤ commonWord a
    | none => false
  | _ => false

/-- R79, R256: an address that a load or store may reach, registers included. -/
def State.populated (s : State) (a : Nat) : Bool :=
  match s.region a with
  | .nothing => false
  | .common => !s.upperHalf a
  | _ => true

/-- The address lies in paddock (a cluster slice or common paddock). -/
def State.inPaddock (s : State) (a : Nat) : Bool :=
  match s.region a with
  | .clusterSlice _ => true
  | .common => !s.upperHalf a
  | _ => false

/-- R256: the common words `[w, e)` meet no enabled zone's upper half. -/
def State.clearOfUpper (s : State) (w e : Nat) : Bool :=
  !s.mem.zonesOn || (List.range 4).all fun z =>
    let b := 1024 * s.efN (Reg.PAD_MIRZ_base s.par.clusters z)
    let n := 1024 * s.efN (Reg.PAD_MIRZ_size s.par.clusters z)
    decide (e ≤ b + n / 2) || decide (b + n ≤ w)

/-- A byte range lies wholly in one run of paddock: within the cluster slices, or within common paddock and outside the
upper half of every zone. -/
def State.paddockRange (s : State) (a n : Nat) : Bool :=
  n == 0 ||
    (match s.region a, s.region (a + n - 1) with
     | .clusterSlice _, .clusterSlice _ => true
     | .common, .common => s.clearOfUpper (commonWord a) (commonWord (a + n - 1) + 1)
     | _, _ => false)

/-- A byte range lies wholly in one run of DRAM. -/
def State.dramRange (s : State) (a n : Nat) : Bool :=
  n == 0 || (s.region a == .dram && s.region (a + n - 1) == .dram)

/-- A byte range lies wholly in cluster slice c. -/
def State.sliceRange (s : State) (c a n : Nat) : Bool :=
  decide (0x300000 * c ≤ a) && decide (a + n ≤ 0x300000 * (c + 1)) && decide (c < s.par.clusters)

/-! ### DRAM (R278 to R295) -/

/-- Where a DRAM address lies (R279, R280): group, channel offset, channel, parity channel, data index, rank, bank, row and
column. -/
structure DramLoc where
  grp : Nat
  co : Nat
  ch : Nat
  par : Nat
  j : Nat
  rank : Nat
  bank : Nat
  row : Nat
  col : Nat
  deriving DecidableEq, Repr

/-- R280: bank b lies in bank group b >> 2, as bank b & 3 of that group. -/
def DramLoc.bankGroup (l : DramLoc) : Nat := l.bank / 4
def DramLoc.bankIn (l : DramLoc) : Nat := l.bank % 4

/-- R279, R280 for offset `o` in DRAM, grain `g`, rank size `r`, order, P groups and C channels. -/
def dramMap (o g r order p c : Nat) : DramLoc :=
  let u := o / g
  let off := o % g
  let grp := if 0 < p then u % p else 0
  let v := if 0 < p then u / p else u / max 1 c
  let n := if 0 < p then v / 7 else v
  let j := if 0 < p then v % 7 else 0
  let pb := 7 - n % 8
  let par := if 0 < p then 8 * grp + pb else 0
  let ch := if 0 < p then 8 * grp + (pb + 1 + j) % 8 else u % max 1 c
  let co := n * g + off
  let ro := co % max 1 r
  let bank := match order with
    | 0 => ro / 2 ^ 11 % 16
    | 1 => ro / 2 ^ 6 % 16
    | _ => ro / max 1 (r / 16)
  let row := match order with
    | 0 => ro / 2 ^ 15
    | 1 => ro / 2 ^ 15
    | _ => ro / 2 ^ 11 % max 1 (r / 32768)
  let col := match order with
    | 1 => ro / 2 ^ 10 % 32
    | _ => ro / 2 ^ 6 % 32
  ⟨grp, co, ch, par, j, co / max 1 r, bank, row, col⟩

/-- R279: where a fabric address of DRAM lies. -/
def State.loc (s : State) (a : Nat) : DramLoc :=
  dramMap (a - dramBase) (2 ^ s.efN Reg.DRAM_MAP_grain_log2) (s.rdN Reg.DRAM_CFG_rank_mib * 2 ^ 20)
    (s.efN Reg.DRAM_MAP_order) s.par.groups s.par.channels

/-- R302: channel `c` is failed or being restored and not in service. -/
def State.chFailed (s : State) (c : Nat) : Bool :=
  s.rd (Reg.DRAM_STATUS_state c) == 1 || s.rd (Reg.DRAM_STATUS_state c) == 2

/-- Failed channels of a parity group. -/
def State.failedIn (s : State) (g : Nat) : List Nat := ((List.range 8).map (8 * g + ·)).filter s.chFailed

/-- R281: an access opens or meets a row of its bank, and DRAM_CNT counts it; the bank is named by its group and its place in
the group (R280). -/
def State.touchRow (s : State) (l : DramLoc) : State :=
  let k := ((l.ch * 2 + l.rank) * 4 + l.bankGroup) * 4 + l.bankIn
  if Tab.get 0 s.mem.openRow k = l.row + 1 then s.bump (Reg.DRAM_CNT_page_hits l.ch) 1
  else
    let s := { s with mem := { s.mem with openRow := Tab.put 0 s.mem.openRow k (l.row + 1) } }
    s.bump (Reg.DRAM_CNT_activates l.ch) 1

/-- R281: the rows of a rank close. -/
def State.closeRows (s : State) (ch rank : Nat) : State :=
  { s with mem := { s.mem with openRow := s.mem.openRow.filter fun (k, _) => k / 16 ≠ ch * 2 + rank } }

/-- R299: an access wakes a rank from power-down or self-refresh; a rank that leaves self-refresh starts with no debt (R300). -/
def State.wakeRank (s : State) (ch rank : Nat) : State :=
  let h := if rank = 0 then Reg.DRAM_STATUS_rank0 ch else Reg.DRAM_STATUS_rank1 ch
  let d := if rank = 0 then Reg.DRAM_REF_debt0 ch else Reg.DRAM_REF_debt1 ch
  match s.rdN h with
  | 0 => s
  | 1 => s.wrN h 0
  | _ => (s.wrN h 0).wrN d 0

/-- R281, R299: one access of a DRAM channel. -/
def State.access (s : State) (l : DramLoc) : State := (s.wakeRank l.ch l.rank).touchRow l

/-! ### Lines (R283 to R295) -/

/-- R279: the channel that holds burst `i` of the line of group `g` at channel offset `co`: data bursts 0 to 6, 7 the parity. -/
def State.lineChannel (s : State) (g co i : Nat) : Nat :=
  let pb := 7 - co / 2 ^ s.efN Reg.DRAM_MAP_grain_log2 % 8
  8 * g + (if i < 7 then (pb + 1 + i) % 8 else pb)

/-- R279: the fabric address of data burst `j` of a line. -/
def State.lineAddr (s : State) (g co j : Nat) : Nat :=
  let grain := 2 ^ s.efN Reg.DRAM_MAP_grain_log2
  dramBase + ((co / grain * 7 + j) * s.par.groups + g) * grain + co % grain

/-- The key of the parity burst of a line, or of its bytes. -/
def parityKey (g co : Nat) : Nat := g * 2 ^ 40 + co

/-- R295: the data of channel `ch` at channel offset `co` is lost: the channel has failed, or is being restored and the line
is not yet rewritten. -/
def State.chLost (s : State) (ch co : Nat) : Bool :=
  s.rd (Reg.DRAM_STATUS_state ch) == 1 ||
    (s.rd (Reg.DRAM_STATUS_state ch) == 2 && decide (Tab.get 0 s.mem.restore (ch / 8) ≤ co / 64 * 64))

/-- The burst at address `a` holds an uncorrectable error in DRAM. -/
def State.burstBad (s : State) (a : Nat) : Bool := (List.range 8).any fun i => s.mem.bad.contains (a / 64 * 8 + i)

/-- The burst at address `a` holds an error that the link ECC corrects. -/
def State.burstSoft (s : State) (a : Nat) : Bool := (List.range 8).any fun i => s.mem.soft.contains (a / 64 * 8 + i)

/-- The burst at address `a` is rewritten, and holds no error. -/
def State.cleanBurst (s : State) (a : Nat) : State :=
  { s with mem := { s.mem with bad := s.mem.bad.filter (fun g => g / 8 ≠ a / 64)
                               soft := s.mem.soft.filter (fun g => g / 8 ≠ a / 64) } }

/-- Burst `i` of a line holds an uncorrectable error. -/
def State.lineBad (s : State) (g co i : Nat) : Bool :=
  if i < 7 then s.burstBad (s.lineAddr g co i) else s.mem.badPar.contains (parityKey g (co / 64 * 64))

/-- R291, R293: the other seven bursts of the line supply burst `i`. -/
def State.canRebuild (s : State) (g co i : Nat) : Bool :=
  (List.range 8).all fun k => k == i || (!s.chLost (s.lineChannel g co k) co && !s.lineBad g co k)

/-- R284: the gather buffer holds the burst at a place. -/
def State.buffered (s : State) (l : DramLoc) : Bool :=
  s.mem.gather.any fun x => x.group == l.grp && x.co == l.co / 64 * 64 &&
    (bit x.held l.j || (x.draining && bit x.mask l.j))

/-- R283: byte `i` of the exclusive or of a line's seven data bursts. -/
def State.xorByte (s : State) (g co i : Nat) : Byte :=
  (List.range 7).foldl (fun x j => x ^^^ Tab.get 0 s.mem.cells (s.lineAddr g co j + i)) 0

/-- R283: the parity burst of a line takes the exclusive or of its data. -/
def State.setParity (s : State) (g co : Nat) : State :=
  { s with mem := { s.mem with
      parity := (List.range 64).foldl (fun t i => Tab.put 0 t (parityKey g (co + i)) (s.xorByte g co i)) s.mem.parity
      badPar := s.mem.badPar.filter (· ≠ parityKey g co) } }

/-- R292, R294: a channel is marked failed. -/
def State.failChannel (s : State) (ch cause : Nat) : State :=
  let g := ch / 8
  let s := (s.wrN (Reg.DRAM_STATUS_state ch) 1).wrN (Reg.DRAM_FAIL_cause ch) cause
  if s.par.groups = 0 then s.raise (.dram ch) 0x0009 4 0x40 ch cause g
  else if (s.failedIn g).length = 1 then (s.wrN (Reg.DRAM_GRP_failed g) (ch % 8)).raise (.dram ch) 0x0008 2 0x40 ch cause g
  else s.raise (.dram ch) 0x0009 4 0x40 ch cause g

/-- R292: a read of channel `ch` meets an uncorrectable error; as many in one period as DRAM_PAR.ecc_limit fail the channel. -/
def State.eccError (s : State) (ch : Nat) : State :=
  let n := Tab.get 0 s.mem.eccErrs ch + 1
  let s := { s with mem := { s.mem with eccErrs := Tab.put 0 s.mem.eccErrs ch n } }.bump (Reg.DRAM_ECC_uncorrected ch) 1
  if s.efN Reg.DRAM_PAR_ecc_limit ≤ n ∧ s.rd (Reg.DRAM_STATUS_state ch) = 0 then s.failChannel ch 1 else s

/-- R291: burst `i` of a line is rewritten from the other seven, and counted. -/
def State.rewriteBurst (s : State) (l : DramLoc) (i : Nat) : State :=
  let ch := s.lineChannel l.grp l.co i
  if s.chFailed ch then s
  else
    let s := (s.access { l with ch := ch }).bump (Reg.DRAM_ECC_rebuilt ch) 1
    if i < 7 then s.cleanBurst (s.lineAddr l.grp l.co i)
    else { s with mem := { s.mem with badPar := s.mem.badPar.filter (· ≠ parityKey l.grp (l.co / 64 * 64)) } }

/-- R291, R293: the other seven bursts of the line of burst `i` are read. -/
def State.readOthers (s : State) (l : DramLoc) (i : Nat) : State :=
  (List.range 8).foldl (fun s k =>
    let ch := s.lineChannel l.grp l.co k
    if k = i ∨ s.chLost ch l.co = true then s
    else
      let s := s.access { l with ch := ch }
      if s.lineBad l.grp l.co k then s.eccError ch else s) s

/-! ### The health of an 8-byte group -/

/-- How a read of a group is served (R252, R258, R259, R291, R293). -/
inductive Serve
  | plain
  | corrected
  | fromCopy
  | repairHome
  | rebuilt
  | degraded
  | lost
  deriving DecidableEq, Repr

/-- PAD_STATUS of a common slice says failed. -/
def State.sliceFailed (s : State) (k : Nat) : Bool := s.rd (Reg.PAD_STATUS_state (s.par.clusters + k)) == 1

/-- How a read of the group at 8-aligned address `a` is served; in DRAM, how a read of its burst is. -/
def State.serve (s : State) (a : Nat) : Serve :=
  let bad := s.mem.bad.contains (a / 8)
  let fine := if s.mem.soft.contains (a / 8) then Serve.corrected else .plain
  match s.region a with
  | .clusterSlice _ => if bad then .lost else fine
  | .common =>
    let w := commonWord a
    match s.zoneOf w with
    | some (_, n) =>
      let copyBad := s.sliceFailed (copyWord n w % 16) || s.mem.badCopy.contains (a / 8)
      if s.sliceFailed (w % 16) then (if copyBad then .lost else .fromCopy)
      else if bad then (if copyBad then .lost else .repairHome)
      else fine
    | none => if s.sliceFailed (w % 16) || bad then .lost else fine
  | .dram =>
    let l := s.loc a
    let fine := if s.burstSoft a then Serve.corrected else .plain
    if s.par.groups = 0 then (if s.chFailed l.ch || s.burstBad a then .lost else fine)
    else if s.buffered l then .plain
    else if s.chLost l.ch l.co then (if s.canRebuild l.grp l.co l.j then .degraded else .lost)
    else if s.burstBad a then (if s.canRebuild l.grp l.co l.j then .rebuilt else .lost)
    else fine
  | _ => .plain

/-- The slice instance of R275 that serves an address of paddock. -/
def State.sliceInst (s : State) (a : Nat) : Nat :=
  match s.region a with
  | .clusterSlice c => c
  | _ => s.par.clusters + commonWord a % 16

/-- R252: an uncorrectable error of a paddock group is counted and its address recorded. -/
def State.padError (s : State) (a : Nat) : State :=
  (s.bump (Reg.PAD_ECC_uncorrected (s.sliceInst a)) 1).wrN (Reg.PAD_ERR_addr (s.sliceInst a)) a

/-- A read of the paddock group at `a`: the counts and repairs it makes, and whether its data can be had. -/
def State.serveGroup (s : State) (a : Nat) : Bool × State :=
  match s.serve a with
  | .corrected => (true, s.bump (Reg.PAD_ECC_corrected (s.sliceInst a)) 1)
  | .repairHome =>
    (true, { s with mem := { s.mem with bad := s.mem.bad.erase (a / 8) } }.bump (Reg.PAD_ECC_corrected (s.sliceInst a)) 1)
  | .lost => (false, s.padError a)
  | .plain | .fromCopy | .rebuilt | .degraded => (true, s)

/-- A read of the DRAM burst at `a` (R281, R284, R291, R293, R299): a burst that the gather buffer holds comes from there; a
lost channel is not accessed; and an uncorrectable error counts in DRAM_ECC.uncorrected of its channel. -/
def State.readBurst (s : State) (a : Nat) : Bool × State :=
  let l := s.loc a
  match s.serve a with
  | .corrected => (true, (s.access l).bump (Reg.DRAM_ECC_corrected l.ch) 1)
  | .degraded => (true, s.readOthers l l.j)
  | .rebuilt => (true, ((((s.access l).eccError l.ch).readOthers l l.j)).rewriteBurst l l.j)
  | .lost =>
    if s.par.groups = 0 then (false, if s.chFailed l.ch then s else (s.access l).eccError l.ch)
    else if s.chLost l.ch l.co then (false, s.readOthers l l.j)
    else (false, ((s.access l).eccError l.ch).readOthers l l.j)
  | .plain | .fromCopy | .repairHome =>
    (true, if decide (0 < s.par.groups) && s.buffered l then s else s.access l)

/-- The groups that a byte range touches, as 8-aligned addresses. -/
def groupsOf (a n : Nat) : List Nat :=
  if n = 0 then [] else (List.range ((a + n - 1) / 8 - a / 8 + 1)).map fun i => (a / 8 + i) * 8

/-- Reads of several groups in order; groups of one 64-byte burst of DRAM that follow each other are one read of it (R276). -/
def State.readGroupsFrom (s : State) (last : Option Nat) : List Nat → Bool × State
  | [] => (true, s)
  | g :: t =>
    let (ok, s) := match s.region g with
      | .dram => if last = some (g / 64) then (true, s) else s.readBurst g
      | _ => s.serveGroup g
    let (ok', s) := s.readGroupsFrom (some (g / 64)) t
    (ok && ok', s)

/-- Reads of several groups in order. -/
def State.readGroups (s : State) (l : List Nat) : Bool × State := s.readGroupsFrom none l

/-- The bytes of memory are in canonical form: addresses strictly rising, no byte equal to what an unlisted address reads. -/
def Memory.wf (m : List Host.Cell) : Bool := Tab.wf (0 : Byte) m

/-- One byte of paddock or DRAM, as any master reads it; an unlisted byte reads 0 (log 6). -/
def State.byte (s : State) (a : Nat) : Byte := Tab.get 0 s.mem.cells a

/-- `n` bytes from an address, errors aside. -/
def State.bytes (s : State) (a n : Nat) : Bytes := (List.range n).map fun i => s.byte (a + i)

/-- `n` bytes as a number (R3). -/
def State.word (s : State) (a n : Nat) : Nat := leNat (s.bytes a n)

/-! ### Masters, resources and grants (R251, R257, R262 to R271) -/

/-- A master of the fabric: its sequencer key, or `noSeq`, and the requester class of its transactions (R262). -/
structure Master where
  key : Nat
  cls : Nat
  deriving DecidableEq, Repr

/-- The key of a master that is no sequencer. -/
def noSeq : Nat := 0xFFFF

/-- The requester class of a sequencer (R262). -/
def seqClass (k : Nat) : Nat := if k = 0 then 9 else 10

namespace Master

/-- Sequencer `k`. -/
def seq (k : Nat) : Master := ⟨k, seqClass k⟩

/-- The masters that are no sequencer, by the classes of R262. The traverse block engine, which the table does not name, takes
the class of the cluster sequencer whose lists it runs, and the datum logic, for its receive rings, that of ingest (log 12). -/
def ingest : Master := ⟨noSeq, 2⟩
def decoder : Master := ⟨noSeq, 3⟩
def loader : Master := ⟨noSeq, 4⟩
def gait : Master := ⟨noSeq, 5⟩
def encoder : Master := ⟨noSeq, 6⟩
def corr : Master := ⟨noSeq, 7⟩
def playback : Master := ⟨noSeq, 8⟩
def traverse : Master := ⟨noSeq, 10⟩
def host : Master := ⟨noSeq, 11⟩
def trust : Master := ⟨noSeq, 12⟩
def datum : Master := ⟨noSeq, 2⟩

end Master

/-- The resource of a common slice: 32 to 47. DRAM channels are 0 to 23 (R274). -/
def sliceRes (w : Nat) : Nat := 32 + w % 16

/-- The resource an address reaches: a DRAM channel or a common slice, for a mirrored word its home slice (R257). -/
def State.resourceOf (s : State) (a : Nat) : Option Nat :=
  match s.region a with
  | .common => some (sliceRes (commonWord a))
  | .dram => some (s.loc a).ch
  | _ => none

/-- R258, R259: the resource that serves a read: the copy's where the home slice has failed. -/
def State.readRes (s : State) (a : Nat) : Option Nat :=
  match s.region a with
  | .common =>
    let w := commonWord a
    match s.zoneOf w with
    | some z => some (sliceRes (if s.sliceFailed (w % 16) then copyWord z.2 w else w))
    | none => some (sliceRes w)
  | .dram => some (s.loc a).ch
  | _ => none

/-- R257, R259: the resources that a write reaches: home and copy of a mirrored word, without a failed slice. -/
def State.writeRes (s : State) (a : Nat) : List Nat :=
  match s.region a with
  | .common =>
    let w := commonWord a
    match s.zoneOf w with
    | some z => ([w, copyWord z.2 w].filter fun x => !s.sliceFailed (x % 16)).map sliceRes
    | none => [sliceRes w]
  | .dram => [(s.loc a).ch]
  | _ => []

/-- R133, R267: the sequencer holds a resource: by its open locked sequence, or for a store of a locked sequence that is not
yet performed. -/
def Seq.holds (q : Seq) (r : Nat) : Bool := q.lock == some r || q.stores.any fun x => x.lock == some r

/-- R267, R268: a master with key `k` gets no grant of resource `r`: the locked sequence of another sequencer holds it, or
debug halt does. -/
def State.heldFrom (s : State) (k r : Nat) : Bool :=
  s.sq.debugHalt || s.sq.seqs.any fun (i, q) => i != k && q.holds r

/-- An access of sequencer `k` at an address waits for the resource that serves it. -/
def State.lockedOut (s : State) (k a : Nat) : Bool := (s.readRes a).any (s.heldFrom k)

/-- A write of a master with key `k` at an address waits for one of its resources. -/
def State.writeLockedOut (s : State) (k a : Nat) : Bool := (s.writeRes a).any (s.heldFrom k)

/-- R265: the bursts of a run at which a transaction begins: each is to one resource, and ends at a multiple of 512 bytes at
the latest (DESIGN CHOICE, log 70). -/
def State.txnsFrom (s : State) (prev : Option Nat) : List Nat → List Nat
  | [] => []
  | x :: t =>
    if prev = some (x - 64) ∧ x % 512 ≠ 0 ∧ s.resourceOf x = s.resourceOf (x - 64) then s.txnsFrom (some x) t
    else x :: s.txnsFrom (some x) t

/-- The resources that the transactions of a run of bursts are granted at. -/
def State.readGrants (s : State) (l : List Nat) : List Nat := (s.txnsFrom none l).filterMap s.readRes
def State.writeGrants (s : State) (l : List Nat) : List Nat := (s.txnsFrom none l).flatMap s.writeRes

/-- R262, R274: a master's transactions take their grants. An access that meets a held resource is counted in
`mem.stalls`, so that the command it belongs to can wait (log 27). -/
def State.claim (s : State) (m : Master) (rs : List Nat) : State :=
  let s := if rs.any (s.heldFrom m.key) then { s with mem := { s.mem with stalls := s.mem.stalls + 1 } } else s
  if rs.isEmpty then s else s.bump (Reg.ARB_CLS_grants m.cls) rs.length

/-- The state after a command of a master that waits for its grants: the command comes again where one met a held resource
(log 27). -/
def State.orWait (s t : State) : State := if t.mem.stalls = s.mem.stalls then t else s

/-- The 64-byte bursts that a byte range touches. -/
def burstsOf (a n : Nat) : List Nat :=
  if n = 0 then [] else (List.range ((a + n - 1) / 64 - a / 64 + 1)).map fun i => (a / 64 + i) * 64

/-- R252, R258, R291: a read of `n` bytes by a master; none when a group cannot be corrected. -/
def State.readMem (s : State) (m : Master) (a n : Nat) : Option Bytes × State :=
  let (ok, t) := (s.claim m (s.readGrants (burstsOf a n))).readGroups (groupsOf a n)
  (if ok then some (s.bytes a n) else none, t)

/-! ### The gather buffers (R284 to R288) -/

/-- The entry is that of the line of a group at a channel offset. -/
def GatherLine.sameLine (l : GatherLine) (g co : Nat) : Bool := l.group == g && l.co == co

/-- Bursts held in a line. -/
def heldCount (m : Nat) : Nat := ((List.range 7).filter (bit m)).length

/-- R287: the rein of a drain's grants: 15 where a full buffer forces it, else that of the class that opened the line. -/
def State.drainRein (s : State) (l : GatherLine) : Nat :=
  if l.forced then 15 else s.efN (Reg.ARB_REIN_rein0 + l.cls.val)

/-- R286, R293: the bursts of a line that its drain reads and writes, 7 the parity. -/
def State.drainPlan (s : State) (l : GatherLine) : List Nat × List Nat :=
  let lost := (List.range 8).filter fun i => s.chLost (s.lineChannel l.group l.co i) l.co
  let held := (List.range 7).filter (bit l.mask)
  let rest := (List.range 7).filter fun i => !bit l.mask i
  let reads :=
    if lost = [] then (if held.length = 7 then [] else if held.length ≤ 3 then held ++ [7] else rest)
    else if lost.contains 7 then []
    else if lost.all held.contains then rest
    else (List.range 8).filter fun i => !lost.contains i
  (reads, (held ++ [7]).filter fun i => !lost.contains i)

/-- The place of burst `i` of a line. -/
def State.lineLoc (s : State) (g co i : Nat) : DramLoc := { s.loc (s.lineAddr g co 0) with ch := s.lineChannel g co i, j := i }

/-- R286, R291: a drain reads burst `i` of its line; one that it finds in error is rebuilt where the others supply it. -/
def State.drainRead (s : State) (l : GatherLine) (i : Nat) : State :=
  let p := s.lineLoc l.group l.co i
  let s := s.access p
  if s.lineBad l.group l.co i then
    let ok := s.canRebuild l.group l.co i
    let s := (s.eccError p.ch).readOthers p i
    if ok then s.rewriteBurst p i else s
  else s

/-- R286: a drain writes burst `i` of its line. -/
def State.drainWrite (s : State) (l : GatherLine) (i : Nat) : State :=
  let s := s.access (s.lineLoc l.group l.co i)
  if i < 7 then s.cleanBurst (s.lineAddr l.group l.co i) else s

/-- R286, R287: every access of a drain is performed, each under its own grant of the class that opened the line. -/
def State.drainAccesses (s : State) (l : GatherLine) : State :=
  let (reads, writes) := s.drainPlan l
  let s := s.bump (Reg.ARB_CLS_grants l.cls.val) (reads.length + writes.length)
  let s := reads.foldl (fun s i => s.drainRead l i) s
  (writes.foldl (fun s i => s.drainWrite l i) s).setParity l.group l.co

/-- R287, R290: a channel that a drain needs is held by a locked sequence or by debug halt. -/
def State.drainWaits (s : State) (l : GatherLine) : Bool :=
  let (reads, writes) := s.drainPlan l
  (reads ++ writes).any fun i => s.heldFrom noSeq (s.lineChannel l.group l.co i)

/-- R286: a line begins to drain, and the group's count of full or partial lines grows. -/
def State.drainLine (s : State) (g co : Nat) (forced : Bool) : State :=
  match s.mem.gather.find? (fun l => l.sameLine g co && !l.draining) with
  | none => s
  | some l =>
    let lines := s.mem.gather.map fun x =>
      if x.sameLine g co then { x with draining := true, again := false, forced := forced, mask := x.held } else x
    let s := { s with mem := { s.mem with gather := lines } }
    if heldCount l.held = 7 then s.bump (Reg.DRAM_GRP_full_lines g) 1 else s.bump (Reg.DRAM_GRP_partial_lines g) 1

/-- R288: every access of a drain is done; the entry frees, or drains again. -/
def State.drainDone (s : State) (g co : Nat) : State :=
  match s.mem.gather.find? (fun l => l.sameLine g co && l.draining) with
  | none => s
  | some l =>
    let s := s.drainAccesses l
    if l.again then
      let lines := s.mem.gather.map fun x => if x.sameLine g co then { x with draining := false, mask := 0 } else x
      ({ s with mem := { s.mem with gather := lines } }).drainLine g co false
    else { s with mem := { s.mem with gather := s.mem.gather.filter fun x => !x.sameLine g co } }

/-- R285, R288: a line drains until its entry is free. A drain that meets a held channel is counted as a stall. -/
def State.drainOut (s : State) (l : GatherLine) (forced : Bool) : State :=
  let s := if l.draining then s else s.drainLine l.group l.co forced
  let s := if s.drainWaits { l with mask := if l.draining then l.mask else l.held } then
      { s with mem := { s.mem with stalls := s.mem.stalls + 1 } } else s
  (s.drainDone l.group l.co).drainDone l.group l.co

/-- R284, R285: a write of one burst enters the gather buffer of its group; where none of its 256 entries is free, the oldest
line drains first. -/
def State.gatherBurst (s : State) (a cls : Nat) : State :=
  let l := s.loc a
  let co := l.co / 64 * 64
  let mine := s.mem.gather.filter fun x => x.group == l.grp
  match s.mem.gather.find? (fun x => x.sameLine l.grp co) with
  | some x =>
    let held := if bit x.held l.j then x.held else x.held + 2 ^ l.j
    let held := if x.draining && !x.again then 2 ^ l.j else held
    let lines := s.mem.gather.map fun y =>
      if y.sameLine l.grp co then { y with held := held, again := y.draining } else y
    let s := { s with mem := { s.mem with gather := lines } }
    if heldCount held = 7 && !x.draining then s.drainLine l.grp co false else s
  | none =>
    let s := match mine with
      | o :: _ => if mine.length < 256 then s else s.drainOut o true
      | [] => s
    { s with mem := { s.mem with gather := s.mem.gather ++
        [{ group := l.grp, co := co, held := 2 ^ l.j, draining := false, again := false, cls := Fin.ofNat 16 cls, forced := false, mask := 0 }] } }

/-! ### Writes -/

/-- Bytes written into a table at an offset, those of the enables that are set. -/
def Tab.putEnabled (t : Tab Byte) (off : Nat) : List (Option Byte) → Tab Byte
  | [] => t
  | none :: r => Tab.putEnabled t (off + 1) r
  | some b :: r => Tab.putEnabled (Tab.put 0 t off b) (off + 1) r

/-- The enabled bytes at an address replaced. -/
def State.putCells (s : State) (a : Nat) (b : List (Option Byte)) : State :=
  { s with mem := { s.mem with cells := Tab.putEnabled s.mem.cells a b } }

/-- Group `g` has a new code in both copies. -/
def State.cleanGroup (s : State) (g : Nat) : State :=
  { s with mem := { s.mem with bad := s.mem.bad.erase g, badCopy := s.mem.badCopy.erase g, soft := s.mem.soft.erase g } }

/-- R294, R302: a write to a location is dropped: its channel is lost and its group cannot hold the data. -/
def State.dramDrops (s : State) (l : DramLoc) : Bool :=
  if s.par.groups = 0 then s.chFailed l.ch
  else (s.failedIn l.grp).contains l.ch && (s.failedIn l.grp).length != 1

/-- R252, R257, R259: what becomes of a write to the paddock group of address `a`: it is made, it is dropped, or it is partial
and cannot merge. -/
inductive PadWrite
  | made
  | dropped
  | cannotMerge
  deriving DecidableEq, Repr

/-- R252, R257, R259: a whole group clears an error; a partial write merges, from the copy where the group is mirrored. -/
def State.padWrite (s : State) (a : Nat) (whole : Bool) : PadWrite :=
  let merges := whole || s.serve (a / 8 * 8) != .lost
  match s.region a with
  | .common =>
    let w := commonWord a
    let gone := match s.zoneOf w with
      | some z => s.sliceFailed (w % 16) && s.sliceFailed (copyWord z.2 w % 16)
      | none => s.sliceFailed (w % 16)
    if gone then .dropped else if merges then .made else .cannotMerge
  | _ => if merges then .made else .cannotMerge

/-- R252, R257, R259, R294: the enabled bytes `b`, within one 8-byte group, are written at `a`. Without parity a whole group
of DRAM loses its error; with parity the drain of the line rewrites the burst (R286). -/
def State.writeGroup (s : State) (a : Nat) (b : List (Option Byte)) : State :=
  let whole := b.length == 8 && b.all (·.isSome)
  match s.region a with
  | .clusterSlice _ | .common =>
    match s.padWrite a whole with
    | .made => (s.cleanGroup (a / 8)).putCells a b
    | .dropped => s
    | .cannotMerge => s.padError (a / 8 * 8)
  | .dram =>
    if s.dramDrops (s.loc a) then s
    else (if s.par.groups = 0 && whole then s.cleanGroup (a / 8) else s).putCells a b
  | _ => s

/-- R284, R285, R299: the burst at `a` is written by a master of class `cls`: with parity it enters the gather buffer of its
group, and its drain accesses DRAM; without, it is one access of its channel. -/
def State.burstWritten (s : State) (cls a : Nat) : State :=
  match s.region a with
  | .dram =>
    let l := s.loc a
    if s.dramDrops l then s else if s.par.groups = 0 then s.access l else s.gatherBurst a cls
  | _ => s

/-- A run of enabled bytes cut at the boundaries of 8-byte groups: addresses and pieces. `n` bounds the pieces. -/
def cutGroups {α : Type} : Nat → Nat → List α → List (Nat × List α)
  | 0, _, _ => []
  | _, _, [] => []
  | n + 1, a, b => (a, b.take (8 - a % 8)) :: cutGroups n (a / 8 * 8 + 8) (b.drop (8 - a % 8))

/-- The bursts that pieces with an enabled byte touch, each once. -/
def burstsHit (l : List (Nat × List (Option Byte))) : List Nat :=
  ((l.filter fun x => x.2.any (·.isSome)).map fun x => x.1 / 64 * 64).eraseReps

/-- R252, R257, R262, R284: a write of the bytes whose enables are set by a master. -/
def State.writeEnabled (s : State) (m : Master) (a : Nat) (b : List (Option Byte)) : State :=
  let pieces := cutGroups b.length a b
  let hit := burstsHit pieces
  let s := s.claim m (s.writeGrants hit)
  let s := (pieces.filter fun x => x.2.any (·.isSome)).foldl (fun s x => s.writeGroup x.1 x.2) s
  hit.foldl (fun s x => s.burstWritten m.cls x) s

/-- A write of bytes by a master. -/
def State.writeMem (s : State) (m : Master) (a : Nat) (b : Bytes) : State := s.writeEnabled m a (b.map some)

/-! ### Store buffers (R81, R122) -/

/-- The oldest store of a sequencer becomes visible, unless another's locked sequence or debug halt holds a resource of it. -/
def State.drainOne (s : State) (k : Nat) : State :=
  let q := s.seq k
  match q.stores with
  | [] => s
  | r :: t =>
    if s.writeLockedOut k r.addr then s
    else (s.setSeq k { q with stores := t }).writeMem (.seq k) r.addr r.data

/-- Every store of a list becomes visible, oldest first. -/
def State.drainList (s : State) (k : Nat) : List StoreReq → State
  | [] => s
  | _ :: t => (s.drainOne k).drainList k t

/-- R81, R82: every earlier store of a sequencer becomes visible to every master. -/
def State.drainAll (s : State) (k : Nat) : State := s.drainList k (s.seq k).stores

/-- The byte a sequencer sees at an address: its own latest buffered store, else memory (R81). -/
def State.ownByte (s : State) (k a : Nat) : Byte :=
  match (s.seq k).stores.reverse.find? (fun r => r.addr ≤ a && a < r.addr + r.data.length) with
  | some r => r.data.getD (a - r.addr) 0
  | none => s.byte a

/-- A load of `n` bytes by a sequencer: its own stores are seen, and a load that they cover reaches no memory; none on an
uncorrectable error. -/
def State.loadOwn (s : State) (k a n : Nat) : Option Nat × State :=
  let own := leNat ((List.range n).map fun i => s.ownByte k (a + i))
  let covered := (List.range n).all fun i =>
    (s.seq k).stores.any fun r => r.addr ≤ a + i && a + i < r.addr + r.data.length
  if covered then (some own, s)
  else
    let (b, s) := s.readMem (.seq k) (a / 8 * 8) 8
    (b.map fun _ => own, s)

/-- Every earlier store of a sequencer is visible. -/
def State.drained (s : State) (k : Nat) : Bool := (s.seq k).stores.isEmpty

end Sys2Proof.Machine
end

