-- ==== Sys2Proof/Machine/FaultMap.lean ====
section
/-! DEFINITION. The fault map of dead emitters (R381, R387): where its two copies lie and what a copy holds. -/
namespace Sys2Proof.Machine
open Sys2Proof

/-- Bytes of one copy of the fault map. -/
def fmapSize : Nat := 0x42000

/-- The fabric address of copy `i` of the fault map. -/
def State.fmapCopy (s : State) (i : Nat) : Nat := commonBase + 64 * s.efN Reg.CORR_FMAP_base + fmapSize * i

/-- The address of the active copy, and of the shadow copy. -/
def State.fmapActive (s : State) : Nat := s.fmapCopy (s.rdN Reg.CORR_STATUS_fmap_active)
def State.fmapShadow (s : State) : Nat := s.fmapCopy (1 - s.rdN Reg.CORR_STATUS_fmap_active)

/-- R381: first entry and count of plot `p` in the copy at `a`. -/
def State.fmapIndex (s : State) (a p : Nat) : Nat × Nat :=
  let w := s.word (a + 8 * p) 8
  (bits w 0 17, bits w 32 17)

/-- An index word whose range reaches past entry 65,535 (R382, R387). -/
def pastEnd (x : Nat × Nat) : Bool := decide (65536 < x.1 + x.2) && x.2 != 0

/-- The entries of plot `p` in the copy at `a`. -/
def State.fmapEntries (s : State) (a p : Nat) : List Nat :=
  let x := s.fmapIndex a p
  if pastEnd x then [] else (List.range x.2).map fun i => s.word (a + 0x2000 + 4 * (x.1 + i)) 4

/-- R386, R389: entries in the copy at `a`, 0 to 65,536. A plot whose range reaches past the map holds none (R382), and plots
whose ranges meet, which only stores can make, count no more than the map has (DESIGN CHOICE, log 72). -/
def State.fmapTotal (s : State) (a : Nat) : Nat :=
  min 65536 ((List.range 1024).map fun p => let x := s.fmapIndex a p; if pastEnd x then 0 else x.2).sum

/-- The number of the first entry past every plot's range. -/
def State.fmapEnd (s : State) (a : Nat) : Nat :=
  ((List.range 1024).map fun p => let x := s.fmapIndex a p; if x.2 = 0 then 0 else x.1 + x.2).foldl max 0

end Sys2Proof.Machine
end

