-- ==== Sys2Proof/Machine/Board.lean ====
section
/-! DEFINITION. The bytes of the embedded NVM (R587), and the board record and the benchmark record they hold (R421, R423,
R600, R601). -/
namespace Sys2Proof.Machine
open Sys2Proof

/-- The byte at an NVM address once the page writes in progress have committed (R589, R590). -/
def State.nvmByte (s : State) (a : Nat) : Byte :=
  match (s.nvm.writes.filter fun w => w.page == a / 64).getLast? with
  | some w => w.data.getD (a % 64) 0
  | none => Tab.get 0 s.nvm.cells a

/-- `n` bytes of the NVM. -/
def State.nvmBytes (s : State) (a n : Nat) : Bytes := (List.range n).map fun i => s.nvmByte (a + i)

/-- R600: the board record in the NVM, empty when its magic or its CRC fails, or when its lane section leaves the BOARD
partition. -/
def State.boardRecord (s : State) : Bytes :=
  let head := s.nvmBytes 0x8000 64
  let len := fieldLe head 8 4
  if fieldLe head 0 4 ≠ 0x44524F42 ∨ 0x17800 < len then []
  else
    let b := s.nvmBytes 0x8000 (0x800 + len)
    if crc32c ((b.drop 0x40).take 0x140 ++ b.drop 0x800) = fieldLe head 12 4 then b else []

/-- A field of the board record found at the latest cold boot. -/
def State.boardField (s : State) (off n : Nat) : Nat := fieldLe s.nvm.board off n

/-- The board record is present. -/
def State.hasBoard (s : State) : Bool := !s.nvm.board.isEmpty

/-- R423: the lane entries of link n are read. -/
def State.hasLanes (s : State) (n : Nat) : Bool :=
  s.hasBoard && decide (n < s.boardField 0x802 2) && decide (n < s.par.tileLinks) &&
    decide (16 + 64 * (n + 1) ≤ s.boardField 8 4)

/-- R421: the words of transmit entry i and of back-channel entry i of link n, 0 for none. -/
def State.txWord (s : State) (n i : Nat) : Nat := if s.hasLanes n then s.boardField (0x810 + 64 * n + 4 * i) 4 else 0
def State.bcWord (s : State) (n i : Nat) : Nat := if s.hasLanes n then s.boardField (0x830 + 64 * n + 4 * i) 4 else 0

/-- R421: a transmit entry is valid and admits gear g; a back-channel entry is valid. -/
def State.txAdmits (s : State) (n i g : Nat) : Bool := bit (s.txWord n i) 0 && bit (s.txWord n i) (1 + g)
def State.bcValid (s : State) (n i : Nat) : Bool := bit (s.bcWord n i) 0

/-- R422: the board table fails link n. -/
def State.boardFails (s : State) (n : Nat) : Bool :=
  !((List.range 4).all fun g => s.txAdmits n 0 g) || !s.bcValid n 0

/-- R600, R601: the benchmark record, none when it is absent. -/
def State.benchmark (s : State) : Option Bytes :=
  let b := s.nvmBytes 0x8180 1344
  if s.hasBoard && crc32c (b.take 1340) == fieldLe b 1340 4 then some b else none

/-- R600: the MAC address of scene port p. -/
def State.boardMac (s : State) (p : Nat) : Nat := s.boardField (0x140 + 8 * p) 6

end Sys2Proof.Machine
end

