-- ==== Sys2Proof/Machine/NvmCells.lean ====
section
/-! DEFINITION. Page writes of the NVM, its tally counters, and the rings of the LOG partition (R590, R591, R597 to R602). -/
namespace Sys2Proof.Machine
open Sys2Proof

/-- R587: the bank of a page. -/
def bankOf (page : Nat) : Nat := page / 2048

/-- R604: NVM_STATUS.bank_busy follows the page writes in progress. -/
def State.setWrites (s : State) (w : List PageWrite) : State :=
  let busy := (List.range 4).foldl (fun m b => if w.any fun x => bankOf x.page == b then m + 2 ^ b else m) 0
  { s with nvm := { s.nvm with writes := w } }.wrN Reg.NVM_STATUS_bank_busy busy

/-- R591: a page write begins. -/
def State.beginPage (s : State) (page : Nat) (data : Bytes) : State := s.setWrites (s.nvm.writes ++ [⟨page, data, none⟩])

/-- R590: bank b is writing. -/
def State.bankBusy (s : State) (b : Nat) : Bool := s.nvm.writes.any fun x => bankOf x.page == b

/-- R591: a page write commits: the page reads its new content, and its groups are whole. -/
def State.commitPage (s : State) (w : PageWrite) : State :=
  let n := { s.nvm with
    cells := Tab.putBytes s.nvm.cells (64 * w.page) w.data
    bad := s.nvm.bad.filter fun g => g / 8 ≠ w.page
    soft := s.nvm.soft.filter fun g => g / 8 ≠ w.page }
  { s with nvm := n }.bump Reg.NVM_CNT_writes 1

/-- The oldest page write of bank b, and the others. -/
def takeWrite (b : Nat) : List PageWrite → Option (PageWrite × List PageWrite)
  | [] => none
  | w :: t =>
    if bankOf w.page = b then some (w, t)
    else match takeWrite b t with
      | some (x, r) => some (x, w :: r)
      | none => none

/-- R610: every page write in progress commits. -/
def State.commitAll (s : State) : State := (s.nvm.writes.foldl (fun s w => s.commitPage w) s).setWrites []

/-- R588: a read of a page meets its groups in error: those that the code corrects are counted, and those that it cannot. -/
def State.eccPage (s : State) (page : Nat) : Bool × State :=
  if s.nvm.writes.any fun w => w.page == page then (false, s)
  else
    let groups := (List.range 8).map (8 * page + ·)
    let bad := groups.filter s.nvm.bad.contains
    let soft := groups.filter fun g => s.nvm.soft.contains g && !s.nvm.bad.contains g
    let s := if soft.isEmpty then s else s.bump Reg.NVM_ECC_corrected soft.length
    (!bad.isEmpty, bad.foldl (fun s g => (s.bump Reg.NVM_ECC_uncorrected 1).wrN Reg.NVM_ECC_addr (8 * g)) s)

/-! ### Tally counters (R597, R598) -/

/-- R597: a cell of a counter, none when its group has an uncorrectable error. -/
def State.tallyCell (s : State) (i j : Nat) : Option Nat :=
  let a := 0x20000 + 512 * i + 8 * j
  if s.nvm.bad.contains (a / 8) && !(s.nvm.writes.any fun w => w.page == a / 64) then none
  else some (leNat (s.nvmBytes a 8))

/-- R598: the highest value of a counter and the cell that holds it, over some cells. -/
def State.tallyBest (s : State) (i : Nat) : List Nat → Option (Nat × Nat)
  | [] => none
  | j :: t =>
    match s.tallyCell i j, s.tallyBest i t with
    | some v, some (w, k) => if v < w then some (w, k) else some (v, j)
    | some v, none => some (v, j)
    | none, r => r

/-- R598: the value of counter i, and the cell that holds it. -/
def State.tally (s : State) (i : Nat) : Nat × Nat := (s.tallyBest i (List.range 64)).getD (0, 0)

/-- R598: counter i stands at its maximum. -/
def State.tallyFull (s : State) (i : Nat) : Bool := (s.tally i).1 == 2 ^ 63 - 1

/-- R598: the page that an increment of counter i writes, and its new content. -/
def State.tallyPage (s : State) (i : Nat) : Nat × Bytes :=
  let (v, at_) := s.tally i
  let j := (at_ + 1) % 64
  let page := (0x20000 + 512 * i + 8 * j) / 64
  let old := s.nvmBytes (64 * page) 64
  (page, old.take (8 * (j % 8)) ++ leBytes 8 (v + 1) ++ old.drop (8 * (j % 8) + 8))

/-- R588: a read of counter i meets the groups in error of its eight pages. -/
def State.readTally (s : State) (i : Nat) : State :=
  (List.range 8).foldl (fun s p => (s.eccPage ((0x20000 + 512 * i) / 64 + p)).2) s

/-- R598: an increment of counter i: the page of its next cell is written. -/
def State.tallyInc (s : State) (i : Nat) : State :=
  let s := s.readTally i
  if s.tallyFull i then s
  else
    let (page, b) := s.tallyPage i
    s.beginPage page b

/-- R602: a record goes into a ring of the LOG partition, whose counter then rises. -/
def State.ringRecord (s : State) (base counter : Nat) (b : Bytes) : State :=
  let n := (s.tally counter).1
  (s.beginPage (base / 64 + n % 512) (b ++ List.replicate (64 - b.length) 0)).tallyInc counter

/-- R602: HEALTH_SHDN.last_cause, as it is reported at boot (R533). -/
def State.reportShutdown (s : State) : State :=
  let n := (s.tally 1).1
  s.wrN Reg.HEALTH_SHDN_last_cause (if n = 0 then 0 else (s.nvmByte (0x28000 + 64 * ((n - 1) % 512) + 9)).toNat % 4)

end Sys2Proof.Machine
end

