-- ==== Sys2Proof/Machine/Check.lean ====
section
/-! DEFINITION. What a field reads as, and the checker (R8 to R19, R44, R88 to R102). -/
namespace Sys2Proof.Machine
open Sys2Proof

/-! ### Reading a field (R8, R17, R98) -/

/-- Fields that show another part of the state: the program counters in their 40 bits (R103, R104), the entries in the fault maps (R389),
the time registers of R523, kq (R52), the link status (R492), the tolerance of the references (R618), the commit slots (R515), and
what the trust block shows of the fuses and the NVM (R603). -/
def State.view (s : State) (h : Nat) : Option Int :=
  if h = Reg.DATUM_SLEW_offset_ps then some (floorDiv (s.clk.offset * 1000) (2 ^ 32))
  else if h = Reg.MSH_PC_pc ∨ h = Reg.SEQ_PC_pc (h / 4096 % 4096) then some (unsigned 40 (s.rd h) : Nat)
  else if h = Reg.CORR_FMAP_active_entries then some (s.fmapTotal s.fmapActive)
  else if h = Reg.CORR_FMAP_shadow_entries then some (s.fmapTotal s.fmapShadow)
  else if h = Reg.DATUM_NOW_active then some s.activeWord
  else if h = Reg.DATUM_NOW_free then some s.clk.free.word
  else if h = Reg.DATUM_now 0 then some s.clk.a.word
  else if h = Reg.DATUM_now 1 then some s.clk.b.word
  else if h = Reg.DATUM_sec 0 then some s.clk.a.sec
  else if h = Reg.DATUM_sec 1 then some s.clk.b.sec
  else if h = Reg.DATUM_STATE_slewing then some (b2n (s.clk.offset != 0))
  else if h = Reg.RAY_GEOM_kq then some (s.ef Reg.RAY_GEOM_tan_h * s.ef Reg.RAY_GEOM_tan_h / 49152)
  else if h = Reg.REF_STATUS_a_tol then some (b2n (s.refOut 0))
  else if h = Reg.REF_STATUS_b_tol then some (b2n (s.refOut 1))
  else if h = Reg.TILE_STATUS_link (h / 4096 % 4096) then some (s.linkStatus (h / 4096 % 4096))
  else if h = Reg.TILE_STATUS_armed (h / 4096 % 4096) then some (b2n (s.armed (h / 4096 % 4096)))
  else if h = Reg.FT_STATE_commit_next then some (b2n (s.rd Reg.FT_COMMIT_next != 0))
  else if h = Reg.FT_STATE_commit_after then some (b2n (s.rd Reg.FT_COMMIT_after != 0))
  else if h = Reg.TRUST_ID_serial then some s.trust.serial.toNat
  else if h = Reg.TRUST_KEYS_vendor_revoked then some s.trust.revoked.toNat
  else if h = Reg.TRUST_KEYS_owner_slots then some ((s.nvmByte 0x24001).toNat % 16 : Nat)
  else if h = Reg.TRUST_KEYS_vendor_images then some ((s.nvmByte 0x24000).toNat % 2 : Nat)
  else if h = Reg.TRUST_FLOOR_vendor then some (s.tally 4).1
  else if h = Reg.TRUST_FLOOR_owner then some (s.tally 5).1
  else if h = Reg.TRUST_GEN_owner_gen then some (s.tally 3).1
  else none

/-- The accepted value of a field (R17). -/
def State.accepted (s : State) (h : Nat) : Int := (s.view h).getD (s.rd h)

/-- The value of a field in effect. -/
def State.inEffect (s : State) (h : Nat) : Int := (s.view h).getD (s.ef h)

/-- R8: what a read of a field returns. -/
def State.readField (s : State) (f : Field) : Int :=
  match f.row.access with
  | .wo => 0
  | _ => s.accepted f.handle

/-- R8: a read of an RC field clears it. -/
def State.afterRead (s : State) (f : Field) : State :=
  match f.row.access with
  | .rc => s.wr f.handle 0
  | _ => s

/-- R44: what bounds may depend on. -/
def State.env (s : State) (f : Field) : Env := ⟨s.rd, s.par, f.inst, f.rep⟩

/-- R102: the rings whose tails are checked against their heads: head, count width and ring size. -/
def ringOf (h : Nat) : Option (Nat × Int × Int) :=
  if h = Reg.CLOG_IDX_tail then some (Reg.CLOG_IDX_head, 2 ^ 16, 256)
  else if h = Reg.FM_LOG_tail then some (Reg.FM_LOG_head, 2 ^ 32, 1024)
  else if h / 2 ^ 24 = 0x10 ∧ h % 2 ^ 12 = 0x103 then some (Reg.PTP_RX_head (h / 2 ^ 12 % 2 ^ 12), 2 ^ 16, 32)
  else none

/-- The minimum as it stands now; of a ring's tail, the ring's size behind its head (R102). -/
def State.minOf (s : State) (f : Field) : Int :=
  match ringOf f.handle with
  | some (head, m, n) => (s.rd head - n) % m
  | none => f.row.lo (s.env f)

/-- The maximum as it stands now, on the step grid (R88); of a ring's tail, its head (R102). -/
def State.maxOf (s : State) (f : Field) : Int :=
  match ringOf f.handle with
  | some (head, _, _) => s.rd head
  | none =>
    let lo := s.minOf f
    let hi := max lo (f.row.hi (s.env f))
    lo + floorDiv (hi - lo) f.row.step * f.row.step

/-! ### The checker (R90, R102) -/

/-- What the checker makes of a value: a status code and the applied value. -/
structure Verdict where
  status : Nat
  applied : Int
  deriving DecidableEq, Repr

/-- R90: a value against a minimum, a maximum and a step. -/
def clampStep (lo hi step v : Int) : Verdict :=
  if v < lo then ⟨1, lo⟩
  else if hi < v then ⟨2, hi⟩
  else
    let a := lo + roundHalfUp (v - lo) step * step
    ⟨if a = v then 0 else 3, a⟩

/-- R102: a tail against its head, modulo `m`, for a ring of `n`. A written value wider than the count is taken modulo `m`, as
the arithmetic of the check is (DEDUCED, log 26). -/
def ringVerdict (head m n v : Int) : Verdict :=
  if (head - v) % m ≤ n then ⟨0, v % m⟩
  else if 1 ≤ (v - head) % m ∧ (v - head) % m < m / 2 then ⟨2, head⟩
  else ⟨1, (head - n) % m⟩

/-- R208: BASE-R FEC is for a port at 25 Gb/s only. -/
def State.fecRefused (s : State) (h : Nat) (v : Int) : Bool :=
  h / 2 ^ 24 == 0x10 && h % 2 ^ 12 == 3 && v == 1 && s.par.portSpeed == 1 &&
    s.rd (Reg.PORT_CTRL_split (h / 2 ^ 12 % 2 ^ 12)) == 0

/-- R90: the checker's verdict on a value for a field. -/
def State.judge (s : State) (h : Nat) (f : Field) (v : Int) : Verdict :=
  match f.row.access with
  | .ro | .rc => ⟨4, s.accepted h⟩
  | .w1c => ⟨0, v⟩
  | .rw | .wo =>
    match ringOf h with
    | some (head, m, n) => ringVerdict (s.rd head) m n v
    | none => if s.fecRefused h v then ⟨2, 0⟩ else clampStep (s.minOf f) (s.maxOf f) f.row.step v

/-- R13 to R19: an accepted value stands until its apply point; the last one accepted for it wins (R16). -/
def State.accept (s : State) (h : Nat) (ap : Apply) (v : Int) : State :=
  let c := s.cell h
  match ap with
  | .now => s.setCell h ⟨v, v, none, none⟩
  | .frame =>
    if s.latched then s.setCell h ⟨v, c.eff, c.nxt, some v⟩ else s.setCell h ⟨v, c.eff, some v, c.aft⟩
  | .band | .rest | .boot => s.setCell h ⟨v, c.eff, some v, c.aft⟩

/-- R90: the field takes a value that the checker has judged; a WO value is left to act. -/
def State.takeValue (s : State) (h : Nat) (f : Field) (v : Int) : State :=
  match f.row.access with
  | .ro | .rc | .wo => s
  | .w1c => s.wrN h ((List.range f.row.width).foldl (fun a i =>
      if bit (s.rdN h) i && !bit (unsigned f.row.width v) i then a + 2 ^ i else a) 0)
  | .rw => s.accept h f.row.apply (s.judge h f v).applied

/-! ### The clamp log (R92, R99 to R101) -/

/-- Sources of a check (R99). -/
def srcLoader : Nat := 0xF0
def srcMarshal : Nat := 0xFE
def srcHost : Nat := 0xFF

/-- R99: the source code of a sequencer. -/
def srcOf (k : Nat) : Nat := if k = 0 then srcMarshal else k - 1

/-- R99: the 32 bytes of an entry. -/
def clogBytes (handle status src n : Nat) (req applied : Int) (time : Nat) : Bytes :=
  leBytes 4 handle ++ leBytes 1 (status % 8) ++ leBytes 1 src ++ leBytes 2 n ++ leBytes 8 (unsigned 64 req) ++
  leBytes 8 (unsigned 64 applied) ++ leBytes 8 time

/-- Entries of the clamp log that are unread. -/
def State.clogUnread (s : State) : Nat :=
  (s.rdN Reg.CLOG_IDX_head + 65536 - s.rdN Reg.CLOG_IDX_tail) % 65536

/-- R100: one entry, the overwriting of the oldest when 256 are unread, e8 (R72) and vector 2 (R639). -/
def State.clogEntry (s : State) (handle status src : Nat) (req applied : Int) : State :=
  let head := s.rdN Reg.CLOG_IDX_head
  let unread := s.clogUnread
  let b := clogBytes handle status src head req applied s.stampWord
  let s := if unread = 0 then s.irq 2 else s
  let s := if unread = 256 then
      (s.wrN Reg.CLOG_IDX_tail ((s.rdN Reg.CLOG_IDX_tail + 1) % 65536)).bump Reg.CLOG_OVF_count 1
    else s
  let s := { s with sq := { s.sq with clog := Tab.putBytes s.sq.clog (32 * (head % 256)) b } }
  (s.wrN Reg.CLOG_IDX_head ((head + 1) % 65536)).setEvents 0 (flag 8)

/-- R92: every non-zero status writes one entry. -/
def State.clogIf (s : State) (handle status src : Nat) (req applied : Int) : State :=
  if status = 0 then s else s.clogEntry handle status src req applied

/-! ### GETF (R98) -/

/-- R98: the code of an access type. -/
def Access.code : Access → Nat
  | .ro => 0
  | .rw => 1
  | .w1c => 2
  | .rc => 3
  | .wo => 4

/-- R98: the code of an apply point. -/
def Apply.code : Apply → Nat
  | .now => 0
  | .band => 1
  | .frame => 2
  | .rest => 3
  | .boot => 4

/-- R98: the descriptor word. A width of 64 does not fit bits [12:7], and the model lets it carry into bit 13 (DESIGN CHOICE,
log 32). -/
def FieldRow.descriptor (r : FieldRow) : Nat :=
  r.access.code + 8 * r.apply.code + 64 * b2n r.signed + 128 * r.width

/-- R98: the attribute a selector names, the status, and the state after the read. The requested value logged for a
handle that names no field is the selector (DEDUCED from the row for reserved selectors, log 32). -/
def State.getField (s : State) (src handle sel : Nat) : Int × Nat × State :=
  match fieldOf s.par handle with
  | none => (0, 5, s.clogEntry (handle % 2 ^ 32) 5 src sel 0)
  | some f =>
    match sel with
    | 0 => (s.readField f, 0, s.afterRead f)
    | 1 => ((match f.row.access with | .wo => 0 | _ => s.inEffect handle), 0, s.afterRead f)
    | 2 => (s.minOf f, 0, s)
    | 3 => (s.maxOf f, 0, s)
    | 4 => (f.row.step, 0, s)
    | 5 => (f.reset s.par, 0, s)
    | 6 => (f.row.descriptor, 0, s)
    | _ => (0, 5, s.clogEntry (handle % 2 ^ 32) 5 src sel 0)

end Sys2Proof.Machine
end

