-- ==== Sys2Proof/Machine/Time.lean ====
section
/-! DEFINITION. What moves as CK_DAT ticks pass: the cells that the transmit lanes send from their sources (R413, R452, R453,
R470, R486), the sweeps of the back-channels (R439), the waits of the block engines, and the counters. -/
namespace Sys2Proof.Machine
open Sys2Proof

/-! ### Slab buffers (R234, R260, R457, R486) -/

/-- Content bytes of a SLAB packet. -/
def SlabPkt.len (p : SlabPkt) : Nat := (p.pieces.map (·.2)).sum

/-- R455: cells of a SLAB packet with `n` content bytes, 0 for a packet without a block. -/
def packetCells (n : Nat) : Nat := if n ≤ 8 then 0 else ceilDiv (n + 4) 31

/-- R457: cells of a packet whose bytes are all placed. -/
def SlabPkt.ready (p : SlabPkt) : Nat := if p.closed then packetCells p.len else p.len / 31

/-- Cells of a packet so far, as it would close now. -/
def SlabPkt.cells (p : SlabPkt) : Nat := packetCells p.len

/-- Cells placed on a link and not yet sent. -/
def Link.unsent (l : Link) : Nat := (l.buffer.map fun p => p.ready - p.sent).sum

/-- R455: cells of the packets of a link that are still to be sent, those of open packets as they would close now. -/
def Link.toSend (l : Link) : Nat := (l.buffer.map fun p => p.cells - p.sent).sum

/-- The size of a slab buffer (the layout of the reset zones). -/
def slabRing : Nat := 0x8000

/-- R260: the address of the slab buffer of link n, in zone 2. -/
def State.slabBase (s : State) (n : Nat) : Nat :=
  commonBase + 0x10000 * s.efN (Reg.PAD_MIRZ_base s.par.clusters 2) + slabRing * n

/-- Bytes `[k, k + m)` of a packet's content, as runs of buffer positions. -/
def sliceRuns : List (Nat × Nat) → Nat → Nat → List (Nat × Nat)
  | [], _, _ => []
  | (p, n) :: t, k, m =>
    if m = 0 then []
    else if n ≤ k then sliceRuns t (k - n) m
    else (p + k, min (n - k) m) :: sliceRuns t 0 (m - min (n - k) m)

/-- A run of buffer positions as byte ranges of the buffer, which wraps at its end. -/
def ringRuns (r : Nat × Nat) : List (Nat × Nat) :=
  let o := r.1 % slabRing
  if o + r.2 ≤ slabRing then [(o, r.2)] else [(o, slabRing - o), (0, r.2 - (slabRing - o))]

/-- The byte ranges in which bytes `[k, k + m)` of a packet of link n lie. -/
def State.slabRanges (s : State) (n : Nat) (p : SlabPkt) (k m : Nat) : List (Nat × Nat) :=
  ((sliceRuns p.pieces k m).flatMap ringRuns).map fun r => (s.slabBase n + r.1, r.2)

/-- `n` free bytes (log 5). -/
def State.freeBytes (s : State) (n : Nat) : Bytes × State :=
  ((List.range n).map fun i => BitVec.ofNat 8 ((Config.freeWord (s.nfree + i / 8)).toNat / 2 ^ (8 * (i % 8))),
    { s with nfree := s.nfree + (n + 7) / 8 })

/-- A link's reader reads byte ranges; bytes that cannot be corrected are free values (log 77). -/
def State.readRanges (s : State) : List (Nat × Nat) → Bytes × State
  | [] => ([], s)
  | (a, n) :: t =>
    let (b, s) := match s.readMem .encoder a n with
      | (some b, s) => (b, s)
      | (none, s) => s.freeBytes n
    let (r, s) := s.readRanges t
    (b ++ r, s)

/-- The reader of a link can read a range: no locked sequence nor debug halt holds a slice of it. -/
def State.rangesFree (s : State) (l : List (Nat × Nat)) : Bool :=
  l.all fun (a, n) => (s.readGrants (burstsOf a n)).all fun r => !s.heldFrom noSeq r

/-- R447, R457, R486: the next cell of the packet at the head of the slab buffer of link n, if its bytes are placed; a packet
whose last cell goes leaves the buffer. -/
def State.takeSlab (s : State) (n : Nat) : Option (Bytes × State) :=
  match (s.lnk n).buffer with
  | [] => none
  | p :: t =>
    let last := p.closed && p.sent + 1 == p.cells
    let ranges := s.slabRanges n p (31 * p.sent) (if last then 27 else 31)
    if p.ready ≤ p.sent || !s.rangesFree ranges then none
    else
      let (b, s) := s.readRanges ranges
      if last then some (lastCell 0x1 (p.sent == 0) p.crc b, s.setLnk n { s.lnk n with buffer := t })
      else
        let c := midCell 0x1 (p.sent == 0) b
        some (c, s.setLnk n { s.lnk n with buffer := { p with sent := p.sent + 1, crc := crcOn p.crc c } :: t })

/-- The packet in progress lies in the buffer of link n. -/
def State.slabOpen (s : State) (n : Nat) : Bool :=
  match (s.lnk n).buffer with
  | p :: _ => decide (0 < p.sent)
  | [] => false

/-- R453, R486: the next SLAB cell of lane m: of the packet in progress, else, while m carries its sister's slabs, from the two
buffers by turns at packet boundaries. -/
def State.slabCell (s : State) (m : Nat) : Option (Bytes × State) :=
  let own := s.takeSlab m
  if (s.lsvc m).failedOver then none
  else if !s.carrying m || s.slabOpen m then own
  else
    let other := s.takeSlab (sister m)
    let other := other.map fun (c, t) => (c, t.setLnk m { t.lnk m with turn := false })
    let own := own.map fun (c, t) => (c, t.setLnk m { t.lnk m with turn := true })
    if s.slabOpen (sister m) then other
    else if (s.lnk m).turn then other.or own else own.or other

/-! ### The cells of a lane (R452, R453) -/

/-- R452: the service slot at a cell of the marker period. -/
def slotAt (cell : Nat) : Option Nat := if cell % 16 = 8 then some (cell / 16) else none

/-- R453: a service slot may be used: not while the lane carries its sister's slabs, until the last SLAB cell of the frame has
gone. -/
def State.svcOpen (s : State) (m : Nat) : Bool :=
  !s.carrying m || (s.latched && (s.lnk m).unsent + (s.lnk (sister m)).unsent == 0)

/-- R453, R470: the next SVC cell, at a slot of the assignment of its packet, which is the table in effect at its first cell. -/
def State.svcCell (s : State) (m : Nat) : Option (Bytes × State) :=
  let l := s.lnk m
  let table := l.svcSlots.getD (s.rdN (Reg.SVC_SLOTS_active m))
  match slotAt l.cell, l.svcCells with
  | some i, c :: t =>
    if bit table i && s.svcOpen m then
      some (c, s.setLnk m { l with svcCells := t, svcSlots := if t.isEmpty then none else some table })
    else none
  | _, _ => none

/-- R453: what lane m sends in the cell after the marker's. -/
def State.nextCell (s : State) (m : Nat) : Bytes × State :=
  let l := s.lnk m
  match l.due with
  | c :: t => (c, s.setLnk m { l with due := t })
  | [] =>
    match s.svcCell m with
    | some x => x
    | none => (s.slabCell m).getD (idleCell, s)

/-- R413, R414, R452: a cell goes on the line of lane m, and its bits, stuffed ones too, take their time of it. -/
def State.sendCell (s : State) (m : Nat) (marker : Bool) (cell : Bytes) : State :=
  let l := s.lnk m
  let (e, bits) := l.tx.send marker cell
  (s.setLnk m { l with tx := e, cell := if marker then 1 else (l.cell + 1) % 1024, room := l.room - 4 * bits.length }).emit
    (.line m bits)

/-- R413: the cells that lane m sends in the line time that it has, `k` at most; a marker waits for its own command (log 9). -/
def State.sendCells (m : Nat) : Nat → State → State
  | 0, s => s
  | k + 1, s =>
    if (s.lnk m).cell = 0 then s
    else
      let (c, t) := s.nextCell m
      let t := t.sendCell m false c
      if 0 ≤ (t.lnk m).room then t.sendCells m k else s

/-- Lane m sends cells: it is up, and its gear change is over. -/
def State.laneRuns (s : State) (m : Nat) : Bool := s.rd (Reg.LANE_STATE_tx m) == 3 && !(s.lnk m).changing

/-- `n` ticks of lane m. -/
def State.runLane (n : Nat) (s : State) (m : Nat) : State :=
  if !s.laneRuns m then s
  else
    let l := s.lnk m
    let room := l.room + (n * gearQuarterBits (s.efN (Reg.LINK_GEAR_gear m)) : Nat)
    (s.setLnk m { l with room := room }).sendCells m (room.toNat / 1024)

/-- R475, R489: a link that no lane serves sends none of its slabs (log 77). -/
def State.dropSlabs (s : State) (n : Nat) : State :=
  let l := s.lnk n
  if !l.buffer.isEmpty && !(s.lsvc n).failedOver && ((s.lsvc n).failed || s.rd (Reg.LANE_STATE_tx n) == 5) then
    s.setLnk n { l with buffer := [] }
  else s

/-! ### Sweeps and waits -/

/-- R439: blanking; and the times outside periods in which lanes are up and carry no slabs (log 78). -/
def State.blanking (s : State) : Bool := s.latched || (s.noPeriod && !s.gated)

/-- Quarter bits of a whole sweep: 64 taps of 1,024 bits (R439). -/
def sweepWhole : Nat := 4 * 64 * 1024

/-- R439: the sweep of the back-channel of link n goes on in blanking: 25 quarter bits to a tick. -/
def State.runSweep (n : Nat) (s : State) (m : Nat) : State :=
  if s.blanking && s.rd (Reg.LANE_STATE_bc m) == 3 then
    let l := s.lnk m
    s.setLnk m { l with sweep := min sweepWhole (l.sweep + 25 * n) }
  else s

/-- The links in `n` ticks. -/
def State.runLinks (n : Nat) (s : State) : State :=
  if n = 0 then s
  else (List.range s.par.tileLinks).foldl (fun s m => (((s.runLane n m).dropSlabs m).runSweep n m)) s

/-- R329, R348: the CK_TRV cycles of `n` ticks in which the engine of cluster `c` waits at a band mark or on a held buffer. -/
def State.countWait (n : Nat) (s : State) (c : Nat) : State :=
  let w := s.rdN (Reg.TRV_STATUS_wait c)
  if s.rdN (Reg.TRV_STATUS_state c) = 2 ∧ (w = 1 ∨ w = 3) then
    let x := s.clu c
    let h := x.waitHalf + n * clockQuarters (s.clockOf c)
    (s.setClu c { x with waitHalf := h % 2 }).bump (if w = 3 then Reg.TRV_CNT_held_wait c else Reg.TRV_CNT_band_wait c) (h / 2)
  else s

/-- R329, R348: the waits of every engine in `n` ticks; a gated or stopped engine waits for nothing. -/
def State.countWaits (n : Nat) (s : State) : State :=
  if s.stopped || s.gated then s else ((s.clusters.map (·.1)).filter (· < s.par.clusters)).foldl (fun s c => s.countWait n c) s

/-- R494, R498, R617: `n` CK_DAT ticks pass; M0, from which CK_DAT comes, must be locked. -/
def State.advance (s : State) (n : Nat) : State :=
  if !s.on Reg.CLK_STATUS_m0_lock then s
  else
    let t := ((s.tick n).runLinks n).countWaits n
    if s.clk.offset != 0 && t.clk.offset == 0 then t.slewDone else t

end Sys2Proof.Machine
end

