-- ==== Sys2Proof/Machine/Engine.lean ====
section
/-! DEFINITION. What every engine shares (R138 to R143, R554): its queue, its descriptor in hand, the words it reads and
writes, and the results it leaves. -/
namespace Sys2Proof.Machine
open Sys2Proof

/-- The descriptor that a queue's engine works on: the first one whose work is not finished (R142). -/
def State.headOf (s : State) (key : Nat) : Option QEntry := (s.engQ key).head

/-- Word `i` of a descriptor, as the engine read it when it started it (R141). -/
def QEntry.w (d : QEntry) (i : Nat) : Nat := d.words.getD i 0

/-- Word `i` of a descriptor, by which a command of the table is told from another: the one that its engine read (R141), or,
before it starts, the one in memory. No engine reads it here. -/
def State.dword (s : State) (d : QEntry) (i : Nat) : Nat := if d.words.isEmpty then s.word (d.addr + 8 * i) 8 else d.w i

/-- An entry of a queue replaced by one of the same ticket. -/
def EngQ.setEntry (q : EngQ) (d : QEntry) : EngQ :=
  { q with entries := q.entries.map fun e => if e.ticket = d.ticket then d else e }

/-- R141: an engine starts a descriptor and reads its `n` words, once; none where they cannot be corrected. -/
def State.startDesc (s : State) (m : Master) (key n : Nat) (d : QEntry) : Option QEntry × State :=
  if !d.words.isEmpty then (some d, s)
  else match s.readMem m d.addr (8 * n) with
  | (none, t) => (none, t)
  | (some b, t) =>
    let d := { d with words := (List.range n).map fun i => fieldLe b (8 * i) 8 }
    (some d, t.setEngQ key ((t.engQ key).setEntry d))

/-- The engine writes word `i` of a descriptor. -/
def State.putWord (s : State) (m : Master) (d : QEntry) (i v : Nat) : State :=
  s.writeMem m (d.addr + 8 * i) (leBytes 8 v)

/-- The work of the descriptor is done; ENGINE_DESCRIPTOR_COMPLETE will complete it. -/
def State.finishHead (s : State) (key : Nat) (d : QEntry) : State :=
  s.setEngQ key ((s.engQ key).finish d.ticket)

/-- A descriptor of a queue whose engine is in service, and which the op field selects. -/
def State.headWith (s : State) (key cls inst : Nat) (p : QEntry → Bool) : Option QEntry :=
  if s.stopped || s.engineDown cls inst then none
  else match s.headOf key with
    | some d => if p d then some d else none
    | none => none

/-- R141, R252: a command of an engine acts on the descriptor at the head of its queue that `p` selects, once the engine has read
its `n` words; one that cannot be read does `lost` to the engine. The command comes again where it met a held resource
(log 27). -/
def State.withDesc (s : State) (m : Master) (key cls inst n : Nat) (p : QEntry → Bool) (lost : State → State)
    (body : QEntry → State → State) : Host.Outcome State Fault Refusal :=
  match s.headWith key cls inst p with
  | none => .next s
  | some d =>
    match s.startDesc m key n d with
    | (none, t) => .next (s.orWait (lost t))
    | (some d, t) => .next (s.orWait (body d t))

/-- R139, R142: the completion event that the header names is set in the sequencer that issued the descriptor, unless bit 4
bars it. The header is the one read at the start (R141). -/
def State.complEvent (s : State) (d : QEntry) : State :=
  let w := s.dword d 0
  if bit w 4 then s else s.setEvents d.src (flag (16 + w % 16))

/-- R554: unit and instance that the record of a hub-die engine's fault carries. -/
def hubUnit (cls inst : Nat) : Nat × Nat :=
  match cls with
  | 3 => (0x12, inst)
  | 4 => (0x10, 0)
  | 5 => (0x20, 0)
  | 6 => (0x06, 0)
  | _ => (0x07, 0)

/-- R554: a hub-die engine whose state becomes 3 is out of service, and a fault. -/
def State.engineFault (s : State) (cls inst : Nat) : State :=
  if s.engineDown cls inst then s
  else
    let s := { s with engDown := s.engDown ++ [cls * 4096 + inst] }
    let (u, i) := hubUnit cls inst
    s.raise (.hub cls inst) 0x0040 2 u i cls inst

end Sys2Proof.Machine
end

