-- ==== Sys2Proof/Machine/Correction.lean ====
section
/-! DEFINITION. Correction tables (R370 to R389): the window, the fault map, the swap and its resync, and the table loader. -/
namespace Sys2Proof.Machine
open Sys2Proof

/-- R376: the offset in a half of the window belongs to a table. -/
def corrDefined (p : Params) (off : Nat) : Bool :=
  decide (off < 32 * (p.tileLinks / 2)) ||
  (decide (0x10000 ≤ off) && decide (off < 0x14000) && decide (off % 0x1000 < 0xC00)) ||
  (decide (0x100000 ≤ off) && decide (off < 0x160000))

/-- Byte `i` of a 16-bit value. -/
def byteOf16 (v i : Nat) : Byte := BitVec.ofNat 8 (v / 256 ^ i)

/-- R375: the reset content of a window byte. -/
def corrReset (off : Nat) : Byte :=
  if off < 0x10000 then
    (if off % 32 = 1 ∨ off % 32 = 9 ∨ off % 32 = 17 then 0x20 else 0)
  else if off < 0x14000 then byteOf16 2048 (off % 2)
  else
    let i := (off - 0x100000) % 0x2000 / 2
    byteOf16 (16 * i + i / 256) (off % 2)

/-- A table byte at a window offset: the copy lists the bytes that differ from the reset content, as their difference. -/
def corrByte (t : Tab Byte) (off : Nat) : Byte := Tab.get 0 t off ^^^ corrReset off

/-- A table byte replaced. -/
def corrPut (t : Tab Byte) (off : Nat) (b : Byte) : Tab Byte := Tab.put 0 t off (b ^^^ corrReset off)

/-- Table bytes replaced at the offsets that belong to a table. -/
def corrPutBytes (p : Params) (t : Tab Byte) (off : Nat) : Bytes → Tab Byte
  | [] => t
  | b :: r => corrPutBytes p (if corrDefined p off then corrPut t off b else t) (off + 1) r

/-- The shadow copy as a read finds it: a read during the resync waits for it (R380). -/
def State.corrShadow (s : State) : Tab Byte :=
  if s.on Reg.CORR_STATUS_resync then
    s.corr.waiting.foldl (fun t (off, b) => corrPutBytes s.par t off b) s.corr.active
  else s.corr.shadow

/-- R376, R377: a byte of the window; the upper half is the active copy and a reserved offset reads zero. -/
def State.corrRead (s : State) (off : Nat) : Byte :=
  let o := off % 0x800000
  if corrDefined s.par o then corrByte (if off < 0x800000 then s.corrShadow else s.corr.active) o else 0

/-- R376, R377, R380: a window write of 4 or 8 bytes. -/
def State.corrWindowPut (s : State) (off : Nat) (b : Bytes) : State :=
  if 0x800000 ≤ off || !corrDefined s.par off then s.bump Reg.CORR_CNT_window_ro 1
  else if s.on Reg.CORR_STATUS_resync then { s with corr := { s.corr with waiting := s.corr.waiting ++ [(off, b)] } }
  else { s with corr := { s.corr with shadow := corrPutBytes s.par s.corr.shadow off b } }

/-! ### The fault map (R381) -/

/-- R387: one step more or less in the count of plot `p` and the first-entry number of every later plot. -/
def State.fmapShift (s : State) (a p : Nat) (up : Bool) : State :=
  (List.range 1024).foldl (fun s i =>
    let x := s.fmapIndex a i
    let w := s.word (a + 8 * i) 8
    let w' := if i < p then w
      else if i = p then (if up then w + 2 ^ 32 else w - 2 ^ 32)
      else if up then w - x.1 + (x.1 + 1) % 2 ^ 17 else w - x.1 + (x.1 - 1)
    if w' = w then s else s.writeMem .corr (a + 8 * i) (leBytes 8 w')) s

/-- R387: an entry goes in at number `i`; later entries up to `e` move up by one. -/
def State.fmapInsert (s : State) (a i e v : Nat) : State :=
  let old := s.bytes (a + 0x2000 + 4 * i) (4 * (e - i))
  s.writeMem .corr (a + 0x2000 + 4 * i) (leBytes 4 v ++ old)

/-- R387: the entry at number `i` goes; later entries up to `e` move down by one. -/
def State.fmapDelete (s : State) (a i e : Nat) : State :=
  s.writeMem .corr (a + 0x2000 + 4 * i) (s.bytes (a + 0x2000 + 4 * (i + 1)) (4 * (e - 1 - i)))

/-- R387: the loader reads the index of the copy at `a` and its entries from number `i` to `e`; whether all could be corrected. -/
def State.fmapRead (s : State) (a i e : Nat) : Bool × State :=
  let (x, s) := s.readMem .corr a 8192
  let (y, s) := s.readMem .corr (a + 0x2000 + 4 * i) (4 * (min 65536 e - i))
  (x.isSome && y.isSome, s)

/-! ### The swap (R378 to R380) -/

/-- CORR_STATUS.swap_pending shows whether an accepted swap has yet to apply. -/
def State.showSwap (s : State) : State :=
  let c := s.cell Reg.CORR_CTRL_swap
  s.wrN Reg.CORR_STATUS_swap_pending (b2n (c.nxt == some 1 || c.aft == some 1))

/-- R378: a write of CORR_CTRL.swap stands until its apply point; the last one accepted for it wins (R16). -/
def State.askSwap (s : State) (v : Int) : State := (s.accept Reg.CORR_CTRL_swap .frame v).showSwap

/-- R378: shadow and active tables change places, and the resync starts. -/
def State.swapTables (s : State) : State :=
  let s := { s with corr := { s.corr with active := s.corr.shadow, shadow := s.corr.active } }
  let s := s.wrN Reg.CORR_STATUS_fmap_active (1 - s.rdN Reg.CORR_STATUS_fmap_active)
  (s.wrN Reg.CORR_STATUS_resync 1).bump Reg.CORR_STATUS_swaps 1

/-- The CORR_CTRL.swap value that reaches its apply point acts, and leaves the field at 0. -/
def State.applySwap (s : State) : State :=
  let go := s.ef Reg.CORR_CTRL_swap == 1
  let c := s.cell Reg.CORR_CTRL_swap
  let s := (s.setCell Reg.CORR_CTRL_swap ⟨0, 0, c.nxt, c.aft⟩).showSwap
  if go then s.swapTables else s

/-- R252, R380: the resync is complete, and the writes that waited proceed; a map that cannot be read is not copied, and the loader
is in state 3 (log 72). -/
def State.resyncDone (s : State) : State :=
  if s.on Reg.CORR_STATUS_resync then
    let (b, t) := s.readMem .corr s.fmapActive fmapSize
    let t := match b with
      | some b => t.writeMem .corr s.fmapShadow b
      | none => t.engineFault 5 0
    let t := { t with corr := { t.corr with shadow := t.corrShadow, waiting := [] } }
    t.wrN Reg.CORR_STATUS_resync 0
  else s

/-- CORR_RESYNC_COMPLETE (R380). -/
def execCorrResyncComplete (s : State) : Host.Outcome State Fault Refusal := .next (s.orWait s.resyncDone)

/-- CORR_WINDOW_WRITE (R376, R377, R632): a host write to the window, at its BAR0 offset. -/
def execCorrWindowWrite (off : Nat) (eight : Bool) (val : BitVec 64) (s : State) : Host.Outcome State Fault Refusal :=
  let n := if eight then 8 else 4
  if !s.hostUp || decide (off < 0x1000000) || decide (0x2000000 ≤ off) || off % n != 0 then .next s
  else .next (s.corrWindowPut (off - 0x1000000) (leBytes n val.toNat))

/-! ### The table loader (R386 to R388) -/

/-- The queue of the correction table loader. -/
def corrKey : Nat := qKey 5 0 0

/-- R386: word 3 is written and the descriptor's work is done. -/
def State.corrDone (s : State) (d : QEntry) (outcome : Nat) : State :=
  (s.putWord .corr d 3 (outcome + s.fmapTotal s.fmapShadow * 2 ^ 16)).finishHead corrKey d

/-- The loader acts on a descriptor whose op is one of those given; it waits for a resync (R380). -/
def State.withCorr (s : State) (ops : Nat → Bool) (body : QEntry → State → State) : Host.Outcome State Fault Refusal :=
  if s.on Reg.CORR_STATUS_resync then .next s
  else s.withDesc .corr corrKey 5 0 3 (fun d => ops (bits (s.dword d 0) 5 3)) (·.engineFault 5 0) body

/-- R387: COPY_IN. A reserved op is an error in the descriptor (outcome 4). -/
def State.copyIn (d : QEntry) (s : State) : State :=
  let src := bits (d.w 1) 0 40
  let dst := bits (d.w 2) 0 24
  let len := bits (d.w 2) 24 17
  if bits (d.w 0) 5 3 ≠ 0 ∨ src % 8 ≠ 0 ∨ dst % 8 ≠ 0 ∨ len < 8 ∨ 65536 < len ∨ len % 8 ≠ 0 ∨
      0x800000 < dst + len ∨ (!s.paddockRange src len && !s.dramRange src len) = true then s.corrDone d 4
  else
    match s.readMem .corr src len with
    | (none, s) => s.corrDone d 5
    | (some b, s) =>
      let lost := ((List.range (len / 8)).filter fun i =>
        (List.range 8).any fun j => !corrDefined s.par (dst + 8 * i + j)).length
      let s := { s with corr := { s.corr with shadow := corrPutBytes s.par s.corr.shadow dst b } }
      (s.bump Reg.CORR_CNT_window_ro lost).corrDone d 0

/-- R387: plot and entry of a fault map descriptor, none for outcome 4. -/
def State.faultOperand (s : State) (d : QEntry) : Option (Nat × Nat) :=
  let plot := bits (d.w 1) 0 11
  let v := bits (d.w 1) 32 32
  if v % 4 = 3 ∨ s.par.plots ≤ plot ∨ (List.range 1024).any (fun p => pastEnd (s.fmapIndex s.fmapShadow p)) = true
  then none else some (plot, v)

/-- R387: FAULT_ADD. A map that cannot be read leaves the loader in state 3 (R252, log 72). -/
def State.faultAdd (d : QEntry) (s : State) : State :=
  let a := s.fmapShadow
  let es := s.fmapEntries a (bits (d.w 1) 0 11)
  let i := (s.fmapIndex a (bits (d.w 1) 0 11)).1
  let (ok, t) := s.fmapRead a i (max (i + es.length) (s.fmapEnd a))
  if !ok then t.engineFault 5 0
  else match s.faultOperand d with
    | none => t.corrDone d 4
    | some (plot, v) =>
      if es.contains v then t.corrDone d 1
      else if 65536 ≤ s.fmapTotal a then t.corrDone d 3
      else ((t.fmapInsert a (i + (es.takeWhile (· < v)).length) (s.fmapEnd a) v).fmapShift a plot true).corrDone d 0

/-- R387: FAULT_REMOVE. -/
def State.faultRemove (d : QEntry) (s : State) : State :=
  let a := s.fmapShadow
  let es := s.fmapEntries a (bits (d.w 1) 0 11)
  let i := (s.fmapIndex a (bits (d.w 1) 0 11)).1
  let (ok, t) := s.fmapRead a i (max (i + es.length) (s.fmapEnd a))
  if !ok then t.engineFault 5 0
  else match s.faultOperand d with
    | none => t.corrDone d 4
    | some (plot, v) =>
      if es.contains v then
        ((t.fmapDelete a (i + (es.takeWhile (· != v)).length) (s.fmapEnd a)).fmapShift a plot false).corrDone d 0
      else t.corrDone d 2

/-- R387: FAULT_CLEAR. -/
def State.faultClear (d : QEntry) (s : State) : State :=
  (s.writeMem .corr s.fmapShadow (List.replicate 8192 0)).corrDone d 0

/-- COPY_IN (R387). -/
def execCopyIn (s : State) : Host.Outcome State Fault Refusal := s.withCorr (fun op => op == 0 || decide (4 ≤ op)) State.copyIn

/-- FAULT_ADD (R387). -/
def execFaultAdd (s : State) : Host.Outcome State Fault Refusal := s.withCorr (· == 1) State.faultAdd

/-- FAULT_REMOVE (R387). -/
def execFaultRemove (s : State) : Host.Outcome State Fault Refusal := s.withCorr (· == 2) State.faultRemove

/-- FAULT_CLEAR (R387). -/
def execFaultClear (s : State) : Host.Outcome State Fault Refusal := s.withCorr (· == 3) State.faultClear

end Sys2Proof.Machine
end

