-- ==== Sys2Proof/Machine/Flags.lean ====
section
/-! DEFINITION. The flags of a sequencer: the conditions of CMP (R128), and its 64 event flags as WAIT, CLEAR and the hardware
use them (R72 to R76, R102, R144, R148). -/
namespace Sys2Proof.Machine
open Sys2Proof

/-- R128: the condition that sub bits [3:1] select, none for a reserved one. -/
def cmpHolds (c : Nat) (x y : Word) : Option Bool :=
  match c with
  | 0 => some (x == y)
  | 1 => some (x != y)
  | 2 => some (x.slt y)
  | 3 => some (y.sle x)
  | 4 => some (x.ult y)
  | 5 => some (y.ule x)
  | _ => none

/-- R144: the condition of a WAIT. -/
def waitMet (events mask : BitVec 64) (mode : Nat) : Bool :=
  if mode % 2 = 0 then events &&& mask != 0 else events &&& mask == mask

/-- R102: e8 of the marshal stays set while the clamp log holds unread entries. -/
def State.heldFlags (s : State) (k : Nat) : BitVec 64 :=
  if k = 0 ∧ s.rd Reg.CLOG_IDX_head ≠ s.rd Reg.CLOG_IDX_tail then flag 8 else 0

/-- R75, R148: flags of a sequencer are cleared. -/
def State.clearEvents (s : State) (k : Nat) (m : BitVec 64) : State :=
  let q := s.seq k
  s.setSeq k { q with events := (q.events &&& ~~~m) ||| (q.events &&& s.heldFlags k) }

/-- R77, R78: software flags are set; they are no flags of the hardware (R113). -/
def State.setSoft (s : State) (k : Nat) (m : BitVec 64) : State :=
  let q := s.seq k
  s.setSeq k { q with events := q.events ||| m }

/-- The flags e48 to e63 (R77). -/
def softMask : BitVec 64 := 0xFFFF000000000000

/-- R639: the vectors that a SIGNAL of marshal flags raises. -/
def State.signalIrqs (s : State) (m : BitVec 64) : State :=
  (List.range 16).foldl (fun s n =>
    if m.getLsbD (48 + n) && bit (s.efN Reg.HOST_EVT_sig_mask) n then s.irq (16 + n) else s) s

end Sys2Proof.Machine
end

