-- ==== Sys2Proof/Machine/Operands.lean ====
section
/-! DEFINITION. The operand forms of the Cheul instructions (R115, R116, R118, R125, R130, R133, R136, R146, R155). -/
namespace Sys2Proof.Machine
open Sys2Proof

/-- R116: an immediate of 35 bits, sign-extended. -/
def KFmt.sext (f : KFmt) : Word := f.imm.signExtend 64

/-- R116: an immediate of 43 bits, sign-extended. -/
def JFmt.sext (f : JFmt) : Word := f.imm.signExtend 64

/-- R125: sub bit 0 selects g[b] or the immediate as the second operand. -/
def State.operand2 (s : State) (k : Nat) (f : KFmt) : Word :=
  if f.sub.getLsbD 0 then KFmt.sext f else s.greg k f.b

/-- R125: reserved sub bits of a compute opcode; bit 1 selects unsigned operation where `u`. -/
def subReserved (f : KFmt) (u : Bool) : Bool := if u then decide (4 ≤ f.sub.toNat) else decide (2 ≤ f.sub.toNat)

/-- R125: sub bit 1 selects unsigned operation. -/
def unsignedOp (f : KFmt) : Bool := f.sub.getLsbD 1

/-- R130: the effective address, on unbounded integers (R6). -/
def State.effAddr (s : State) (k : Nat) (f : KFmt) : Int := (s.greg k f.a).toNat + f.imm.toInt

/-- R133: sub bit 1 of a fabric instruction. -/
def lockBit (f : KFmt) : Bool := f.sub.getLsbD 1

/-- R133: sub bit 2 of a fabric instruction. -/
def unlockBit (f : KFmt) : Bool := f.sub.getLsbD 2

/-- R131: reserved sub bits of a fabric instruction; bit 0 selects sign extension where `x`. -/
def fabricReserved (f : KFmt) (x : Bool) : Bool := decide (8 ≤ f.sub.toNat) || (!x && f.sub.getLsbD 0)

/-- R136: a branch target. -/
def branchTarget (pc : Int) (f : JFmt) : Int := pc + 8 * f.imm.toInt

/-- R130, R131, R134: the checks of a fabric access in the order of R669, and the cause of the first that fails. -/
def State.fabricCheck (s : State) (k : Nat) (ea : Int) (size : Nat) (store lock unlock : Bool) : Option Nat :=
  if ea < 0 ∨ 2 ^ 40 ≤ ea then some 0x04
  else
    let a := ea.toNat
    if a % size ≠ 0 then some 0x03
    else if !s.populated a then some 0x04
    else if store && s.region a == .regs then some 0x05
    else if lock || unlock then
      match s.resourceOf a with
      | none => some 0x10
      | some r =>
        match (s.seq k).lock with
        | some r' => if r = r' then none else some 0x10
        | none => if lock then none else some 0x10
    else none

/-- R133: another master's lock, or debug halt, keeps sequencer `k` from opening a locked sequence at an address. -/
def State.lockRefused (s : State) (k a : Nat) (lock : Bool) : Bool := lock && (s.resourceOf a).any (s.heldFrom k)

/-- R133: the locked sequence after an access. The resource of a store that waits in the store buffer stays held until the
store is performed (Seq.holds). -/
def State.lockAfter (s : State) (k a : Nat) (lock unlock : Bool) : State :=
  let q := s.seq k
  if unlock then s.setSeq k { q with lock := none }
  else if lock then s.setSeq k { q with lock := s.resourceOf a }
  else s

/-- R155: the handle of a field instruction: the immediate, or the whole of g[a]. -/
def State.handleOf (s : State) (k : Nat) (f : KFmt) : Nat :=
  if f.sub.getLsbD 0 then bits f.imm.toNat 0 32 else (s.greg k f.a).toNat

/-- R155: reserved bits of SETF and GETF. -/
def fieldReserved (f : KFmt) : Bool :=
  decide (2 ≤ f.sub.toNat) || (f.sub.getLsbD 0 && decide (2 ^ 32 ≤ f.imm.toNat))

/-- R146, R147: the sequencers a SIGNAL reaches, none for a reserved target. -/
def State.signalTargets (s : State) (k : Nat) (b : Word) : Option (List Nat) :=
  let t := bits b.toNat 0 12
  if t = 0 then some [0]
  else if t ≤ 0x40 then some ((s.physOf (t - 1)).toList.map (· + 1))
  else if t = 0xFFE then some (s.serving.map (· + 1))
  else if t = 0xFFF then some [k]
  else none

/-- The unit and instance that name a sequencer (R87). -/
def seqUnit (k : Nat) : Nat := if k = 0 then 0x01 else 0x20
def seqInst (k : Nat) : Nat := if k = 0 then 0 else k - 1

end Sys2Proof.Machine
end

