-- ==== Sys2Proof/Machine/SeqOps.lean ====
section
/-! DEFINITION. How a sequencer executes an instruction (R84, R119 to R122, R135, R669), traps, waits, and takes the frame
checkpoint (R112, R113). -/
namespace Sys2Proof.Machine
open Sys2Proof

/-- What an instruction comes to: it completes and goes on at an address, it traps, or it stays on its wait. -/
inductive Result
  | ok (s : State) (pc : Int)
  | trap (cause : Nat) (s : State)
  | stay (s : State)

/-- The sequencer exists on the part (R63). -/
def State.hasSeq (s : State) : SeqId → Bool
  | .marshal => true
  | .cluster c => decide (c < s.par.clusters)

/-- The sequencer executes instructions: its state is 1, it does not sleep, its cluster is not gated, and nothing has stopped
it. -/
def State.running (s : State) (k : Nat) : Bool :=
  !s.stopped && !(k != 0 && s.gated) && s.rd (stateReg k) == 1 && (s.seq k).waiting.isNone

/-- R84, R256, R259, R669: why the instruction at an address cannot be fetched: it lies outside common paddock, in the upper
half of a zone, or in a word that neither its slice nor a copy can give. A word that a mirror copy serves is fetched (R109).
The lines an instruction cache holds are no state of the model (log 2). -/
def State.fetchCause (s : State) (pc : Int) : Option Nat :=
  if pc < 0 ∨ s.region pc.toNat ≠ .common then some 0x06
  else if s.upperHalf pc.toNat then some 0x04
  else if s.serve (pc.toNat / 8 * 8) = .lost then some 0x0D
  else none

/-- The instruction at an address can be fetched. -/
def State.fetchable (s : State) (pc : Int) : Bool := (s.fetchCause pc).isNone

/-- R132, R252: a fetch that meets an uncorrectable error counts it. -/
def State.fetchError (s : State) (pc : Int) (cause : Nat) : State :=
  if cause = 0x0D then s.padError (pc.toNat / 8 * 8) else s

/-- R119 to R121: a trap. The marshal's is a fault (R552), and its restart is due; a cluster's is recovered by
CLUSTER_FAULT. -/
def State.takeTrap (s : State) (k cause : Nat) : State :=
  let q := s.seq k
  let s := s.setSeq k { q with waiting := none, bitten := false }
  let s := (s.wrN (stateReg k) 3).wrN (causeReg k) cause
  if k = 0 then
    let s := { s with sq := { s.sq with restartDue := true } }
    s.raise .marshal 0x0021 2 0x01 0 cause (unsigned 64 (s.pc 0))
  else s

/-- R119, R135, R669: an instruction ends. A hold timer bite counts after every other condition, and leaves the
instruction without effect. -/
def State.settle (s : State) (k : Nat) (r : Result) : State :=
  match r with
  | .trap c t => t.takeTrap k c
  | .ok t pc => if (s.seq k).bitten then s.takeTrap k 0x0E else t.setPc k pc
  | .stay t => if (s.seq k).bitten then s.takeTrap k 0x0E else t

/-- A sequencer executes an instruction. A command for a sequencer that executes none changes nothing. -/
def State.cheul (s : State) (q : SeqId) (body : Nat → Result) : Host.Outcome State Fault Refusal :=
  if !s.hasSeq q then .refused .noSuchUnit
  else if !s.running (keyOf q) then .next s
  else
    let k := keyOf q
    match s.fetchCause (s.pc k) with
    | some c => .next (s.settle k (.trap c (s.fetchError (s.pc k) c)))
    | none => .next (s.settle k (body k))

/-- The address of the next instruction. -/
def State.nextPc (s : State) (k : Nat) : Int := s.pc k + 8

/-- An instruction that writes g[d] and goes on. -/
def State.writes (s : State) (k : Nat) (d : BitVec 5) (v : Word) : Result := .ok (s.setGreg k d v) (s.nextPc k)

/-! ### Waits (R75, R76, R144, R151) -/

/-- R112: the frame checkpoint, as a WAIT of the marshal that includes e0 completes with e0 set. -/
def State.checkpoint (s : State) (pc : Int) : State :=
  let n := s.rdN Reg.FRAME_COUNT_count
  let s := { s with sq := { s.sq with ckpt := some ⟨pc, (s.seq 0).gpr, (s.seq 0).events, n⟩, hwSince := 0 } }
  (s.wrN Reg.MSH_CKPT_frame n).recovered .marshal

/-- R75, R144: a WAIT completes with its condition met. -/
def State.waitDone (s : State) (k : Nat) (mask : BitVec 64) (mode : Nat) (d : BitVec 5) : State :=
  let hit := (s.seq k).events &&& mask
  let q := s.seq k
  let s := s.setSeq k { q with waiting := none }
  let s := if 2 ≤ mode then s.clearEvents k hit else s
  let s := s.setGreg k d hit
  if k = 0 ∧ mask.getLsbD 0 = true ∧ hit.getLsbD 0 = true then s.checkpoint (s.nextPc k) else s

/-- A wait ends without its condition: 0 goes to g[d] (R75, R151). -/
def State.waitOver (s : State) (k : Nat) (d : BitVec 5) : State :=
  let q := s.seq k
  (s.setSeq k { q with waiting := none }).setGreg k d 0

/-- The sequencer starts to sleep. -/
def State.sleep (s : State) (k : Nat) (w : Waiting) : State :=
  let q := s.seq k
  s.setSeq k { q with waiting := some w }

/-- The sequencer sleeps in a WAIT or an AT and nothing has stopped it. -/
def State.asleep (s : State) (k : Nat) : Option Waiting :=
  if !s.stopped && !(k != 0 && s.gated) && s.rd (stateReg k) == 1 then (s.seq k).waiting else none

/-! ### Starting and restarting a program (R66, R110, R113, R120) -/

/-- R66: the registers at the start of a program. -/
def startGpr (index dataAddr : Nat) : Tab Word :=
  Tab.put 0 (Tab.put 0 [] 1 (BitVec.ofNat 64 index)) 2 (BitVec.ofNat 64 dataAddr)

/-- R66: a sequencer starts a program at an entry point. The marshal's start is where it resumes until its first frame
checkpoint (DEDUCED from R112 and R113, log 11). -/
def State.startSeq (s : State) (k index dataAddr entry : Nat) : State :=
  let q := s.seq k
  let g := startGpr index dataAddr
  let s := s.setSeq k { q with gpr := g, waiting := none, lock := none, bitten := false }
  let s := ((s.wrN (stateReg k) 1).wrN (causeReg k) 0).setPc k entry
  if k = 0 then
    { s with sq := { s.sq with ckpt := some ⟨entry, g, q.events, s.rdN Reg.FRAME_COUNT_count⟩, hwSince := 0,
                               restartDue := false } }.wrN Reg.MSH_STATUS_lockstep 1
  else s

/-- R113: the marshal resumes at its checkpoint, with the flags of the checkpoint and every flag that the hardware has
set since. -/
def State.resumeMarshal (s : State) : State :=
  match s.sq.ckpt with
  | none => s
  | some c =>
    let q := s.seq 0
    let s := s.setSeq 0 { q with gpr := c.gpr, events := c.events ||| s.sq.hwSince, waiting := none, lock := none,
                                 bitten := false }
    let s := { s with sq := { s.sq with restartDue := false } }
    (((s.wrN Reg.MSH_STATUS_state 1).wrN Reg.MSH_STATUS_lockstep 1).setPc 0 c.pc).bump Reg.MSH_STATUS_restarts 1

end Sys2Proof.Machine
end

