-- ==== Sys2Proof/Machine/Trim.lean ====
section
/-! DEFINITION. DRAM self-trim (R545 to R547, R600, R601). -/
namespace Sys2Proof.Machine
open Sys2Proof

/-- R545: the key of a quantity of a channel: 0 to 15 read deskew taps, 16 to 31 write deskew taps, 32 the WCK phase, 33 Vref.
The numbering is the model's (log 18). -/
def trimKey (ch q : Nat) : Nat := ch * 64 + q

/-- R545: the taps or steps of a quantity. -/
def trimRange (q : Nat) : Nat := if q < 32 then 64 else 128

/-- A quantity that has not been measured. -/
def blankTrim : TrimQ := ⟨0, 0, 0, 0, false, false⟩

/-- A quantity of a channel. -/
def State.trimQ (s : State) (ch q : Nat) : TrimQ := Tab.get blankTrim s.health.quants (trimKey ch q)

/-- The quantities of every channel replaced. -/
def State.setQuants (s : State) (t : Tab TrimQ) : State := { s with health := { s.health with quants := t } }

/-- The distance of a quantity from its benchmark. -/
def TrimQ.drift (x : TrimQ) : Nat := max (x.value - x.bench) (x.bench - x.value)

/-- R548: TRIM_CH shows a channel's quantities. -/
def State.showTrim (s : State) (ch : Nat) : State :=
  let far := (s.health.quants.filter fun (k, _) => k / 64 == ch).foldl (fun m (_, x) => max m x.drift) 0
  ((s.wrN (Reg.TRIM_CH_wck ch) (s.trimQ ch 32).value).wrN (Reg.TRIM_CH_vref ch) (s.trimQ ch 33).value).wrN
    (Reg.TRIM_CH_drift ch) (min 63 far)

/-- A quantity replaced. -/
def State.setTrim (s : State) (ch q : Nat) (x : TrimQ) : State :=
  (s.setQuants (Tab.put blankTrim s.health.quants (trimKey ch q) x)).showTrim ch

/-- R547: a drift beyond the limit is noted once. -/
def State.noteTrim (s : State) (ch q : Nat) : State :=
  let x := s.trimQ ch q
  let far := decide (s.efN Reg.SELF_TRIM_drift_limit < x.drift)
  let t := s.setTrim ch q { x with noted := far }
  if far && !x.noted then t.noteRecord 0 0x40 ch 0x003A ch q else t

/-- R545, R547: a measurement of a quantity. The centre of a window of even width is open (log 5). -/
def State.measure (s : State) (m : TrimResult) : State :=
  let x := s.trimQ m.channel m.quantity
  let c := (m.low + m.high + b2n (Config.freeBit s.nfree)) / 2
  let s := { s with nfree := s.nfree + 1 }
  let end_ := decide (m.low = 0) || decide (m.high + 1 = trimRange m.quantity)
  s.setTrim m.channel m.quantity { x with centre := c, due := decide (c ≠ x.value),
                                          ends := if end_ then min 16 (x.ends + 1) else 0 }

/-- R546: one correction of a quantity toward its latest centre. -/
def State.correctTrim (s : State) (ch q : Nat) : State :=
  let x := s.trimQ ch q
  if !x.due || x.value = x.centre then s
  else
    let v := if x.value < x.centre then x.value + 1 else x.value - 1
    ((s.setTrim ch q { x with value := v, due := decide (v ≠ x.centre) }).bump Reg.SELF_TRIM_steps 1).noteTrim ch q

/-- R546: a boundary of a channel. -/
def State.trimBoundary (s : State) (ch : Nat) : State :=
  if !s.on Reg.SELF_TRIM_enable then s
  else (s.health.quants.filter fun (k, x) => k / 64 == ch && x.due).foldl (fun s (k, _) => s.correctTrim ch (k % 64)) s

/-- R546: `n` boundaries of a channel, one at the end of each all-bank refresh. -/
def State.trimBoundaries (s : State) (ch n : Nat) : State := (List.range n).foldl (fun s _ => s.trimBoundary ch) s

/-- R600: the offset of a quantity in the benchmark record. -/
def benchOffset (ch q : Nat) : Nat :=
  if q < 16 then 16 * ch + q else if q < 32 then 384 + 16 * ch + (q - 16) else if q = 32 then 768 + ch else 792 + ch

/-- A quantity as training leaves it: the value is the silicon's, open here (log 5). -/
def State.trained (s : State) (q : Nat) : Nat × State :=
  let (w, s) := s.fresh
  (w.toNat % trimRange q, s)

/-- R301, R545, R547, R601: training sets a quantity. `bench` is none at a rest exit; at boot it is the benchmark record,
which gives the value, or none of it, and the value becomes the benchmark. -/
def State.trainQ (s : State) (bench : Option (Option Bytes)) (ch q : Nat) : State :=
  let x := s.trimQ ch q
  let (v, s) := s.trained q
  let y : TrimQ := match bench with
    | some (some b) => let w := fieldLe b (benchOffset ch q) 1 % trimRange q; ⟨w, w, w, 0, false, false⟩
    | some none => ⟨v, v, v, 0, false, false⟩
    | none => { x with value := v, centre := v, due := false, ends := 0 }
  s.setQuants (Tab.put blankTrim s.health.quants (trimKey ch q) y)

/-- Training sets every quantity of a channel. -/
def State.trainChannel (s : State) (bench : Option (Option Bytes)) (ch : Nat) : State :=
  ((List.range 34).foldl (fun s q => s.trainQ bench ch q) s).showTrim ch

/-- R548: the quantities of every channel reset to the benchmark record. -/
def State.benchTrims (s : State) : State :=
  match s.benchmark with
  | none => s
  | some b => (List.range s.par.channels).foldl (fun s ch => s.trainChannel (some (some b)) ch) s

/-- R601: the benchmark record of the trim values in effect, with its CRC. -/
def State.benchBytes (s : State) : Bytes :=
  let q := fun ch i => leBytes 1 (s.trimQ ch i).value
  let all := fun f : Nat → Bytes => (List.range 24).flatMap f
  let b := (all fun ch => (List.range 16).flatMap fun i => q ch i) ++ (all fun ch => (List.range 16).flatMap fun i => q ch (16 + i)) ++
    (all fun ch => q ch 32) ++ (all fun ch => q ch 33) ++
    ((List.range 512).flatMap fun n => leBytes 1 (s.rdN (Reg.BC_TRIM_phase n)))
  let b := b ++ List.replicate (1340 - b.length) 0
  b ++ leBytes 4 (crc32c b)

end Sys2Proof.Machine
end

