-- ==== Sys2Proof/Machine/Dram.lean ====
section
/-! DEFINITION. The DRAM channels, their parity groups and gather buffers, refresh and low power (R276 to R303), the loss of a common
slice (R259), and what passes while no command waits. -/
namespace Sys2Proof.Machine
open Sys2Proof

/-- Channel `ch` is powered. -/
def State.chPowered (s : State) (ch : Nat) : Bool := s.rd (Reg.DRAM_STATUS_state ch) != 3

/-- The fields of a rank of a channel: its state and its refresh debt. -/
def rankReg (ch rank : Nat) : Nat := if rank = 0 then Reg.DRAM_STATUS_rank0 ch else Reg.DRAM_STATUS_rank1 ch
def debtReg (ch rank : Nat) : Nat := if rank = 0 then Reg.DRAM_REF_debt0 ch else Reg.DRAM_REF_debt1 ch

/-- R299, R300: DRAM_PWR.keep of a rank. -/
def State.keep (s : State) (rank : Nat) : Bool := s.ef (if rank = 0 then Reg.DRAM_PWR_keep0 else Reg.DRAM_PWR_keep1) == 1

/-- R300: a channel whose ranks are both in self-refresh has its CK_WCK and CK_DMC stopped. -/
def State.chClocked (s : State) (ch : Nat) : Bool := !(s.rd (rankReg ch 0) == 2 && s.rd (rankReg ch 1) == 2)

/-- DRAM_WRITE_GATHER (R284, R285, R290): one write of at most a burst of class ingest, once its channel can be granted. -/
def execDramWriteGather (addr : Nat) (data : Bytes) (s : State) : Host.Outcome State Fault Refusal :=
  if !s.dramRange addr data.length || data.isEmpty || addr % 64 + data.length > 64 then .next s
  else .next (s.orWait (s.writeMem .ingest addr data))

/-- GATHER_TIMEOUT (R285): a line has waited DRAM_PAR.gather_cyc cycles. -/
def execGatherTimeout (g line : Nat) (s : State) : Host.Outcome State Fault Refusal :=
  if s.par.groups ≤ g then .refused .noSuchUnit else .next (s.drainLine g line false)

/-- LINE_DRAIN_COMPLETE (R288): every access of a drain is done, unless one still waits for its grant (R287). -/
def execLineDrainComplete (g line : Nat) (s : State) : Host.Outcome State Fault Refusal :=
  if s.par.groups ≤ g then .refused .noSuchUnit
  else if s.mem.gather.any (fun l => l.sameLine g line && l.draining && s.drainWaits l) then .next s
  else .next (s.drainDone g line)

/-- R285, R301: every line of every group drains. -/
def State.drainGather (s : State) : State := s.mem.gather.foldl (fun s l => s.drainOut l false) s

/-- DRAM_CHANNEL_FAIL (R292 to R294). -/
def execDramChannelFail (ch cause : Nat) (s : State) : Host.Outcome State Fault Refusal :=
  if s.par.channels ≤ ch then .refused .noSuchUnit
  else if s.rd (Reg.DRAM_STATUS_state ch) == 1 || !s.chPowered ch || cause == 0 || decide (4 < cause) then .next s
  else .next (s.failChannel ch cause)

/-- R295: a restore of the failed channel of group g begins, if its training passes, which sets its trim quantities afresh
(R547). -/
def State.restoreGroup (s : State) (g : Nat) (trainOk : Bool) : State :=
  let f := s.rdN (Reg.DRAM_GRP_failed g)
  let ch := 8 * g + f
  if f = 0xF ∨ s.rd (Reg.DRAM_STATUS_state ch) ≠ 1 ∨ trainOk = false then s
  else
    let s := (s.trainChannel none ch).wrN (Reg.DRAM_STATUS_state ch) 2
    { s with mem := { s.mem with restore := Tab.put 0 s.mem.restore g 0 } }.wrN (Reg.DRAM_GRP_restored_mib g) 0

/-- R295: the channel bytes of a failed channel: both ranks. -/
def State.channelBytes (s : State) : Nat := 2 * s.rdN Reg.DRAM_CFG_rank_mib * 2 ^ 20

/-- R295: the index of a channel's burst in the line at a channel offset: 0 to 6 a data burst, 7 the parity. -/
def State.lineIndex (s : State) (g co ch : Nat) : Nat :=
  ((List.range 8).find? fun i => s.lineChannel g co i == ch).getD 7

/-- R295: the line at a channel offset is rewritten on the channel under restore from the other seven, with seven reads and
one write under the host window class. -/
def State.restoreLine (s : State) (g ch co : Nat) : State :=
  let i := s.lineIndex g co ch
  let l := s.lineLoc g co i
  let ok := s.canRebuild g co i
  let s := (s.readOthers l i).access l
  let s := s.bump (Reg.ARB_CLS_grants Master.host.cls) 8
  if !ok then s
  else if i < 7 then s.cleanBurst (s.lineAddr g co i)
  else { s with mem := { s.mem with badPar := s.mem.badPar.filter (· ≠ parityKey g co) } }

/-- R267, R268, R295: a restore goes on by one line, in ascending channel offset, unless a channel of the group is held, and
DRAM_GRP.restored_mib counts the progress. It rewrites one line in each step on an empty queue (DESIGN CHOICE, log 10). -/
def State.restoreStep (s : State) (g : Nat) : State :=
  let ch := 8 * g + s.rdN (Reg.DRAM_GRP_failed g)
  let co := Tab.get 0 s.mem.restore g
  let held := (List.range 8).any fun i => s.heldFrom noSeq (8 * g + i)
  if s.rd (Reg.DRAM_STATUS_state ch) ≠ 2 ∨ s.channelBytes ≤ co ∨ held = true then s
  else
    let s := s.restoreLine g ch co
    let s := { s with mem := { s.mem with restore := Tab.put 0 s.mem.restore g (co + 64) } }
    s.wrN (Reg.DRAM_GRP_restored_mib g) ((co + 64) / 2 ^ 20)

/-- R295: the lines of a restore that are left, at once: their grants, and the errors of the channel that the others can
repair. -/
def State.restoreRest (s : State) (g ch : Nat) : State :=
  let co := Tab.get 0 s.mem.restore g
  let fixed := fun a : Nat => let l := s.loc a
    l.grp == g && l.ch == ch && decide (co ≤ l.co) && s.canRebuild g (l.co / 64 * 64) l.j
  let s := s.bump (Reg.ARB_CLS_grants Master.host.cls) (8 * ((s.channelBytes - co) / 64))
  { s with mem := { s.mem with
      bad := s.mem.bad.filter fun x => !(s.region (8 * x) == .dram && fixed (8 * x))
      badPar := s.mem.badPar.filter fun k =>
        !(k / 2 ^ 40 == g && s.lineChannel g (k % 2 ^ 40) 7 == ch && decide (co ≤ k % 2 ^ 40) && s.canRebuild g (k % 2 ^ 40) 7)
      restore := Tab.put 0 s.mem.restore g 0 } }

/-- DRAM_RESTORE_COMPLETE (R295): every burst of the channel is rewritten. -/
def execDramRestoreComplete (g : Nat) (s : State) : Host.Outcome State Fault Refusal :=
  if s.par.groups ≤ g then .refused .noSuchUnit
  else
    let ch := 8 * g + s.rdN (Reg.DRAM_GRP_failed g)
    if s.rd (Reg.DRAM_STATUS_state ch) ≠ 2 then .next s
    else
      let s := (s.restoreRest g ch).wrN (Reg.DRAM_STATUS_state ch) 0
      let other := match s.failedIn g with
        | [] => 0xF
        | c :: _ => c % 8
      .next (((s.wrN (Reg.DRAM_GRP_failed g) other).wrN (Reg.DRAM_GRP_restored_mib g)
        (2 * s.rdN Reg.DRAM_CFG_rank_mib)).recovered (.dram ch))

/-- R281, R296: all-bank refreshes that the controller issues to a rank before the next tick of its debt: how many the
arbitration lets pass is a free value (log 14). Each takes a grant of class spur-refresh and lowers the debt by one; the rows
of the rank close, and the end of each is a boundary of self-trim (R546). -/
def State.idleRefresh (s : State) (ch rank : Nat) : State :=
  let d := s.rdN (debtReg ch rank)
  let (w, s) := s.fresh
  let n := w.toNat % (d + 1)
  if n = 0 ∨ s.heldFrom noSeq ch = true then s
  else (((s.closeRows ch rank).wrN (debtReg ch rank) (d - n)).bump (Reg.ARB_CLS_grants 0) n).trimBoundaries ch n

/-- A sequencer's locked sequence holds resource `r`. -/
def State.lockedBy (s : State) (r : Nat) : Option Nat := (s.sq.seqs.find? fun (_, q) => q.holds r).map (·.1)

/-- R268, R269, R297, R546: spur-refresh takes the channel, from a lock or from debug halt as well, and the rank is refreshed
until its debt is zero; the end of each refresh is a boundary. -/
def State.refreshSpur (s : State) (ch rank : Nat) : State :=
  let d := s.rdN (debtReg ch rank)
  let s := ((s.closeRows ch rank).wrN (debtReg ch rank) 0).bump (Reg.DRAM_REF_spurs ch) 1
  let s := (s.bump (Reg.ARB_CLS_grants 0) 1).trimBoundaries ch d
  if s.heldFrom noSeq ch then s.bump Reg.ARB_SPUR_refresh 1 else s

/-- REFRESH_DEBT_TICK (R296, R297): tREFI over the multiplier has passed for a rank. -/
def execRefreshDebtTick (ch rank : Nat) (s : State) : Host.Outcome State Fault Refusal :=
  if s.par.channels ≤ ch ∨ 2 ≤ rank then .refused .noSuchUnit
  else if !s.chPowered ch || s.rd (rankReg ch rank) == 2 then .next s
  else
    let d := s.rdN (debtReg ch rank) + 1
    let s := s.wrN (debtReg ch rank) d
    if s.rdN Reg.DRAM_REF_debt_limit ≤ d then .next (s.refreshSpur ch rank) else .next (s.idleRefresh ch rank)

/-- MR4_POLL (R276); a channel whose clocks are stopped is not polled (R300). -/
def execMr4Poll (ch mult : Nat) (s : State) : Host.Outcome State Fault Refusal :=
  if s.par.channels ≤ ch then .refused .noSuchUnit
  else if s.chPowered ch && s.chClocked ch && [1, 2, 4].contains mult then .next (s.wrN (Reg.DRAM_STATUS_refresh_mult ch) mult)
  else .next s

/-- POWER_DOWN_ENTRY (R299): a live rank has been idle for pd_idle cycles. -/
def execPowerDownEntry (ch rank : Nat) (s : State) : Host.Outcome State Fault Refusal :=
  if s.par.channels ≤ ch ∨ 2 ≤ rank then .refused .noSuchUnit
  else if s.chPowered ch && !s.keep rank && s.rd (rankReg ch rank) == 0 then .next (s.wrN (rankReg ch rank) 1)
  else .next s

/-- R281, R300: a rank is refreshed to zero debt and enters self-refresh. -/
def State.selfRefresh (s : State) (ch rank : Nat) : State :=
  ((s.closeRows ch rank).wrN (debtReg ch rank) 0).wrN (rankReg ch rank) 2

/-- SELF_REFRESH_ENTRY (R300): a kept rank has been idle for sr_idle_us. -/
def execSelfRefreshEntry (ch rank : Nat) (s : State) : Host.Outcome State Fault Refusal :=
  if s.par.channels ≤ ch ∨ 2 ≤ rank then .refused .noSuchUnit
  else if s.chPowered ch && s.keep rank && s.rd (rankReg ch rank) != 2 then .next (s.selfRefresh ch rank)
  else .next s

/-- R301: the gather buffers drain, and every rank is put into self-refresh. -/
def State.selfRefreshAll (s : State) : State :=
  (List.range s.par.channels).foldl (fun s ch => (s.selfRefresh ch 0).selfRefresh ch 1) s.drainGather

/-- R301: the channel pairs are powered off; a failed channel stays marked. -/
def State.powerOffDram (s : State) : State :=
  (List.range s.par.channels).foldl (fun s ch =>
    if s.rd (Reg.DRAM_STATUS_state ch) = 0 then s.wrN (Reg.DRAM_STATUS_state ch) 3 else s) s

/-- R276, R301, R547: the channels in service retrain, which sets every quantity afresh. A channel that fails its training is
that of a DRAM_CHANNEL_FAIL of cause 3 (R292, log 82). -/
def State.retrainDram (s : State) : State :=
  (List.range s.par.channels).foldl
    (fun s ch => if s.rd (Reg.DRAM_STATUS_state ch) ≠ 0 then s else s.trainChannel none ch) s

/-- R301: the pairs are powered up and leave self-refresh, with no debt (R300). -/
def State.wakeDram (s : State) : State :=
  (List.range s.par.channels).foldl (fun s ch =>
    let s := if s.rd (Reg.DRAM_STATUS_state ch) = 3 then s.wrN (Reg.DRAM_STATUS_state ch) 0 else s
    (((s.wrN (Reg.DRAM_STATUS_rank0 ch) 0).wrN (Reg.DRAM_STATUS_rank1 ch) 0).wrN (Reg.DRAM_REF_debt0 ch) 0).wrN
      (Reg.DRAM_REF_debt1 ch) 0) s

/-- COMMON_SLICE_FAIL (R259). -/
def execCommonSliceFail (k : Nat) (s : State) : Host.Outcome State Fault Refusal :=
  if 16 ≤ k then .refused .noSuchUnit
  else if s.sliceFailed k then .next s
  else
    let n := s.par.clusters
    let partner := xorNat k 8
    .next (((s.wrN (Reg.PAD_STATUS_state (n + k)) 1).wrN (Reg.PAD_STATUS_mirror_lost (n + partner)) 1).raise
      (.slice k) 0x0018 2 0x30 (n + k) k partner)

/-- What passes while no command waits: one CK_DAT tick, the oldest store of each sequencer becomes visible, and a restore goes
on by a line (log 10). -/
def State.idle (s : State) : State :=
  let s := s.sq.seqs.foldl (fun t (k, _) => t.drainOne k) (s.advance 1)
  (List.range s.par.groups).foldl (fun s g => s.restoreStep g) s

end Sys2Proof.Machine
end

