-- ==== Sys2Proof/Machine/Codec.lean ====
section
/-! DEFINITION. The Volast Block Codec (R210 to R223, R226 to R230): bits, blocks, layer bitstreams and the encoder's choice of a
coding. -/
namespace Sys2Proof.Machine
open Sys2Proof

/-! ### Bits (R211) -/

/-- The bits of a number, least significant first. -/
def bitsLsb : Nat → Nat → List Bool
  | 0, _ => []
  | n + 1, v => (v % 2 == 1) :: bitsLsb n (v / 2)

/-- The number that bits spell, least significant first. -/
def natLsb : List Bool → Nat
  | [] => 0
  | b :: t => b2n b + 2 * natLsb t

/-- R211: the bits of bytes. -/
def bitsOfBytes (b : Bytes) : List Bool := b.flatMap fun x => bitsLsb 8 x.toNat

/-- R211, R218: bits packed into `n` bytes, the last padded with zeros. -/
def packBits : Nat → List Bool → Bytes
  | 0, _ => []
  | n + 1, l => BitVec.ofNat 8 (natLsb (l.take 8)) :: packBits n (l.drop 8)

/-- Bits packed into whole bytes. -/
def bytesOfBits (l : List Bool) : Bytes := packBits (ceilDiv l.length 8) l

/-! ### Samples (R214 to R217) -/

/-- R214: the prediction of sample `i` from the samples before it, latest first. -/
def predictAt (pred i : Nat) (before ref : List Nat) : Nat :=
  match pred with
  | 1 => if i % 16 ≠ 0 then before.getD 0 0 else if 16 ≤ i then before.getD 15 0 else 0
  | 2 => if 16 ≤ i then before.getD 15 0 else if i ≠ 0 then before.getD 0 0 else 0
  | 3 => ref.getD i 0
  | _ => 0

/-- R215: the unsigned code of a residual. -/
def foldResidual (w s p : Nat) : Nat :=
  let r := signed w (s + 2 ^ w - p % 2 ^ w)
  if 0 ≤ r then (2 * r).toNat else (-2 * r - 1).toNat

/-- R215, R219: the sample of a code and a prediction. -/
def unfoldResidual (w u p : Nat) : Nat :=
  let r : Int := if u % 2 = 0 then ((u / 2 : Nat) : Int) else -(((u + 1) / 2 : Nat) : Int)
  unsigned w ((p : Int) + r)

/-- R217: the largest k from 0 to w - 1 with 4 << k at most a, or 0. -/
def riceK (w a : Nat) : Nat := ((List.range w).filter fun k => 4 * 2 ^ k ≤ a).length - 1

/-- R217: the running value after a code. -/
def riceNext (a u : Nat) : Nat := a - a / 4 + u

/-- R216: a code with parameter k. -/
def riceBits (w k u : Nat) : List Bool :=
  if u / 2 ^ k < 16 then List.replicate (u / 2 ^ k) true ++ [false] ++ bitsLsb k u
  else List.replicate 16 true ++ bitsLsb w u

/-! ### Decoding a block (R219, R220) -/

/-- Leading ones, at most 16, with the zero that ends them taken. -/
def takeOnes : Nat → List Bool → Option (Nat × List Bool)
  | 0, l => some (0, l)
  | _ + 1, [] => none
  | n + 1, b :: t =>
    if b then (takeOnes n t).map fun (q, r) => (q + 1, r) else some (0, t)

/-- A field of `n` bits. -/
def takeField (n : Nat) (l : List Bool) : Option (Nat × List Bool) :=
  if l.length < n then none else some (natLsb (l.take n), l.drop n)

/-- R219: one code with parameter k. -/
def takeCode (w k : Nat) (l : List Bool) : Option (Nat × List Bool) :=
  match takeOnes 16 l with
  | none => none
  | some (q, l) =>
    if q = 16 then takeField w l
    else (takeField k l).map fun (v, r) => (q * 2 ^ k + v, r)

/-- R219: `n` more samples from sample `i`; the samples come latest first. -/
def decodeSamples (w pred : Nat) (ref : List Nat) :
    Nat → Nat → Nat → Nat → List Nat → List Bool → Option (List Nat × List Bool)
  | 0, _, _, _, acc, l => some (acc, l)
  | n + 1, i, k, a, acc, l =>
    match takeCode w k l with
    | none => none
    | some (u, l) =>
      let s := unfoldResidual w u (predictAt pred i acc ref)
      let a := riceNext a u
      decodeSamples w pred ref n (i + 1) (riceK w a) a (s :: acc) l

/-- R219: 256 uncoded samples. -/
def rawSamples (w : Nat) : Nat → List Bool → List Nat
  | 0, _ => []
  | n + 1, l => natLsb (l.take w) :: rawSamples w n (l.drop w)

/-- A decoded block: its samples in index order, its size in bytes, and whether it is raw. -/
structure Block where
  samples : List Nat
  size : Nat
  raw : Bool
  deriving DecidableEq, Repr

/-- R219, R220: the block at the start of a byte string, or the code of the first error. -/
def decodeBlock (w : Nat) (admit3 : Bool) (ref : List Nat) (b : Bytes) : Except Nat Block :=
  if b.length < 4 then .error 6
  else
    let h := fieldLe b 0 4
    let pred := bits h 0 2
    let k0 := bits h 2 4
    let raw := bit h 6
    let len := bits h 8 10
    if bit h 7 || 2 ^ 18 ≤ h then .error 1
    else if w - 1 < k0 then .error 2
    else if raw && (pred != 0 || k0 != 0 || len != 32 * w) then .error 3
    else if !raw && 32 * w ≤ len then .error 4
    else if pred == 3 && !admit3 then .error 5
    else if b.length < 4 + len then .error 6
    else
      let l := bitsOfBytes ((b.drop 4).take len)
      if raw then .ok ⟨rawSamples w 256 l, 4 + len, true⟩
      else match decodeSamples w pred ref 256 0 k0 (4 * 2 ^ k0) [] l with
        | none => .error 7
        | some (acc, rest) =>
          if 8 ≤ rest.length || rest.any id then .error 7 else .ok ⟨acc.reverse, 4 + len, false⟩

/-! ### Coding a block (R213, R216, R218, R230) -/

/-- R214, R215: the codes of the samples under a predictor. -/
def codesOf (w pred : Nat) (ref : List Nat) : Nat → List Nat → List Nat → List Nat
  | _, _, [] => []
  | i, before, s :: t => foldResidual w s (predictAt pred i before ref) :: codesOf w pred ref (i + 1) (s :: before) t

/-- R216, R217: codes written from parameter k. -/
def codeBits (w : Nat) : Nat → Nat → List Nat → List Bool
  | _, _, [] => []
  | k, a, u :: t => riceBits w k u ++ codeBits w (riceK w (riceNext a u)) (riceNext a u) t

/-- R230: the starting parameter for a sum of codes. -/
def startK (w total : Nat) : Nat := riceK w (4 * (total / 256))

/-- R212: a block header. -/
def blockHeader (pred k0 len : Nat) (raw : Bool) : Bytes := leBytes 4 (pred + 4 * k0 + 64 * b2n raw + 256 * len)

/-- R213: the block written raw. -/
def rawBlock (w : Nat) (s : List Nat) : Bytes :=
  blockHeader 0 0 (32 * w) true ++ bytesOfBits (s.flatMap fun v => bitsLsb w v)

/-- R230: the block coded with one predictor. -/
def codedBlock (w pred : Nat) (ref s : List Nat) : Bytes :=
  let us := codesOf w pred ref 0 [] s
  let k0 := startK w us.sum
  let p := bytesOfBits (codeBits w k0 (4 * 2 ^ k0) us)
  blockHeader pred k0 p.length false ++ p

/-- The shorter of two codings; the first on a tie. -/
def shorter (x y : Bytes) : Bytes := if y.length < x.length then y else x

/-- R230: the coding of a block under the permitted predictors, in rising order. -/
def encodeBlock (w : Nat) (preds : List Nat) (ref s : List Nat) : Bytes :=
  match preds.map fun p => codedBlock w p ref s with
  | [] => rawBlock w s
  | b :: t =>
    let best := t.foldl shorter b
    if 4 + 32 * w ≤ best.length then rawBlock w s else best

/-- The block is raw (R212). -/
def isRawBlock (b : Bytes) : Bool := bit (fieldLe b 0 4) 6

/-- R232: the coding decodes to the samples under the same prediction. -/
def verifies (w : Nat) (ref s : List Nat) (b : Bytes) : Bool :=
  match decodeBlock w true ref b with
  | .ok r => r.samples == s && r.size == b.length
  | .error _ => false

/-! ### Layer bitstreams (R210, R221 to R223) -/

/-- R210: widths of the layer planes, and the pixel bit each starts at (R40). -/
def planeWidths : List Nat := [12, 12, 12, 10, 8, 8, 8, 10]
def planeShifts : List Nat := [0, 12, 24, 36, 46, 54, 62, 70]

/-- The samples of plane `p` of block (c, d) of pixels in raster order, `bx` blocks across. -/
def blockSamples (bx p c d : Nat) (px : List Nat) : List Nat :=
  (List.range 256).map fun i =>
    bits (px.getD ((16 * d + i / 16) * (16 * bx) + 16 * c + i % 16) 0) (planeShifts.getD p 0) (planeWidths.getD p 0)

/-- What decoding a layer comes to: the blocks so far, bytes consumed, raw blocks, and the error code. -/
structure LayerResult where
  blocks : List (List Nat)
  consumed : Nat
  raw : Nat
  err : Nat
  deriving DecidableEq, Repr

/-- R219 to R223: the blocks of a layer bitstream in order, each with its plane width and its reference samples. -/
def decodeBlocks (admit3 : Bool) : List (Nat × List Nat) → Bytes → LayerResult → LayerResult
  | [], b, r => if b.isEmpty then r else { r with err := 8 }
  | (w, ref) :: t, b, r =>
    match decodeBlock w admit3 ref b with
    | .error e => { r with err := e }
    | .ok x =>
      decodeBlocks admit3 t (b.drop x.size)
        { r with blocks := r.blocks ++ [x.samples], consumed := r.consumed + x.size, raw := r.raw + b2n x.raw }

/-- R221: plane, block row and block column of each block of a layer, in order. -/
def layerOrder (bx bY : Nat) : List (Nat × Nat × Nat) :=
  (List.range 8).flatMap fun p => (List.range bY).flatMap fun d => (List.range bx).map fun c => (p, d, c)

/-- R221, R223: a layer bitstream of bx by bY blocks; `ref` holds the reference layer's pixels where one is given. -/
def decodeLayer (bx bY : Nat) (ref : Option (List Nat)) (b : Bytes) : LayerResult :=
  decodeBlocks ref.isSome
    ((layerOrder bx bY).map fun (p, d, c) =>
      (planeWidths.getD p 0, match ref with | some px => blockSamples bx p c d px | none => []))
    b ⟨[], 0, 0, 0⟩

/-- R222: the pixels of a decoded layer in raster order. -/
def layerPixels (bx bY : Nat) (blocks : List (List Nat)) : List Nat :=
  (List.range (256 * bx * bY)).map fun n =>
    let x := n % (16 * bx)
    let y := n / (16 * bx)
    let k := (y / 16) * bx + x / 16
    ((List.range 8).map fun p =>
      ((blocks.getD (p * (bx * bY) + k) []).getD (16 * (y % 16) + x % 16) 0) * 2 ^ planeShifts.getD p 0).sum

/-- R201, R40: the 10 bytes of a pixel. -/
def pixelBytes (v : Nat) : Bytes := leBytes 10 v

/-- R41: pixels whose reserved byte is not zero. -/
def reservedPixels (px : List Nat) : Nat := (px.filter fun v => bits v 72 8 != 0).length

end Sys2Proof.Machine
end

