-- ==== Sys2Proof/Machine/Section.lean ====
section
/-! DEFINITION. The section, its plots, tiles and links (R23 to R28), and the layer sets that name a frame (R200, R671). -/
namespace Sys2Proof.Machine
open Sys2Proof

/-- Plots across and down the section. -/
def State.sectW (s : State) : Nat := s.efN Reg.ING_SECTION_plots_x
def State.sectH (s : State) : Nat := s.efN Reg.ING_SECTION_plots_y

/-- Plots of the section. -/
def State.plots (s : State) : Nat := s.sectW * s.sectH

/-- Plots across and down a tile (R26). -/
def State.tileW (s : State) : Nat := max 1 (s.efN Reg.TILE_GEOM_tile_w)
def State.tileH (s : State) : Nat := max 1 (s.efN Reg.TILE_GEOM_tile_h)

/-- Tile columns and rows (R25). -/
def State.tilesX (s : State) : Nat := ceilDiv s.sectW s.tileW
def State.tilesY (s : State) : Nat := ceilDiv s.sectH s.tileH

/-- Tiles of the section that have links. -/
def State.tileCount (s : State) : Nat := min (s.tilesX * s.tilesY) (s.par.tileLinks / 2)

/-- R25: the tile that holds a plot. -/
def State.tileOf (s : State) (p : Nat) : Nat :=
  (p / max 1 s.sectW) / s.tileH * s.tilesX + (p % max 1 s.sectW) / s.tileW

/-- R456: the place of a plot in its tile: bit 0 the column, bit 1 the row. -/
def State.placeOf (s : State) (p : Nat) : Nat :=
  (p % max 1 s.sectW) % s.tileW + 2 * ((p / max 1 s.sectW) % s.tileH)

/-- R24: the link that carries a plot. -/
def State.linkOf (s : State) (p : Nat) : Nat := 2 * s.tileOf p + (p / max 1 s.sectW) % s.tileH

/-- The plots of a tile that lie in the section. -/
def State.plotsOf (s : State) (k : Nat) : List Nat := (List.range s.plots).filter fun p => s.tileOf p == k

/-- R25: the plot lies in the section and its tile has links. -/
def State.linked (s : State) (p : Nat) : Bool := decide (p < s.plots) && decide (s.tileOf p < s.par.tileLinks / 2)

/-- R25: TILE_GEOM.unlinked follows the geometry in effect. -/
def State.countUnlinked (s : State) : State :=
  s.wrN Reg.TILE_GEOM_unlinked ((List.range s.plots).filter fun p => !s.linked p).length

/-- R235, R486: the link that carries the slabs of link `n`. -/
def State.carrier (s : State) (n : Nat) : Nat := if (s.lsvc n).failedOver then sister n else n

/-! ### Layer sets (R200, R671) -/

/-- The hub's own reads of a layer set (log 73): what such a read finds, none where it is not populated or cannot be corrected;
and the read itself, with its grants, counts and repairs. -/
def State.hubFinds (s : State) (a n : Nat) : Option Bytes :=
  if s.populated a && s.populated (a + n - 1) then (s.readMem .datum a n).1 else none
def State.hubRead (s : State) (a n : Nat) : State :=
  if s.populated a && s.populated (a + n - 1) then (s.readMem .datum a n).2 else s

/-- The header of the layer set at an address, where it can be read. -/
def State.setHeader (s : State) (a : Nat) : Option Bytes := if a = 0 then none else s.hubFinds a 64

/-- The header of the layer set at an address is read. -/
def State.readHeader (s : State) (a : Nat) : State := if a = 0 then s else s.hubRead a 64

/-- R671: the set's assembled flag. -/
def State.setAssembled (s : State) (a : Nat) : Bool :=
  match s.setHeader a with
  | some h => bit (fieldLe h 7 1) 0
  | none => false

/-- R671: the set's show time, 0 for none. -/
def State.setShow (s : State) (a : Nat) : Nat :=
  match s.setHeader a with
  | some h => fieldLe h 8 8
  | none => 0

/-- R200: the address of the set's expected signature of region `r`, where the mask says that the frame carries one. -/
def State.signatureAt (s : State) (a r : Nat) : Option Nat :=
  match s.setHeader a with
  | some h => if bit (fieldLe h 16 4) r then some (bits (fieldLe h 24 8) 0 40 + 4 * r) else none
  | none => none

/-- R200, R671: the set's expected signature of region `r`; one that cannot be read is none (log 73). -/
def State.setSignature (s : State) (a r : Nat) : Option Nat :=
  match s.signatureAt a r with
  | some x => (s.hubFinds x 4).map leNat
  | none => none

/-- Cell positions of the section and its margin, across and down. -/
def State.cellsX (s : State) : Nat := s.sectW + 2
def State.cellsY (s : State) : Nat := s.sectH + 2

/-- R200: the first word of the entry of cell `i` of a layer set; 0 where it cannot be read (log 73). -/
def State.setEntry (s : State) (a i : Nat) : Nat := leNat ((s.hubFinds (a + 64 + 16 * i) 8).getD [])

/-- R200: the index of the entry of plot `p`'s own cell. -/
def State.entryOf (s : State) (p : Nat) : Nat := (p / max 1 s.sectW + 1) * s.cellsX + p % max 1 s.sectW + 1

/-! ### The running period -/

/-- Units of 2^-32 ns in a number of nanoseconds. -/
def nsUnits (n : Nat) : Int := (n : Int) * 2 ^ 32

/-- The active time that a datum word names, in the era of the active datum. -/
def State.wordUnits (s : State) (w : Nat) : Int :=
  ((w / 2 ^ 30 + s.activeCounter.sec / 2 ^ 34 * 2 ^ 34) * 1000000000 + w % 2 ^ 30 : Nat) * 2 ^ 32

/-- R149: the datum word of an active time. -/
def unitsWord (u : Int) : Nat := (Counter.ofUnits u.toNat).word

/-- R512: the period start that show time `w` asks for. -/
def State.startFor (s : State) (w : Nat) : Int := s.wordUnits w - nsUnits (1000 * s.efN Reg.LINK_SYNC_lead_us)

/-- The show time of the frame that the running period renders. -/
def State.showNow (s : State) : Nat := s.setShow (s.rdN Reg.FT_COMMIT_current)

/-- Time since the start of the running period. -/
def State.elapsed (s : State) : Int := s.active - s.frame.startAt

/-- R512, R513: in locked mode, the show time of the running frame is usable. -/
def State.showUsable (s : State) : Bool :=
  let d := s.startFor s.showNow - s.frame.startAt
  s.ef Reg.FT_PERIOD_mode == 1 && s.showNow != 0 &&
    decide (nsUnits (s.efN Reg.FT_PERIOD_t_min_ns) ≤ d) && decide (d ≤ nsUnits (s.efN Reg.FT_PERIOD_t_max_ns))

/-- R509, R512: the end of the running period: its fixed end, else T_max after its start. -/
def State.periodEnd (s : State) : Int :=
  if s.showUsable then s.startFor s.showNow
  else s.frame.startAt + nsUnits (s.efN Reg.FT_PERIOD_t_max_ns)

end Sys2Proof.Machine
end

