-- ==== Sys2Proof/Machine/Encoder.lean ====
section
/-! DEFINITION. The encoder slices (R226 to R244, R553), the windows of the links (R235, R454, R455) and the SLAB packets
(R456, R457). -/
namespace Sys2Proof.Machine
open Sys2Proof

/-! ### Windows -/

/-- R454: cells of slab in a period of `t` ns at a gear, with `a` slots assigned. -/
def slabCells (t gear a : Nat) : Nat :=
  let n := t * gearQuarterBits gear / 2048 - 16
  let m := (n + 1023) / 1024
  n - m - 2 - a * m

/-- Slots assigned in a slot table. -/
def slotCount (t : Nat) : Nat := ((List.range 64).filter (bit t)).length

/-- R455, R236: `cells` more cells stay within the window of link `m` and its grants. -/
def State.fits (s : State) (m cells : Nat) : Bool :=
  let l := s.lnk m
  decide (l.used + 31 * cells ≤ l.window + l.granted)

/-- R455: cells count against the window of link `m`. -/
def State.charge (s : State) (m cells : Nat) : State :=
  let l := s.lnk m
  s.setLnk m { l with used := l.used + 31 * cells, cellsFrame := l.cellsFrame + cells }

/-- R238: the slab bytes that link `m` can carry before the end of the period. -/
def State.carryable (s : State) (m : Nat) : Nat :=
  let left := (s.periodEnd - s.active).toNat / 2 ^ 33
  let cells := left * gearQuarterBits (s.efN (Reg.LINK_GEAR_gear m)) / 1024
  31 * (cells - cells / 1024)

/-- R238: a grant is added to the window of link `m`. -/
def State.grantBytes (s : State) (m g : Nat) : State :=
  let l := s.lnk m
  s.setLnk m { l with granted := l.granted + min g (s.carryable m - l.granted) }

/-! ### Slab buffers (R234, R260, R446, R456, R457) -/

/-- The packet of a slab buffer that cluster c has open. -/
def Link.openOf (l : Link) (c : Nat) : Option SlabPkt := l.buffer.find? fun p => p.owner == c && !p.closed

/-- Content bytes of the packet that cluster c has open in the buffer of link n. -/
def State.openLen (s : State) (n c : Nat) : Nat := (((s.lnk n).openOf c).map SlabPkt.len).getD 0

/-- The position of the oldest byte that a slab buffer keeps. -/
def Link.oldest (l : Link) : Nat := (l.buffer.flatMap fun p => p.pieces.map (·.1)).foldl min l.pos

/-- R486: the slab buffer of link n has room for `k` more bytes (log 77). -/
def State.slabRoom (s : State) (n k : Nat) : Bool :=
  let l := s.lnk n
  decide (l.pos + k ≤ l.oldest + slabRing)

/-- A run of bytes added to a packet's pieces. -/
def addPiece : List (Nat × Nat) → Nat → Nat → List (Nat × Nat)
  | [], p, n => [(p, n)]
  | [(q, m)], p, n => if q + m = p then [(q, m + n)] else [(q, m), (p, n)]
  | x :: t, p, n => x :: addPiece t p n

/-- Bytes are written at a position of the slab buffer of link n. -/
def State.ringWrite (s : State) (n pos : Nat) (b : Bytes) : State :=
  let o := pos % slabRing
  let s := s.writeMem .encoder (s.slabBase n + o) (b.take (slabRing - o))
  if o + b.length ≤ slabRing then s else s.writeMem .encoder (s.slabBase n) (b.drop (slabRing - o))

/-- R234, R457: cluster c places bytes of its job in the slab buffer of link n: in its open packet, or in a new one. -/
def State.ringPlace (s : State) (n c : Nat) (b : Bytes) : State :=
  let s := s.ringWrite n (s.lnk n).pos b
  let l := s.lnk n
  let buffer := match l.openOf c with
    | some _ => l.buffer.map fun p =>
        if p.owner = c ∧ p.closed = false then { p with pieces := addPiece p.pieces l.pos b.length } else p
    | none => l.buffer ++ [{ owner := c, pieces := [(l.pos, b.length)], closed := false, sent := 0, crc := crcStart }]
  s.setLnk n { l with buffer := buffer, pos := l.pos + b.length }

/-- R457: the packet that cluster c has open in the buffer of link n closes. -/
def State.closePacket (s : State) (n c : Nat) : State :=
  let l := s.lnk n
  match l.openOf c with
  | none => s
  | some _ => s.setLnk n { l with buffer := l.buffer.map fun p => if p.owner = c then { p with closed := true } else p }

/-! ### Jobs -/

/-- ENC_STATUS.state of cluster c. -/
def State.encState (s : State) (c : Nat) : Nat := s.rdN (Reg.ENC_STATUS_state c)

/-- Queue key of the encoder of cluster c. -/
def encKey (c : Nat) : Nat := qKey 2 c 0

/-- The state with the encoder job of cluster c replaced. -/
def State.setJob (s : State) (c : Nat) (j : Option EncJob) : State := s.setClu c { s.clu c with job := j }

/-- The entry of a ticket in the encoder queue of cluster c. -/
def State.encEntry (s : State) (c ticket : Nat) : Option QEntry := (s.engQ (encKey c)).entries.find? fun e => e.ticket == ticket

/-- R244: a result in words 3 and 4 of a descriptor. -/
def State.encResult (s : State) (d : QEntry) (outcome blocks produced : Nat) : State :=
  (s.putWord .encoder d 3 (outcome + blocks % 256 * 256)).putWord .encoder d 4
    (256 * blocks % 2 ^ 32 + produced % 2 ^ 32 * 2 ^ 32)

/-- R252, R553: the encoder of cluster c is in engine state 3. -/
def State.encFault (s : State) (c : Nat) : State := s.wrN (Reg.ENC_STATUS_state c) 3

/-- R456: the header of a SLAB packet that begins at block `first`. -/
def State.slabHeader (s : State) (j : EncJob) : Bytes :=
  leBytes 2 j.frame ++ leBytes 1 (s.placeOf j.plot + 4 * b2n j.onto) ++ leBytes 1 j.next ++ leBytes 2 j.bearing ++ leBytes 2 0

/-- R330: buffers that lie at an address are no longer held. -/
def State.freeBuffer (s : State) (c a : Nat) : State :=
  (List.range 16).foldl (fun s w =>
    if Tab.find (s.clu c).buffers w = some a then s.wrN (Reg.WM_STATE_held c w) 0 else s) s

/-- R242: a note about a stop of a job: 1 for the stop, else the outcome that ended it. -/
def State.stopNote (s : State) (c link code : Nat) : State := s.noteRecord 0 0x13 c 0x0013 code link

/-- A remainder whose window has come runs (R238). -/
def State.startRemainder (s : State) (c : Nat) : State :=
  match (s.clu c).job, (s.clu c).parked with
  | none, some p =>
    if p.stopped then s
    else
      let p := { p with carrier := s.carrier p.link }
      (s.setClu c { s.clu c with job := some p, parked := none }).wrN (Reg.ENC_STATUS_state c) 1
  | _, _ => s

/-- A job ends with outcome 0, 3, 4 or 6: its packet closes, its buffer is free, and its descriptor, unless it has completed
with outcome 2 already, takes the result. -/
def State.endJob (s : State) (c : Nat) (j : EncJob) (outcome : Nat) : State :=
  let s := (s.closePacket j.link c).freeBuffer c j.input
  let s := if outcome = 0 then s else s.bump (Reg.ENC_CNT_abandoned c) 1
  if j.onto then s.wrN (Reg.ENC_STATUS_parked c) 0
  else match s.encEntry c j.ticket with
    | some d => (s.encResult d outcome j.next j.produced).finishHead (encKey c) d
    | none => s

/-- The job in hand is over, and a remainder that waits may run. -/
def State.jobOver (s : State) (c : Nat) : State :=
  ((s.setJob c none).wrN (Reg.ENC_STATUS_state c) 0).startRemainder c

/-- R236: the job stops before its next block. -/
def State.stopJob (s : State) (c : Nat) (j : EncJob) : State :=
  let s := (s.closePacket j.link c).setJob c (some { j with stopped := true })
  let s := s.setLnk j.link { s.lnk j.link with stoppedInPeriod := true }
  let s := ((((s.wrN (Reg.ENC_STOP_link c) j.link).wrN (Reg.ENC_STOP_plot c) j.plot).wrN (Reg.ENC_STOP_bearing c)
    j.bearing).wrN (Reg.ENC_STOP_consumed c) (256 * j.next)).wrN (Reg.ENC_STOP_produced c) j.produced
  let s := ((s.wrN (Reg.ENC_STATUS_state c) 2).bump (Reg.ENC_CNT_stops c) 1).stopNote c j.link 1
  if j.onto then s
  else match s.encEntry c j.ticket with
    | some d => (s.encResult d 1 j.next j.produced).complEvent d
    | none => s

/-- R244: the ENCODE descriptor has an error. -/
def State.encodeBad (s : State) (c : Nat) (d : QEntry) : Bool :=
  decide (s.par.tileLinks ≤ bits (d.w 2) 0 10) || decide (s.par.plots ≤ bits (d.w 2) 10 11) || d.w 1 % 64 != 0 ||
    !s.sliceRange c (d.w 1) 24576 || d.w 0 / 2 ^ 8 != 0 || d.w 2 / 2 ^ 35 != 0

/-- The key of a bearing of a plot. -/
def refKey (plot bearing : Nat) : Nat := plot * 512 + bearing

/-- R228: the blocks of a bearing of a plot placed in a frame on a link. -/
def Cluster.placedBlocks (x : Cluster) (plot bearing frame link : Nat) : Tab (List Nat) :=
  match Tab.find x.refs (refKey plot bearing) with
  | some r => if r.frame = frame ∧ r.link = link then r.blocks else []
  | none => []

/-- R228: the reference blocks of a bearing: those of the bearing before it. -/
def Cluster.refBlocks (x : Cluster) (plot bearing frame link : Nat) : Tab (List Nat) :=
  if bearing = 0 then [] else x.placedBlocks plot (bearing - 1) frame link

/-- R228: a slab of a bearing begins: records of other frames are of no more use. -/
def Cluster.openRef (x : Cluster) (j : EncJob) : Cluster :=
  let kept := x.refs.filter fun r => r.2.frame == j.frame
  { x with refs := Tab.set kept (refKey j.plot j.bearing) ⟨j.frame, j.carrier, x.placedBlocks j.plot j.bearing j.frame j.carrier⟩ }

/-- R244: the job that an ENCODE descriptor begins. -/
def State.encodeJob (s : State) (c : Nat) (d : QEntry) : EncJob :=
  let w2 := d.w 2
  let link := bits w2 0 10
  let f := s.rdN Reg.FRAME_COUNT_count
  let car := s.carrier link
  { ticket := d.ticket, desc := d.addr, input := d.w 1, link := link, plot := bits w2 10 11,
    bearing := bits w2 21 9, wm := bits w2 30 4, waitWm := bit w2 34, noRef := bit (d.w 0) 7, frame := f, next := 0,
    produced := 0, fails := 0, stopped := false, onto := false, carrier := car,
    refs := (s.clu c).refBlocks (bits w2 10 11) (bits w2 21 9) f car }

/-- R244: an ENCODE that the encoder has read begins, or has an error. -/
def State.encodeStart (s : State) (c : Nat) (d : QEntry) : State :=
  if s.encodeBad c d then (s.encResult d 8 0 0).finishHead (encKey c) d
  else
    let j := s.encodeJob c d
    (s.setClu c { (s.clu c).openRef j with job := some j }).wrN (Reg.ENC_STATUS_state c) 1

/-- ENCODE (R244): the idle encoder of cluster c starts the descriptor at the head of its queue. -/
def execEncode (c : Nat) (s : State) : Host.Outcome State Fault Refusal :=
  if s.par.clusters ≤ c then .refused .noSuchUnit
  else if (s.clu c).job.isSome || (s.clu c).failed || s.gated || s.encState c == 3 then .next s
  else s.withDesc .encoder (encKey c) 2 c 5 (fun d => bits (s.dword d 0) 5 2 == 0) (·.encFault c) fun d s => s.encodeStart c d

/-! ### Block rows (R226 to R234) -/

/-- R226: block row, colour and block column of block `i` of a slab. -/
def slabBlock (i : Nat) : Nat × Nat × Nat := (i / 12, i % 12 / 4, i % 4)

/-- R226, R227: the samples of block `i` of a slab, where `b` is the input of its block row: 16 hogel rows of 64 rays. -/
def slabSamples (b : Bytes) (i : Nat) : List Nat :=
  let (_, k, c) := slabBlock i
  (List.range 256).map fun n => fieldLe b (6 * (n / 16 * 64 + 16 * c + n % 16) + 2 * k) 2

/-- Bytes of a slab's input in a block row (R227). -/
def rowBytes : Nat := 6144

/-- R233, R333: the input of block row `d` of the job is complete. -/
def State.rowReady (s : State) (c : Nat) (j : EncJob) (d : Nat) : Bool :=
  !j.waitWm ||
    (s.rdN (Reg.WM_STATE_plot c j.wm) == j.plot && s.rdN (Reg.WM_STATE_bearing c j.wm) == j.bearing &&
      decide (16 * d + 16 ≤ s.rdN (Reg.WM_STATE_rows c j.wm)))

/-- R228, R230, R239: the predictors the job may try for block `i`. -/
def State.permitted (s : State) (c : Nat) (j : EncJob) (i : Nat) : List Nat :=
  let mask := s.efN (Reg.ENC_CTRL_pred_mask c)
  let ref := !j.onto && !j.noRef && j.bearing % max 1 (s.efN (Reg.ENC_CTRL_ref_span c)) != 0 && (Tab.find j.refs i).isSome
  (List.range 4).filter fun p => bit mask p && (p != 3 || ref)

/-- The job on the link that carries its slabs now (R486): no block placed on another link is a reference (R228). -/
def State.moveJob (s : State) (c : Nat) (j : EncJob) : EncJob × State :=
  let m := s.carrier j.link
  if m = j.carrier then (j, s)
  else
    let j := { j with carrier := m, refs := [] }
    (j, s.setClu c ((s.clu c).openRef j))

/-- The bytes that a block adds to the slab buffer: the header of a new packet, and the block (R456, R457). -/
def State.blockBytes (s : State) (c : Nat) (j : EncJob) (b : Bytes) : Bytes :=
  if s.openLen j.link c = 0 then s.slabHeader j ++ b else b

/-- R455: the cells that `n` more bytes add to the packet that cluster c fills on link m. -/
def State.moreCells (s : State) (m c n : Nat) : Nat := packetCells (s.openLen m c + n) - packetCells (s.openLen m c)

/-- R228, R234, R236: a block is placed. -/
def State.placeBlock (s : State) (c : Nat) (j : EncJob) (samples : List Nat) (b : Bytes) : EncJob × State :=
  let w := s.blockBytes c j b
  let s := (s.charge j.carrier (s.moreCells j.link c w.length)).ringPlace j.link c w
  let s := (s.bump (Reg.ENC_CNT_blocks c) 1).bump (Reg.ENC_CNT_raw_blocks c) (b2n (isRawBlock b))
  let x := s.clu c
  let k := refKey j.plot j.bearing
  let s := if j.onto then s
    else match Tab.find x.refs k with
      | some r => s.setClu c { x with refs := Tab.set x.refs k { r with blocks := Tab.set r.blocks j.next samples } }
      | none => s
  ({ j with next := j.next + 1, produced := j.produced + b.length }, s)

/-- R232: a block that fails its self-check. -/
def State.checkFailed (s : State) (c : Nat) (j : EncJob) : State :=
  (s.bump (Reg.ENC_CNT_verify_fail c) 1).raise (.cluster (s.logical c)) 0x0012 1 0x13 c
    (j.link + j.plot * 2 ^ 10 + j.bearing * 2 ^ 21) j.next

/-- R230, R232: the coding of block `i` of a job whose row input is `b`, and whether it passes its self-check. -/
def State.codedBlock (s : State) (c : Nat) (j : EncJob) (b : Bytes) : Bytes × Bool :=
  let x := slabSamples b j.next
  let ref := Tab.get [] j.refs j.next
  let e := encodeBlock 16 (s.permitted c j j.next) ref x
  if verifies 16 ref x e then (e, true) else (rawBlock 16 x, false)

/-- R230, R232, R236: up to `n` more blocks of the row are coded, checked and placed; the encoder waits while the slab buffer has
no room (log 77). -/
def State.codeBlocks (s : State) (c : Nat) (input : Bytes) : Nat → EncJob → State
  | 0, j =>
    if j.next = 48 then (s.endJob c j 0).jobOver c else s.setJob c (some j)
  | n + 1, j =>
    let (b, good) := s.codedBlock c j input
    let w := s.blockBytes c j b
    if !s.slabRoom j.link w.length then s.setJob c (some j)
    else
      let s := if good then s else s.checkFailed c j
      let j := { j with fails := j.fails + b2n (!good) }
      if !s.fits j.carrier (s.moreCells j.link c w.length) then s.stopJob c j
      else
        let (j, s) := s.placeBlock c j (slabSamples input j.next) b
        if !good && 4 ≤ j.fails then (s.setJob c (some j)).encFault c
        else s.codeBlocks c input n j

/-- ENCODER_BLOCK_ROW (R230 to R237): the next block row of the job of cluster c, once its input is complete. -/
def execEncoderBlockRow (c : Nat) (s : State) : Host.Outcome State Fault Refusal :=
  if s.par.clusters ≤ c then .refused .noSuchUnit
  else match (s.clu c).job with
    | none => .next s
    | some j =>
      if j.stopped || s.encState c != 1 || s.stopped || s.gated || !s.rowReady c j (j.next / 12) then .next s
      else match s.readMem .encoder (j.input + rowBytes * (j.next / 12)) rowBytes with
        | (some b, t) =>
          let (j, t) := t.moveJob c j
          .next (s.orWait (t.codeBlocks c b (12 - j.next % 12) j))
        | (none, t) => .next (s.orWait (t.encFault c))

/-- ENCODER_STALL (R553): the encoder holds a job with room and input and places nothing for 2 µs. Waiting for room in the slab
buffer is no such stall (log 77): 524 bytes hold a header and the longest block. -/
def execEncoderStall (c : Nat) (s : State) : Host.Outcome State Fault Refusal :=
  if s.par.clusters ≤ c then .refused .noSuchUnit
  else match (s.clu c).job with
    | none => .next s
    | some j =>
      if j.stopped || s.encState c != 1 || !s.rowReady c j (j.next / 12) || !s.slabRoom j.link 524 then .next s
      else .next (s.encFault c)

/-! ### Controls (R238 to R241) -/

/-- R238: the control descriptor of op `op` that the encoder acts on: behind the stopped job, or at the head of the queue
when no job is in hand. -/
def State.control (s : State) (c op : Nat) : Option QEntry :=
  let open_ := (s.engQ (encKey c)).entries.filter fun e => !e.fin && !e.done
  let first := match (s.clu c).job with
    | none => open_.head?
    | some j => if j.stopped then (open_.filter fun e => e.ticket != j.ticket || j.onto).head? else none
  if s.stopped || s.gated || (s.clu c).failed then none
  else match first with
    | some d => if bits (s.dword d 0) 5 2 = op then some d else none
    | none => none

/-- R238, R252: the encoder acts on a control descriptor once it has read it. -/
def State.withControl (s : State) (c op : Nat) (body : QEntry → State → State) : Host.Outcome State Fault Refusal :=
  if s.par.clusters ≤ c then .refused .noSuchUnit
  else match s.control c op with
    | none => .next s
    | some d =>
      match s.startDesc .encoder (encKey c) 5 d with
      | (none, t) => .next (s.orWait (t.encFault c))
      | (some d, t) => .next (s.orWait (body d t))

/-- R244: a control descriptor is done, with outcome 7, or 5 when there was no stopped job. -/
def State.endControl (s : State) (c : Nat) (d : QEntry) (outcome : Nat) : State :=
  ((s.putWord .encoder d 3 outcome).putWord .encoder d 4 0).finishHead (encKey c) d

/-- ABANDON of the stopped job, or of one that PARK may not keep (R238, R240). -/
def State.abandonJob (s : State) (c : Nat) (j : EncJob) (outcome : Nat) : State :=
  ((s.endJob c j outcome).stopNote c j.link outcome).jobOver c

/-- R238: the stopped job goes on, with a grant. -/
def State.resumeJob (s : State) (c : Nat) (j : EncJob) (grant : Nat) : State :=
  let s := (s.grantBytes (s.carrier j.link) grant).setJob c (some { j with stopped := false })
  ((s.bump (Reg.ENC_CNT_resumed c) 1).stopNote c j.link 7).wrN (Reg.ENC_STATUS_state c) 1

/-- R238, R239: the remainder of the stopped job is kept. -/
def State.parkJob (s : State) (c : Nat) (j : EncJob) : State :=
  let s := match s.encEntry c j.ticket with
    | some e => (s.encResult e 2 j.next j.produced).finishHead (encKey c) e
    | none => s
  let s := s.setClu c { s.clu c with job := none, parked := some { j with onto := true, refs := [] } }
  let s := ((s.wrN (Reg.ENC_STATUS_state c) 0).wrN (Reg.ENC_STATUS_parked c) 1).bump (Reg.ENC_CNT_parked c) 1
  s.stopNote c j.link 2

/-- RESUME (R238). -/
def execResume (c : Nat) (s : State) : Host.Outcome State Fault Refusal :=
  s.withControl c 1 fun d s =>
    match (s.clu c).job with
    | none => s.endControl c d 5
    | some j => (s.resumeJob c j (bits (d.w 2) 0 32)).endControl c d 7

/-- PARK (R238, R240): the remainder is kept, unless one is kept already or the job is one itself. -/
def execPark (c : Nat) (s : State) : Host.Outcome State Fault Refusal :=
  s.withControl c 2 fun d s =>
    match (s.clu c).job with
    | none => s.endControl c d 5
    | some j =>
      (if j.onto || (s.clu c).parked.isSome then s.abandonJob c j 3 else s.parkJob c j).endControl c d 7

/-- ABANDON (R238). -/
def execAbandon (c : Nat) (s : State) : Host.Outcome State Fault Refusal :=
  s.withControl c 3 fun d s =>
    match (s.clu c).job with
    | none => s.endControl c d 5
    | some j => (s.abandonJob c j 3).endControl c d 7

/-- R238, R241: a period starts: a stopped job is abandoned, and a remainder may run in the new window. -/
def State.encPeriodStart (s : State) (c : Nat) : State :=
  let s := match (s.clu c).job with
    | some j => if j.stopped then s.abandonJob c j 4 else s
    | none => s
  match (s.clu c).parked with
  | some p => (s.setClu c { s.clu c with parked := some { p with stopped := false } }).startRemainder c
  | none => s

/-- R243: the encoder is lost with its cluster. -/
def State.encLost (s : State) (c : Nat) : State :=
  let s := match (s.clu c).job with
    | some j =>
      let s := s.endJob c j 6
      (if j.stopped then s.stopNote c j.link 6 else s).setJob c none
    | none => s
  let s := match (s.clu c).parked with
    | some p => (s.endJob c p 6).setClu c { s.clu c with parked := none }
    | none => s
  s.encFault c

/-- R238, R509: the job in hand holds back the period start: it is one of the running frame that is stopped, or it has been
resumed, and its link has bytes granted. -/
def State.encHolds (s : State) (c : Nat) : Bool :=
  match (s.clu c).job with
  | some j => if j.stopped then !j.onto else decide (0 < (s.lnk (s.carrier j.link)).granted)
  | none => false

/-- R508: an encoder job of the running frame is neither completed nor stopped. -/
def State.encBusy (s : State) (c : Nat) : Bool :=
  match (s.clu c).job with
  | some j => !j.stopped
  | none => (s.engQ (encKey c)).entries.any fun e => !e.fin && !e.done

end Sys2Proof.Machine
end

