-- ==== Sys2Proof/Machine/Image.lean ====
section
/-! DEFINITION. Images as the block holds them (R106 to R110, R579), the start of sequencers (R66, R67), and where a cluster
stands (R29, R667). -/
namespace Sys2Proof.Machine
open Sys2Proof

/-- The loaded image whose header lies at an address. -/
def State.imageAt (s : State) (a : Nat) : Option LoadedImage := s.trust.images.find? fun i => i.header == a

/-- The active frame program. -/
def State.program (s : State) : Option LoadedImage := s.imageAt (s.rdN Reg.MSH_PROG_active)

/-- R107: the section of a type. The spec does not say which of several sections of one type an entry offset or g2 refers to;
the model takes the first (DESIGN CHOICE, log 61). -/
def LoadedImage.section_ (i : LoadedImage) (ty : Nat) : Option ImageSection := i.sections.find? fun x => x.type == ty

/-- R66: the data section's address, 0 for none. -/
def LoadedImage.data (i : LoadedImage) : Nat := match i.section_ 3 with | some x => x.load | none => 0

/-- R106: the marshal's and the clusters' entry points. -/
def LoadedImage.marshalEntry (i : LoadedImage) : Nat :=
  match i.section_ 1 with | some x => x.load + fieldLe i.blob 0x20 4 | none => 0
def LoadedImage.clusterEntry (i : LoadedImage) : Nat :=
  match i.section_ 2 with | some x => x.load + fieldLe i.blob 0x24 4 | none => 0

/-- R66, R67: the sequencer of cluster c starts the cluster program with logical index `l`. -/
def State.startCluster (s : State) (c l : Nat) : State :=
  match s.program with
  | some i => (s.startSeq (c + 1) l i.data i.clusterEntry).setClu c { s.clu c with startDue := false }
  | none => s

/-- R66, R110: every sequencer starts the active program. -/
def State.startAll (s : State) : State :=
  match s.program with
  | some i => s.serving.foldl (fun s c => s.startCluster c (s.logical c)) (s.startSeq 0 0 i.data i.marshalEntry)
  | none => s

/-! ### Spares (R29, R67, R344, R667) -/

/-- R667: the spares of a part, spare 0 first. -/
def sparesOf (p : Params) : List Nat :=
  if p.fieldDies = 2 then [32, 33, 66, 67] else (List.range p.spare).map (p.active + ·)

/-- R29, R667: the field die of a physical cluster. -/
def clusterDie (p : Params) (c : Nat) : Nat := if p.fieldDies = 2 ∧ 34 ≤ c then 1 else 0

/-- R349: spare number `i` is idle. -/
def State.spareIdle (s : State) (i : Nat) : Bool := bit (s.rdN Reg.TRV_SPARE_idle) i

/-- R344: the idle spare that takes over from physical cluster c. -/
def State.chooseSpare (s : State) (c : Nat) : Option Nat :=
  let idle := (List.range 4).filter s.spareIdle
  let phys := idle.filterMap fun i => (sparesOf s.par)[i]?
  match phys.find? fun x => clusterDie s.par x == clusterDie s.par c with
  | some x => some x
  | none => phys.head?

/-- A spare is idle no longer. -/
def State.takeSpare (s : State) (phys : Nat) : State :=
  match (sparesOf s.par).findIdx? (· == phys) with
  | some i => if s.spareIdle i then s.wrN Reg.TRV_SPARE_idle (s.rdN Reg.TRV_SPARE_idle - 2 ^ i) else s
  | none => s

/-- R344: an idle spare is given logical index `l`; none when no spare is idle. It is idle no longer (R104), its program is
yet to start (R67), and it takes the clock gear that the governor has decided for the index (R170, R542). -/
def State.assignSpare (s : State) (from_ l : Nat) : Option Nat × State :=
  match s.chooseSpare from_ with
  | some c =>
    let s := (((s.takeSpare c).wrN (Reg.SEQ_STATUS_logical c) l).wrN (Reg.SEQ_STATUS_state c) 0).bump Reg.TRV_SPARE_taken 1
    (some c, s.setClu c { s.clu c with startDue := true, gearNext := (s.clu from_).gearNext })
  | none => (none, s)

end Sys2Proof.Machine
end

