-- ==== Sys2Proof/Machine/Ray.lean ====
section
/-! DEFINITION. The arithmetic of one ray, fixed to the bit (R40 to R60, R353): pixels, tangents, shear, sampling, sheen,
composition, and steps 1 to 3 and the shares of correction. -/
namespace Sys2Proof.Machine
open Sys2Proof

/-- R40: a layer pixel. Bits [79:72] count as zero (R41). -/
structure Pixel where
  r : Nat
  g : Nat
  b : Nat
  alpha : Nat
  su : Int
  sv : Int
  suu : Int
  flat : Bool
  guard : Bool
  deriving DecidableEq, Repr

/-- R40: the pixel that 80 bits hold. -/
def pixelOf (v : Nat) : Pixel :=
  ⟨bits v 0 12, bits v 12 12, bits v 24 12, bits v 36 10, signed 8 (bits v 46 8), signed 8 (bits v 54 8),
    signed 8 (bits v 62 8), bit v 70, bit v 71⟩

/-- R45: the tangent of column or row `i` of `n`, for the half-field tangent `t`. -/
def tangent (i n t : Nat) : Int := roundHalfUp ((2 * (i : Int) + 1 - n) * t) n

/-- R46: the shift of a layer of disparity `d` at tangent `t`, before the clamp. -/
def rawShift (d t : Int) : Int := roundHalfUp (d * t) 16384

/-- R47: the shift of a layer. -/
def shift (d t : Int) : Int := clampI (rawShift d t) (-2048) 2048

/-- R47: the clamp acts. -/
def shiftClamps (d t : Int) : Bool := shift d t != rawShift d t

/-- R48: whole and fractional parts of the sample position of hogel `x` of a plot, in its patch (R314). -/
def samplePos (x : Nat) (s : Int) : Nat × Nat :=
  let p := 64 * ((x : Int) + 32) + s
  ((p.fdiv 64).toNat, (p % 64).toNat)

/-- R49, R50: the pixels of non-zero weight around a sample position, in the order p00, p10, p01, p11, with their weights. -/
def corners (layer : Nat → Nat → Pixel) (u fx v fy : Nat) : List (Nat × Pixel) :=
  ([((64 - fx) * (64 - fy), u, v), (fx * (64 - fy), u + 1, v), ((64 - fx) * fy, u, v + 1),
    (fx * fy, u + 1, v + 1)].filter fun c => c.1 != 0).map fun (w, i, j) => (w, layer i j)

/-- R49: a sampled channel. -/
def bilinear (cs : List (Nat × Pixel)) (ch : Pixel → Nat) : Nat := ((cs.map fun (w, p) => w * ch p).sum + 2048) / 4096

/-- R51: the dominant pixel: the first of the largest weight. -/
def dominant (cs : List (Nat × Pixel)) : Pixel :=
  (cs.foldl (fun m c => if m.1 < c.1 then c else m) (0, pixelOf 0)).2

/-- What composition takes of the bearing: its tangents and Kq. -/
structure Bearing where
  th : Int
  tv : Int
  kq : Int
  deriving DecidableEq, Repr

/-- R52. -/
def kqOf (tanH : Nat) : Nat := tanH * tanH / 49152

/-- R53: the sheen factor of a pixel. -/
def sheenFactor (p : Pixel) (b : Bearing) : Nat :=
  let q := sar (b.th * b.th) 14
  (clampI (1024 + sar (p.su * b.th + p.sv * b.tv + p.suu * (q - b.kq)) 12) 0 2047).toNat

/-- R53: a colour with sheen. -/
def sheen (p : Pixel) (b : Bearing) (c : Nat) : Nat :=
  if p.flat then c else min 4095 ((c * sheenFactor p b + 512) / 1024)

/-- R54: a colour blended over another. -/
def blendOver (alpha s d : Nat) : Nat := (alpha * s + (1023 - alpha) * d + 511) / 1023

/-- R53, R54, R353: one layer over a ray, at hogel (x, y) of the plot. -/
def addLayer (b : Bearing) (x y : Nat) (r : Ray) (disp : Int) (layer : Nat → Nat → Pixel) : Ray :=
  let (u, fx) := samplePos x (shift disp b.th)
  let (v, fy) := samplePos y (shift disp b.tv)
  let cs := corners layer u fx v fy
  let p := dominant cs
  let a := bilinear cs Pixel.alpha
  let c := [bilinear cs Pixel.r, bilinear cs Pixel.g, bilinear cs Pixel.b].map (sheen p b)
  ⟨(c.zip r.d).map fun (s, d) => blendOver a s d, if a = 0 then r.guard else p.guard⟩

/-- R54, R350: a ray from its background and its layers, farthest first. -/
def composite (b : Bearing) (x y : Nat) (bg : List Nat) (layers : List (Int × (Nat → Nat → Pixel))) : Ray :=
  layers.foldl (fun r (disp, layer) => addLayer b x y r disp layer) ⟨bg, false⟩

/-! ### Correction steps 1 to 3, and concealment (R57 to R59) -/

/-- R57 step 1: the vignette. -/
def vignette (d gain : Nat) : Nat := min 4095 ((d * gain + 1024) / 2048)

/-- R57 step 2: one row of the colour matrix. -/
def matrixRow (m : List Int) (c : List Nat) : Nat :=
  (clampI (sar (((m.zip c).map fun (a, x) => a * (x : Int)).sum + 4096) 13) 0 4095).toNat

/-- R57 step 3: the zone ceiling. -/
def zoneCeiling (c z : Nat) : Nat := min 4095 ((c * z + 16384) / 32768)

/-- R57 step 5: a gait gain. -/
def gaitGain (c g : Nat) : Nat := min 4095 ((c * g + 1024) / 2048)

/-- R57, steps 1 to 3 of a ray: vignette gains, matrix rows and zone ceiling. -/
def stepsToThree (gains : List Nat) (m : List (List Int)) (z : Nat) (d : List Nat) : List Nat :=
  let c1 := (d.zip gains).map fun (x, g) => vignette x g
  m.map fun row => zoneCeiling (matrixRow row c1) z

/-- R58: what a dead emitter at column `h'` of H columns, with the value `e`, passes to its neighbour. -/
def share (bigH h' e : Nat) : Nat := if h' = 0 ∨ h' + 1 = bigH then e else e / 2

/-- R58: the columns whose dead emitters pass to column `h`. -/
def neighbours (bigH h : Nat) : List Nat := (if h = 0 then [] else [h - 1]) ++ (if h + 1 < bigH then [h + 1] else [])

/-! ### Load classes (R391) -/

/-- R391: the load class of a mean drive code. -/
def loadClass (m : Nat) : Nat := if m = 0 then 0 else min 15 (Nat.log2 (m * m) - 16)

end Sys2Proof.Machine
end

