-- ==== Sys2Proof/Machine/Gait.lean ====
section
/-! DEFINITION. The coefficients of correction (R370 to R374, R381 to R383) and gait compensation (R390 to R409). -/
namespace Sys2Proof.Machine
open Sys2Proof

/-! ### Coefficients -/

/-- `n` bytes of the active copy of the correction window, as a number. -/
def State.corrWord (s : State) (off n : Nat) : Nat :=
  leNat ((List.range n).map fun i => corrByte s.corr.active (off + i))

/-- R371: an entry of the tile table. -/
structure TileCoef where
  m : List (List Int)
  type : Nat
  set : Nat
  zone : Nat
  deriving DecidableEq, Repr

/-- R370, R371: the entry of tile `k` in the active tile table. -/
def State.tileCoef (s : State) (k : Nat) : TileCoef :=
  ⟨(List.range 3).map fun i => (List.range 3).map fun j => signed 16 (s.corrWord (32 * k + 6 * i + 2 * j) 2),
    s.corrWord (32 * k + 18) 1 % 4, s.corrWord (32 * k + 19) 1 % 16, s.corrWord (32 * k + 20) 1 % 64⟩

/-- R372: the vignette gains of type `t` at bearing `b`. -/
def State.vigGains (s : State) (t b : Nat) : List Nat :=
  (List.range 3).map fun c => s.corrWord (0x10000 + 0x1000 * t + 6 * b + 2 * c) 2 % 4096

/-- R373: the LUT entry of a set and a colour. -/
def State.lut (s : State) (set c i : Nat) : Nat := s.corrWord (0x100000 + 0x6000 * set + 0x2000 * c + 2 * i) 2

/-- R374: the ceiling of a zone, latched at the start of the period. -/
def State.zoneZ (s : State) (n : Nat) : Nat := min (s.efN (Reg.ZONE_CEIL_ceil n)) (s.efN (Reg.GOV_ZONE_ceil n))

/-- R382: the entries that the correction stage takes, and how many it ignores for their key. -/
def takeFaults (hv : Nat) : Option Nat → List Nat → List Nat × Nat
  | _, [] => ([], 0)
  | last, v :: t =>
    if v % 4 = 3 ∨ hv ≤ bits v 14 9 then takeFaults hv last t
    else if last.any (v ≤ ·) then
      let (l, n) := takeFaults hv last t
      (l, n + 1)
    else
      let (l, n) := takeFaults hv (some v) t
      (v :: l, n)

/-- R381: the key of the emitter of hogel `x`, bearing `b` and colour `c`. -/
def emitterKey (x b c : Nat) : Nat := c + 4 * x + 2 ^ 14 * b

/-! ### The ledger (R393, R394) -/

/-- R394. -/
structure GaitEntry where
  old : Nat
  target : Nat
  step : Nat
  band : Nat
  mark : Bool
  run : Bool
  meas : Nat
  tag : Nat
  deriving DecidableEq, Repr

/-- R394: the entry that a ledger word holds. -/
def gaitOf (w : Nat) : GaitEntry :=
  ⟨bits w 0 4, bits w 4 4, bits w 8 6, bits w 14 2, bit w 16, bit w 17, bits w 18 4, bits w 22 2⟩

/-- R394: the ledger word of an entry. -/
def GaitEntry.word (e : GaitEntry) : Nat :=
  e.old + 2 ^ 4 * e.target + 2 ^ 8 * e.step + 2 ^ 14 * e.band + 2 ^ 16 * b2n e.mark + 2 ^ 17 * b2n e.run +
    2 ^ 18 * e.meas + 2 ^ 22 * e.tag

/-- R393: the address of a plot's ledger, and of its record. -/
def State.ledgerAt (s : State) (p : Nat) : Nat := 64 * s.efN Reg.GAIT_BASE_ledger + 16384 * p
def State.plotRecAt (s : State) (p : Nat) : Nat := 64 * s.efN Reg.GAIT_BASE_plots + 16 * p

/-- R402, R404: the head and the lengths of a gait table. -/
structure GaitTable where
  base : Nat
  rebase : Bool
  restart : Bool
  lens : Bytes
  deriving DecidableEq, Repr

/-- R402: the index of a waveform. -/
def waveform (o g d : Nat) : Nat := 4 * (16 * o + g) + d

/-- R402, R404: the length of a waveform. -/
def GaitTable.len (t : GaitTable) (o g d : Nat) : Nat := min 64 (t.lens.getD (waveform o g d) 0).toNat

/-- R402: the table of a tile type, as memory holds it. -/
def State.gaitTable (s : State) (type : Nat) : GaitTable :=
  let a := 64 * s.efN (Reg.GAIT_TYPE_table type)
  let h := (s.byte a).toNat
  ⟨a, bit h 0, bits h 1 2 == 1, s.bytes (a + 64) 1024⟩

/-- R403: where the gains of a step of a waveform begin: the byte, and the bit in it. -/
def GaitTable.gainAt (t : GaitTable) (e : GaitEntry) : Nat × Nat :=
  (t.base + 1088 + 288 * waveform e.old e.target e.band + 36 * e.step / 8, 36 * e.step % 8)

/-- R400, R403: the gains of a step of a waveform. -/
def State.gaitGains (s : State) (t : GaitTable) (e : GaitEntry) : List Nat :=
  (List.range 3).map fun c => bits (s.word (t.gainAt e).1 6) ((t.gainAt e).2 + 12 * c) 12

/-! ### The advance (R398, R399) -/

/-- R398: frames since the entry's last advance. -/
def framesSince (record k tag : Nat) : Nat :=
  if record = 2 ^ 64 - 1 then 64
  else k - (record + (tag + 4 - record % 4) % 4)

/-- What an advance adds to the counts of GAIT_CNT. -/
structure GaitCounts where
  starts : Nat
  reentries : Nat
  rebases : Nat
  deriving DecidableEq, Repr

/-- R399, the first part: the running waveform steps, ends, or moves to the tile's band. -/
def GaitEntry.stepOn (t : GaitTable) (n tileBand : Nat) (e : GaitEntry) : GaitEntry × Nat :=
  if e.run then
    if t.len e.old e.target e.band ≤ e.step + n then ({ e with run := false, step := 0, mark := false }, 0)
    else
      let e := { e with step := e.step + n }
      if t.rebase && e.band != tileBand then ({ e with band := tileBand }, 1) else (e, 0)
  else (e, 0)

/-- R399, the second part: a class that is not the target. -/
def GaitEntry.retarget (t : GaitTable) (tileBand : Nat) (e : GaitEntry) : GaitEntry × Nat × Nat :=
  if e.meas = e.target then (e, 0, 0)
  else if !e.run then
    let e := { e with old := e.target, target := e.meas, step := 0, band := tileBand, mark := false }
    let go := decide (0 < t.len e.old e.target e.band)
    ({ e with run := go }, b2n go, 0)
  else if !t.restart then
    let e := { e with target := e.meas, mark := true }
    (if t.len e.old e.target e.band ≤ e.step then { e with run := false, step := 0, mark := false } else e, 0, 1)
  else
    let e := { e with old := e.target, target := e.meas, step := 0, band := tileBand, mark := true }
    (if t.len e.old e.target e.band = 0 then { e with run := false, mark := false } else e, 0, 1)

/-- R399: the advance of an entry by `n` frames to frame `k`. -/
def GaitEntry.advance (t : GaitTable) (n k tileBand : Nat) (e : GaitEntry) : GaitEntry × GaitCounts :=
  let (e, rebases) := e.stepOn t n tileBand
  let (e, starts, reentries) := e.retarget t tileBand
  ({ e with tag := k % 4 }, ⟨starts, reentries, rebases⟩)

/-- R410: the band latched for a tile. -/
def State.tileBand (s : State) (k : Nat) : Nat := bits (s.rdN (Reg.GAIT_BANDS_bands (k / 32))) (2 * (k % 32)) 2

/-- R399, R401: the waveforms whose lengths an advance by `n` frames looks up. -/
def GaitEntry.looksUp (t : GaitTable) (n tileBand : Nat) (e : GaitEntry) : List Nat :=
  let e' := (e.stepOn t n tileBand).1
  (if e.run then [waveform e.old e.target e.band] else []) ++
    (if e'.meas = e'.target then []
     else if !e'.run then [waveform e'.target e'.meas tileBand]
     else if !t.restart then [waveform e'.old e'.meas e'.band]
     else [waveform e'.target e'.meas tileBand])

/-- The advance of one hogel: its entry afterwards, the frames it advanced by, what the counts gain, and the 8-byte groups of the
table that it needs. -/
structure GaitStep where
  entry : GaitEntry
  n : Nat
  counts : GaitCounts
  needs : List Nat

/-- R398 to R401: the advance of hogel entry `w` of a plot whose record holds frame `record`, in frame `k`. An entry already
advanced in the frame keeps as it stands, and gains are read for a running waveform of an enabled type. -/
def GaitTable.step (t : GaitTable) (enabled : Bool) (record k tileBand w : Nat) : GaitStep :=
  let e := gaitOf w
  let n := framesSince record k e.tag
  let (e', c) := if n = 0 then (e, ⟨0, 0, 0⟩) else e.advance t n k tileBand
  ⟨e', n, c, (if n = 0 then [] else (e.looksUp t n tileBand).map fun x => (t.base + 64 + x) / 8 * 8) ++
    (if enabled && e'.run then groupsOf (t.gainAt e').1 6 else [])⟩

/-- R390, R400: the gains of the hogels that take a waveform's. -/
def State.gainsOf (s : State) (t : GaitTable) (enabled : Bool) (l : List GaitStep) : Tab (List Nat) :=
  if enabled then ((List.range l.length).zip l).filterMap fun (x, g) => if g.entry.run then some (x, s.gaitGains t g.entry) else none
  else []

/-- R398 to R401, R407: every hogel of a plot advances, in raster order, and the plot's record follows the last. Where the
ledger or the table cannot be read, the advance ends before the hogel that needs it, and the record keeps its frame. The answer
holds the gains of the frame. -/
def State.gaitAdvance (s : State) (p : Nat) : Option (Tab (List Nat)) × State :=
  let tile := s.tileOf p
  let k := s.rdN Reg.FRAME_COUNT_count
  let type := (s.tileCoef tile).type
  let t := s.gaitTable type
  let enabled := s.ef (Reg.GAIT_TYPE_enable type) == 1
  let r := s.word (s.plotRecAt p) 8
  let all := (List.range 4096).map fun x => t.step enabled r k (s.tileBand tile) (s.word (s.ledgerAt p + 4 * x) 4)
  let lost := fun a => s.serve a == .lost
  let done := if lost (s.plotRecAt p) || lost t.base then []
    else ((List.range 4096).zip all).takeWhile fun (x, g) => !lost ((s.ledgerAt p + 4 * x) / 8 * 8) && !g.needs.any lost
  let part := done.map (·.2)
  let tried := all.take (part.length + 1)
  let s' := ((s.readMem .gait (s.plotRecAt p) 16).2.readMem .gait t.base 8).2
  let s' := (s'.readMem .gait (s.ledgerAt p) (4 * tried.length)).2
  let s' := (tried.flatMap (·.needs)).eraseDups.foldl (fun s a => (s.readMem .gait a 8).2) s'
  let s' := s'.writeMem .gait (s.ledgerAt p) (part.flatMap fun g => leBytes 4 g.entry.word)
  let s' := ((s'.bump Reg.GAIT_CNT_starts (part.map (·.counts.starts)).sum).bump Reg.GAIT_CNT_reentries
    (part.map (·.counts.reentries)).sum).bump Reg.GAIT_CNT_rebases (part.map (·.counts.rebases)).sum
  let s' := s'.bump Reg.GAIT_CNT_catchup (b2n (part.any fun g => 2 ≤ g.n))
  if part.length < 4096 then (none, s')
  else (some (s.gainsOf t enabled part), s'.writeMem .gait (s.plotRecAt p) (leBytes 8 k))

/-- R391, R392: the class of each hogel of a finished plot is written into its entry, which the stage holds since the plot's
advance, and then the frame in the plot's record. -/
def State.gaitMeasure (s : State) (p : Nat) (sums : Tab Nat) : State :=
  let n := 3 * s.efN Reg.RAY_GEOM_bear_h * s.efN Reg.RAY_GEOM_bear_v
  let led := (List.range 4096).flatMap fun x =>
    let e := gaitOf (s.word (s.ledgerAt p + 4 * x) 4)
    leBytes 4 { e with meas := loadClass (Tab.get 0 sums x / n) }.word
  (s.writeMem .gait (s.ledgerAt p) led).writeMem .gait (s.plotRecAt p + 8) (leBytes 8 (s.rdN Reg.FRAME_COUNT_count))

/-! ### Boot, rest and bands (R395 to R397, R409) -/

/-- R395: the ledger is zero and every record is all ones. -/
def State.gaitInit (s : State) : State :=
  let zero := (List.range s.par.plots).foldl (fun s p =>
    s.writeMem .gait (s.ledgerAt p) (List.replicate 16384 0)) s
  (List.range s.par.plots).foldl (fun s p => s.writeMem .gait (s.plotRecAt p) (List.replicate 16 0xFF)) zero

/-- R409: at rest exit, no plot has usable history. -/
def State.gaitRestExit (s : State) : State :=
  (List.range s.par.plots).foldl (fun s p => s.writeMem .gait (s.plotRecAt p) (List.replicate 8 0xFF)) s

/-- R396: the fall of a band with 2 °C of hysteresis. -/
def fallBand (t : Int) (th : Nat → Int) : Nat → Nat
  | 0 => 0
  | b + 1 => if t < th (b + 1) - 32 then fallBand t th b else b + 1

/-- R396: the band that follows `band` at temperature `t`. -/
def nextBand (t : Int) (th : Nat → Int) (band : Nat) : Nat :=
  let up := b2n (decide (th 1 ≤ t)) + b2n (decide (th 2 ≤ t)) + b2n (decide (th 3 ≤ t))
  if band < up then up else fallBand t th band

/-- A threshold of a type in effect. -/
def State.gaitTh (s : State) (t i : Nat) : Int :=
  match i with
  | 1 => s.ef (Reg.GAIT_TH_th1 t)
  | 2 => s.ef (Reg.GAIT_TH_th2 t)
  | _ => s.ef (Reg.GAIT_TH_th3 t)

/-- The band of a tile set. -/
def State.setBand (s : State) (k b : Nat) : State :=
  let h := Reg.GAIT_BANDS_bands (k / 32)
  let w := s.rdN h
  s.wrN h (w - bits w (2 * (k % 32)) 2 * 4 ^ (k % 32) + b * 4 ^ (k % 32))

/-- R396, R397: a period starts: the report of a tile ages, and its band is latched from a report that is not stale. -/
def State.latchBand (s : State) (k : Nat) : State :=
  let x := s.tile k
  match x.temp with
  | none => s
  | some t =>
    let age := x.age + 1
    let stale := decide (s.rdN Reg.GAIT_CTRL_stale_frames < age)
    let s := s.setTile k { x with age := age, stale := stale }
    if stale then (if x.stale then s else s.bump Reg.GAIT_CNT_temp_stale 1)
    else s.setBand k (nextBand t (s.gaitTh (s.tileCoef k).type) (s.tileBand k))

/-- R396: the bands of every tile are latched. -/
def State.latchBands (s : State) : State := (List.range s.tileCount).foldl (fun s k => s.latchBand k) s

end Sys2Proof.Machine
end

