-- ==== Sys2Proof/Machine/Guard.lean ====
section
/-! DEFINITION. Guarded regions (R355 to R368): membership, signatures, outcomes, and the action on each tile. -/
namespace Sys2Proof.Machine
open Sys2Proof

/-- R355: a region in effect. -/
structure GuardRegion where
  x0 : Nat
  x1 : Nat
  y0 : Nat
  y1 : Nat
  bFirst : Nat
  bLast : Nat
  enable : Bool
  memberOnly : Bool
  deriving DecidableEq, Repr

/-- GUARD_REG[r] in effect. -/
def State.region_ (s : State) (r : Nat) : GuardRegion :=
  ⟨s.efN (Reg.GUARD_REG_x0 r), s.efN (Reg.GUARD_REG_x1 r), s.efN (Reg.GUARD_REG_y0 r), s.efN (Reg.GUARD_REG_y1 r),
    s.efN (Reg.GUARD_REG_b_first r), s.efN (Reg.GUARD_REG_b_last r), s.ef (Reg.GUARD_REG_enable r) == 1,
    s.ef (Reg.GUARD_REG_member_only r) == 1⟩

/-- R355: hogel x of plot p lies in the rectangle. -/
def GuardRegion.inside (g : GuardRegion) (w p x y : Nat) : Bool :=
  let bigX := 64 * (p % w) + x
  let bigY := 64 * (p / w) + y
  decide (g.x0 ≤ bigX) && decide (bigX ≤ g.x1) && decide (g.y0 ≤ bigY) && decide (bigY ≤ g.y1)

/-- R355: the plots of a region. -/
def State.regionPlots (s : State) (r : Nat) : List Nat :=
  let g := s.region_ r
  let w := max 1 s.sectW
  (List.range s.plots).filter fun p =>
    s.linked p && decide (64 * (p % w) ≤ g.x1) && decide (g.x0 ≤ 64 * (p % w) + 63) &&
      decide (64 * (p / w) ≤ g.y1) && decide (g.y0 ≤ 64 * (p / w) + 63)

/-- R356: the tiles of a region. -/
def State.regionTiles (s : State) (r : Nat) : List Nat :=
  (List.range s.tileCount).filter fun k => (s.regionPlots r).any fun p => s.tileOf p == k

/-- R357: the bytes of a ray's composited values. -/
def rayBytes (d : List Nat) : Bytes := d.flatMap (leBytes 2 ·)

/-- R357: the CRC before its final exclusive or, of the bytes that name a plot and a region. -/
def guardSeed (p r : Nat) : Nat := crcRun 0x82F63B78 0xFFFFFFFF (leBytes 2 p ++ leBytes 2 r)

/-- R355, R357: the rays of bearing `b` of plot `p` that belong to region `r` enter its accumulator. -/
def State.accumulate (s : State) (p b : Nat) (rays : List Ray) (acc : Tab (Nat × Nat)) (r : Nat) : Tab (Nat × Nat) :=
  let g := s.region_ r
  if !g.enable || b < g.bFirst || g.bLast < b then acc
  else
    let mine := ((List.range 4096).zip rays).filter fun (x, ray) =>
      g.inside (max 1 s.sectW) p (x % 64) (x / 64) && (!g.memberOnly || ray.guard)
    if mine.isEmpty then acc
    else
      let (c, n) := Tab.get (guardSeed p r, 0) acc r
      Tab.set acc r (crcRun 0x82F63B78 c (mine.flatMap fun (_, ray) => rayBytes ray.d), n + mine.length)

/-- R307, R358: the guard unit as a SHEAR of plot `p` from bearing `b`, in a list with frame tag `tag`, finds it: started afresh
at bearing 0, continued at the bearing it expects, otherwise of no use. -/
def State.guardBegin (s : State) (c p b tag : Nat) : Option GuardUnit :=
  if b = 0 then some ⟨p, tag, 0, [], [], true⟩
  else match (s.clu c).guard with
    | some g => if g.plot = p ∧ g.frame = tag ∧ g.next = b then some g else none
    | none => none

/-- The frame tag of the running period (R307). -/
def State.frameTag (s : State) : Nat := s.rdN Reg.FRAME_COUNT_count % 2 ^ 32

/-- R358: the accumulators of a plot finished for the running frame reach the hub. -/
def State.guardTaken (s : State) (g : GuardUnit) : State :=
  let crcs := g.crc.foldl (fun t (r, c, n) =>
    if n = 0 then t else Tab.set t (r * 2048 + g.plot) (xorNat c 0xFFFFFFFF)) s.hub.crcs
  { s with hub := { s.hub with
      crcs := crcs, finished := if s.hub.finished.contains g.plot then s.hub.finished else s.hub.finished ++ [g.plot] } }

/-- R358: a plot is finished for the frame of its tag: the running one, one still to come, whose period will find it, or one whose
outcomes are decided. -/
def State.guardSend (s : State) (g : GuardUnit) : State :=
  if g.frame = s.frameTag then s.guardTaken g
  else if (g.frame + 2 ^ 32 - s.frameTag) % 2 ^ 32 < 2 ^ 31 then { s with hub := { s.hub with early := s.hub.early ++ [g] } }
  else s

/-- R358: the plots that are finished for frame `tag`, whose period starts. -/
def State.guardEarly (s : State) (tag : Nat) : State :=
  let mine := s.hub.early.filter fun g => g.frame == tag
  mine.foldl State.guardTaken { s with hub := { s.hub with early := s.hub.early.filter fun g => g.frame != tag } }

/-- R357: the signature of a region. -/
def State.signature (s : State) (r : Nat) : Nat :=
  ((s.regionPlots r).map fun p => Tab.get 0 s.hub.crcs (r * 2048 + p)).sum % 2 ^ 32

/-! ### Outcomes (R360 to R363, R366) -/

/-- R360: a plot is stale or cold in the layer set being rendered. -/
def State.plotStale (s : State) (p : Nat) : Bool :=
  let a := s.rdN Reg.FT_COMMIT_current
  match s.setHeader a with
  | none => false
  | some _ => let w := s.setEntry a (s.entryOf p); bit w 44 || bit w 45

/-- R360: the outcome of region `r` for the running frame; `closing` says that the next period starts. None when it cannot
be decided yet. -/
def State.guardOutcome (s : State) (r : Nat) (closing : Bool) : Option Nat :=
  let ps := s.regionPlots r
  let done := ps.all s.hub.finished.contains
  if !done && !closing then none
  else if ps.any s.hub.halved.contains then some 4
  else if ps.any s.plotStale then some 5
  else match s.setSignature (s.rdN Reg.FT_COMMIT_current) r with
    | none => some 3
    | some e => if !done then some 6 else if s.signature r = e then some 1 else some 2

/-- R200, R360: the hub reads the entries of the region's plots and the expected signature. -/
def State.guardReads (s : State) (r : Nat) : State :=
  let a := s.rdN Reg.FT_COMMIT_current
  if s.setHeader a = none then s
  else
    let t := (s.regionPlots r).foldl (fun t p => t.hubRead (a + 64 + 16 * s.entryOf p) 8) s
    match s.signatureAt a r with
    | some x => t.hubRead x 4
    | none => t

/-- R362: an outcome acts as a mismatch. -/
def State.actsAsMismatch (s : State) (r o : Nat) : Bool :=
  o == 2 || ((o == 3 || o == 6) && s.ef (Reg.GUARD_REG_require r) == 1)

/-- R363: region `r` enters the acting state, with one S3 fault for the frame. -/
def State.guardActs (s : State) (r : Nat) : State :=
  let s := (s.wrN (Reg.GUARD_STAT_state r) 2).wrN (Reg.GUARD_STAT_good r) 0
  if s.hub.raised.contains r then s
  else
    let e := (s.setSignature (s.rdN Reg.FT_COMMIT_current) r).getD 0
    let s := { s with hub := { s.hub with raised := s.hub.raised ++ [r] } }
    s.raise (.region r) 0x0030 3 0x20 0 r (e + s.signature r * 2 ^ 32)

/-- R363, R366: what an outcome does to the region's state. -/
def State.guardApply (s : State) (r o : Nat) : State :=
  let acting := s.rd (Reg.GUARD_STAT_state r) == 2
  if s.actsAsMismatch r o then (if acting then s.wrN (Reg.GUARD_STAT_good r) 0 else s.guardActs r)
  else if acting then
    if o = 1 then
      let n := s.rdN (Reg.GUARD_STAT_good r) + 1
      if s.efN (Reg.GUARD_REG_good_frames r) ≤ n then
        ((s.wrN (Reg.GUARD_STAT_state r) 1).wrN (Reg.GUARD_STAT_good r) 0).recovered (.region r)
      else s.wrN (Reg.GUARD_STAT_good r) n
    else s.wrN (Reg.GUARD_STAT_good r) 0
  else s

/-- R360, R361: an outcome is recorded and counted, and acts. -/
def State.guardDecide (s : State) (r o : Nat) : State :=
  let s := { s with hub := { s.hub with decided := s.hub.decided ++ [r] } }
  let s := s.wrN (Reg.GUARD_STAT_outcome r) o
  let s := if o = 1 ∨ o = 2 then
      (s.wrN (Reg.GUARD_STAT_sig r) (s.signature r)).bump Reg.GUARD_CNT_compared 1
    else s
  let s := if s.actsAsMismatch r o then s.bump Reg.GUARD_CNT_mismatches 1
    else if o = 3 ∨ o = 4 ∨ o = 5 then s.bump Reg.GUARD_CNT_skipped 1 else s
  let s := if o = 6 then s.bump Reg.GUARD_CNT_incomplete 1 else s
  s.guardApply r o

/-- GUARD_OUTCOME (R361): outcomes 1 and 2 of region `r`, after the last of its plots is finished. -/
def execGuardOutcome (r : Nat) (s : State) : Host.Outcome State Fault Refusal :=
  if 32 ≤ r then .refused .noSuchUnit
  else if !(s.region_ r).enable || s.hub.decided.contains r || s.noPeriod then .next s
  else match s.guardOutcome r false with
    | some o => .next (if o = 1 ∨ o = 2 then s.orWait ((s.guardReads r).guardDecide r o) else s)
    | none => .next s

/-- R367: a write of GUARD_CTRL.release stands until the next period start. -/
def State.guardRelease (s : State) (v : Nat) : State :=
  { s with hub := { s.hub with release := s.hub.release ||| v } }

/-- R367: region `r` returns to normal at a period start, if its release has been written. -/
def State.guardReleased (s : State) (r : Nat) : State :=
  if bit s.hub.release r && s.rd (Reg.GUARD_STAT_state r) == 2 then
    ((s.wrN (Reg.GUARD_STAT_state r) 1).wrN (Reg.GUARD_STAT_good r) 0).recovered (.region r)
  else s

/-- R367: every release that has been written. -/
def State.guardReleaseAll (s : State) : State :=
  let s := (List.range 32).foldl State.guardReleased s
  { s with hub := { s.hub with release := 0 } }

/-- R361: the outcome of region `r` at a period start, with the values in effect for the frame that the SYNC shows. -/
def State.guardClose (s : State) (r : Nat) : State :=
  if !(s.region_ r).enable then s
  else if s.hub.decided.contains r then
    let o := s.rdN (Reg.GUARD_STAT_outcome r)
    if s.actsAsMismatch r o && s.rd (Reg.GUARD_STAT_state r) != 2 then s.guardActs r else s
  else match s.guardOutcome r true with
    | some o => (s.guardReads r).guardDecide r o
    | none => s

/-- R361, R367: every region at a period start: the releases, then the outcomes. -/
def State.guardCloseAll (s : State) : State := (List.range 32).foldl State.guardClose s.guardReleaseAll

/-- R368: region `r` is disabled, and acts no longer. -/
def State.guardStops (s : State) (r : Nat) : State :=
  ((s.wrN (Reg.GUARD_STAT_state r) 0).wrN (Reg.GUARD_STAT_good r) 0).recovered (.region r)

/-- R363, R368: the state of region `r` follows its enable in the frame that begins; it stops acting at the SYNC that shows the
first frame rendered with it disabled. -/
def State.guardEnable (shown : Bool) (s : State) (r : Nat) : State :=
  let s := if !shown && s.rd (Reg.GUARD_STAT_state r) == 2 then s.guardStops r else s
  match (s.region_ r).enable, s.rdN (Reg.GUARD_STAT_state r) with
  | true, 0 => s.wrN (Reg.GUARD_STAT_state r) 1
  | false, 1 => s.guardStops r
  | _, _ => s

/-- R368: every region at a period start; `shown r` says that region `r` is enabled in the frame that its SYNC shows. -/
def State.guardEnables (s : State) (shown : Nat → Bool) : State :=
  (List.range 32).foldl (fun s r => s.guardEnable (shown r) r) s

/-- What the hub keeps starts anew with a frame. -/
def State.hubNewFrame (s : State) : State :=
  let keep := fun l : Nat => s.fm.standing.contains (.cluster l)
  { s with hub :=
      { crcs := []
        finished := []
        halved := []
        decided := []
        release := s.hub.release
        raised := []
        clamped := []
        plots := s.hub.plots.map fun (l, a, b) => if keep l then (l, a, b) else (l, [], a),
        early := s.hub.early } }

/-! ### Tiles (R364, R365) -/

/-- Which acting regions call for what on tile `k`: none, a hold, or a pattern. -/
def State.guardMode (s : State) (k : Nat) : Option (Option Nat) :=
  let acting := (List.range 32).filter fun r =>
    (s.region_ r).enable && s.rd (Reg.GUARD_STAT_state r) == 2 && (s.regionTiles r).contains k
  match acting.find? fun r => s.ef (Reg.GUARD_REG_action r) == 1 with
  | some r => some (some (s.efN (Reg.GUARD_REG_pattern r)))
  | none => if acting.isEmpty then none else some none

end Sys2Proof.Machine
end

