-- ==== Sys2Proof/Machine/Traverse.lean ====
section
/-! DEFINITION. The block engine of a cluster: lists (R307 to R313), the SHEAR sweep (R322 to R333, R346, R382 to R385), bands
and notes (R340 to R343). -/
namespace Sys2Proof.Machine
open Sys2Proof

/-! ### The engine -/

/-- The block engine of cluster c runs. -/
def State.engineOn (s : State) (c : Nat) : Bool :=
  !s.stopped && !(s.clu c).failed && s.rd (Reg.TRV_STATUS_state c) != 3 && !s.gated

/-- TRV_STATUS: the state and what the engine waits for. -/
def State.setTrv (s : State) (c st wait : Nat) : State := (s.wrN (Reg.TRV_STATUS_state c) st).wrN (Reg.TRV_STATUS_wait c) wait

/-- R252: an uncorrectable read leaves the engine in state 3. -/
def State.engineLost (s : State) (c : Nat) : State := s.setTrv c 3 0

/-- R307: a list ends: its result is written, and its descriptor's work is done. -/
def State.endList (s : State) (c : Nat) (r : ListRun) (status code : Nat) : State :=
  let key := qKey 0 c r.queue
  let s := match (s.engQ key).entries.find? fun e => e.ticket == r.desc with
    | some d =>
      (s.putWord .traverse d 3
        (status + code * 2 ^ 8 + r.index % 2 ^ 16 * 2 ^ 16 + r.completed % 2 ^ 32 * 2 ^ 32)).finishHead key d
    | none => s
  let s := s.setClu c { s.clu c with list := none, sweep := none, bandWait := 0 }
  (s.setTrv c 0 0).wrN (Reg.TRV_STATUS_halving c) 0

/-- R311: a command error ends its list. -/
def State.listError (s : State) (c : Nat) (r : ListRun) (code : Nat) : State :=
  let s := ((s.wrN (Reg.TRV_ERR_code c) code).wrN (Reg.TRV_ERR_index c) r.index).wrN (Reg.TRV_ERR_list c) r.addr
  let s := (s.bump (Reg.TRV_CNT_errors c) 1).noteRecord 2 0x20 c 0x0014 code r.index
  s.endList c r 1 code

/-- A command has completed: the list goes on, or ends with status 0. -/
def State.commandDone (s : State) (c : Nat) (r : ListRun) : State :=
  if r.index + 1 < r.count then
    (s.setClu c { s.clu c with
      list := some { r with index := r.index + 1, completed := r.completed + 1, words := [] }, sweep := none }).setTrv c 1 0
  else s.endList c { r with completed := r.completed + 1 } 0 0

/-- R308: the lowest-numbered queue that holds a list. -/
def State.nextList (s : State) (c : Nat) : Option (Nat × QEntry) :=
  (List.range 8).findSome? fun q => (s.headOf (qKey 0 c q)).map fun d => (q, d)

/-- R307: the error of a list descriptor, 0 for none. -/
def State.listBad (s : State) (w0 w1 w2 : Nat) : Nat :=
  if w0 / 2 ^ 6 ≠ 0 ∨ w1 / 2 ^ 40 ≠ 0 ∨ w2 / 2 ^ 48 ≠ 0 ∨ bits w2 0 16 = 0 then 2
  else if w1 % 64 ≠ 0 then 3
  else if s.paddockRange w1 (32 * bits w2 0 16) then 0 else 4

/-- LIST_START (R307, R308): the idle engine of cluster c takes the next list. -/
def execListStart (c : Nat) (s : State) : Host.Outcome State Fault Refusal :=
  if s.par.clusters ≤ c then .refused .noSuchUnit
  else if !s.engineOn c || (s.clu c).list.isSome then .next s
  else match s.nextList c with
    | none => .next s
    | some (q, d) =>
      match s.startDesc .traverse (qKey 0 c q) 3 d with
      | (none, t) => .next (s.orWait (t.engineLost c))
      | (some d, t) =>
        let r : ListRun := ⟨q, d.ticket, d.w 1 % 2 ^ 40, bits (d.w 2) 0 16, bits (d.w 2) 16 32, bit (d.w 0) 5, 0, 0, []⟩
        let t := ((t.setClu c { t.clu c with list := some r }).setTrv c 1 0).wrN (Reg.TRV_STATUS_queue c) q
        .next (s.orWait (match t.listBad (d.w 0) (d.w 1) (d.w 2) with
          | 0 => t
          | n => t.listError c r n))

/-- The list of cluster c whose next command the engine may take up. -/
def State.atCommand (s : State) (c : Nat) : Option ListRun :=
  if !s.engineOn c || (s.clu c).sweep.isSome || (s.clu c).bandWait != 0 then none else (s.clu c).list

/-- The address of the command that a list has come to (R312). -/
def ListRun.at_ (r : ListRun) : Nat := r.addr + 32 * r.index

/-- The engine reads the command that it has come to, once: the list with its words, none where they cannot be corrected. -/
def State.readCommand (s : State) (c : Nat) (r : ListRun) : Option ListRun × State :=
  if !r.words.isEmpty then (some r, s)
  else match s.readMem .traverse r.at_ 32 with
    | (none, t) => (none, t)
    | (some b, t) =>
      let r := { r with words := (List.range 4).map fun i => fieldLe b (8 * i) 8 }
      (some r, t.setClu c { t.clu c with list := some r })

/-- Word `i` of the command in hand. -/
def ListRun.w (r : ListRun) (i : Nat) : Nat := r.words.getD i 0

/-- The op of the command that a list has come to, by which a row of the table is told from another. -/
def State.opAt (s : State) (r : ListRun) : Nat := (if r.words.isEmpty then s.word r.at_ 8 else r.w 0) % 256

/-- A command row acts when its op stands next in the list; a reserved op is command error 1 (R312), and a command that
cannot be read leaves the engine in state 3. -/
def State.withCommand (s : State) (c op : Nat) (body : State → ListRun → State) : Host.Outcome State Fault Refusal :=
  if s.par.clusters ≤ c then .refused .noSuchUnit
  else match s.atCommand c with
    | none => .next s
    | some r =>
      match s.readCommand c r with
      | (none, t) => .next (s.orWait (t.engineLost c))
      | (some r', t) =>
        if 7 ≤ s.opAt r then .next (s.orWait (t.listError c r' 1))
        else if s.opAt r = op then .next (s.orWait (body t r'))
        else .next s

/-! ### SHEAR -/

/-- R322: the fields of a SHEAR in a list with frame tag `tag`, with the geometry and the halving in effect (R325). -/
def State.shearOf (s : State) (tag : Nat) (w : Nat → Nat) : Sweep :=
  { plot := bits (w 0) 8 11, bFirst := bits (w 0) 19 9, bCount := bits (w 0) 28 10, ring := bits (w 0) 38 3 + 1,
    wmBase := bits (w 0) 41 4, outMode := bit (w 0) 47, patch := w 1 % 2 ^ 40, ringBase := w 2 % 2 ^ 40,
    bearH := s.efN Reg.RAY_GEOM_bear_h, bearV := s.efN Reg.RAY_GEOM_bear_v, tanH := s.efN Reg.RAY_GEOM_tan_h,
    tanV := s.efN Reg.RAY_GEOM_tan_v, halving := s.ef Reg.GOV_HALVE_halving == 1, dead := [], tag := tag, head := [],
    store := [], gaitFrame := none, gains := [], next := bits (w 0) 19 9 }

/-- R314: the patch head: plot, L and flags. -/
def headPlot (h : Bytes) : Nat := fieldLe h 24 2
def headL (h : Bytes) : Nat := fieldLe h 22 1
def headFlags (h : Bytes) : Nat := fieldLe h 23 1

/-- R314: the background of a patch, and its layers. -/
def patchBg (h : Bytes) : List Nat := (List.range 3).map fun c => fieldLe h (2 * c) 2 % 4096

/-- R313: the first error of a SHEAR in the order of the table, 0 for none; `head` is the patch head, where the patch address
lets the engine read it. -/
def State.shearBad (s : State) (c : Nat) (w : Nat → Nat) (x : Sweep) (head : Option Bytes) : Nat :=
  let h := head.getD []
  if w 0 / 2 ^ 48 ≠ 0 ∨ w 1 / 2 ^ 40 ≠ 0 ∨ w 2 / 2 ^ 40 ≠ 0 ∨ w 3 / 2 ^ 32 ≠ 0 ∨ x.bCount = 0 ∨ 512 < x.bCount ∨
      (head.isSome ∧ headPlot h ≠ x.plot) then 2
  else if x.patch % 64 ≠ 0 ∨ x.ringBase % 64 ≠ 0 then 3
  else if !s.sliceRange c x.patch (64 + 163840 * headL h) || !s.sliceRange c x.ringBase (24576 * x.ring) then 4
  else if x.bearH * x.bearV < x.bFirst + x.bCount then 5
  else if s.plots ≤ x.plot then 6
  else if 16 < x.wmBase + x.ring then 7
  else if bit (headFlags h) 0 then 0 else 10

/-- R305, R314: the layers of the patch at `a`: disparity and pixels. -/
def State.patchLayers (s : State) (a : Nat) (h : Bytes) : List (Int × (Nat → Nat → Pixel)) :=
  (List.range (min 8 (headL h))).map fun k =>
    (signed 14 (fieldLe h (6 + 2 * k) 2), fun u v => pixelOf (s.word (a + 64 + 163840 * k + 1280 * v + 10 * u) 10))

/-- R22: column and row of a bearing; while halving is latched, an odd column stands for the one before (R326, R354). -/
def Sweep.column (x : Sweep) (b : Nat) : Nat := let h := b % max 1 x.bearH; if x.halving then h - h % 2 else h
def Sweep.row (x : Sweep) (b : Nat) : Nat := b / max 1 x.bearH

/-- R45, R325: the tangents and Kq of a bearing. -/
def Sweep.bearing (x : Sweep) (b : Nat) : Bearing :=
  ⟨tangent (x.column b) x.bearH x.tanH, tangent (x.row b) x.bearV x.tanV, kqOf x.tanH⟩

/-- The composited ray of a hogel at a bearing. -/
def State.rayAt (s : State) (x : Sweep) (h : Bytes) (b i : Nat) : Ray :=
  composite (x.bearing b) (i % 64) (i / 64) (patchBg h) (s.patchLayers x.patch h)

/-- R306: the 8-byte groups of the patch that the row store reads for a bearing. -/
def State.windowGroups (_s : State) (x : Sweep) (h : Bytes) (b : Nat) : List Nat :=
  (List.range (min 8 (headL h))).flatMap fun k =>
    let d := signed 14 (fieldLe h (6 + 2 * k) 2)
    let (u, fx) := samplePos 0 (shift d (x.bearing b).th)
    let (v, fy) := samplePos 0 (shift d (x.bearing b).tv)
    (List.range (64 + b2n (fy != 0))).flatMap fun j =>
      let a := x.patch + 64 + 163840 * k + 1280 * (v + j) + 10 * u
      let e := a + 10 * (64 + b2n (fx != 0))
      groupsOf (a / 64 * 64) (ceilDiv e 64 * 64 - a / 64 * 64)

/-- R47: layers whose shift is clamped at a bearing, as a mask. -/
def clampMask (x : Sweep) (h : Bytes) (b : Nat) : Nat :=
  (List.range (min 8 (headL h))).foldl (fun m k =>
    let d := signed 14 (fieldLe h (6 + 2 * k) 2)
    if shiftClamps d (x.bearing b).th || shiftClamps d (x.bearing b).tv then m + 2 ^ k else m) 0

/-- R47: clamped layers of a plot are counted once in a frame. -/
def State.countClamps (s : State) (p m : Nat) : State :=
  let old := Tab.get 0 s.hub.clamped p
  let new := m ||| old
  let s := { s with hub := { s.hub with clamped := Tab.put 0 s.hub.clamped p new } }
  s.bump Reg.RAY_COUNT_shear_clamps ((List.range 8).filter fun k => bit new k && !bit old k).length

/-- What correction has made of a hogel's ray: drive codes, shares taken, and rays composited again. -/
structure Corrected where
  codes : List Nat
  shares : Nat
  extra : Nat

/-- R57 to R60, R383, R384: correction of hogel `i` at bearing `b`, whose composited values are `d`. -/
def State.correct (s : State) (x : Sweep) (h : Bytes) (t : TileCoef) (gains : List Nat) (b i : Nat) (d : List Nat) : Corrected :=
  let z := s.zoneZ t.zone
  let c3 := stepsToThree (s.vigGains t.type b) t.m z d
  let dead := fun b' c => x.dead.contains (emitterKey i b' c)
  let col := b % max 1 x.bearH
  let near := (neighbours x.bearH col).map fun h' =>
    let b' := x.row b * x.bearH + h'
    (h', b', stepsToThree (s.vigGains t.type b') t.m z (s.rayAt x h b' i).d)
  let taken := fun c => near.filter fun (_, b', _) => !dead b c && dead b' c
  { codes := (List.range 3).map fun c =>
      if dead b c then 0
      else
        let sum := ((taken c).map fun (h', _, v) => share x.bearH h' (v.getD c 0)).sum
        s.lut t.set c (gaitGain (min 4095 (c3.getD c 0 + sum)) (gains.getD c 2048))
    shares := ((List.range 3).map fun c => (taken c).length).sum
    extra := (near.filter fun (_, b', _) => (List.range 3).any fun c => !dead b c && dead b' c).length }

/-- R536: the drive codes of a bearing enter the tile's sums. -/
def State.addPower (s : State) (k : Nat) (codes : List (List Nat)) : State :=
  let old := Tab.get ⟨0, 0, 0, 0⟩ s.health.power k
  let sum := fun c => (codes.map fun l => l.getD c 0).sum
  let new : TilePower := ⟨old.sr + sum 0, old.sg + sum 1, old.sb + sum 2, old.n + codes.length⟩
  { s with health := { s.health with power := Tab.set s.health.power k new } }

/-- R331, R332: a bearing starts in the buffer of watermark `j`. -/
def State.startBuffer (s : State) (c j a plot b : Nat) : State :=
  let s := s.setClu c { s.clu c with buffers := Tab.set (s.clu c).buffers j a }
  (((s.wrN (Reg.WM_STATE_plot c j) plot).wrN (Reg.WM_STATE_bearing c j) b).wrN (Reg.WM_STATE_rows c j) 0).wrN
    (Reg.WM_STATE_held c j) 1

/-- R358: the guard unit takes a bearing; at the last one the plot is finished, and its load classes are measured when every
bearing was sent as drive codes (R391, R392). -/
def State.guardTake (s : State) (c : Nat) (x : Sweep) (b : Nat) (rays : List Ray) (codes : List (List Nat)) : State :=
  match (s.clu c).guard with
  | none => s
  | some g =>
    if g.plot ≠ x.plot ∨ g.next ≠ b ∨ g.frame ≠ x.tag then s.setClu c { s.clu c with guard := none }
    else
      let sums := (codes.zip (List.range codes.length)).foldl (fun t (l, i) => Tab.set t i (Tab.get 0 t i + l.sum)) g.sums
      let g := { g with
        next := b + 1
        crc := (List.range 32).foldl (s.accumulate x.plot b rays) g.crc
        sums := sums
        drive := g.drive && !x.outMode }
      if b + 1 = x.bearH * x.bearV then
        let s := (s.setClu c { s.clu c with guard := none }).guardSend g
        if g.drive then s.gaitMeasure x.plot g.sums else s
      else s.setClu c { s.clu c with guard := some g }

/-- R324: the rays of a bearing are written, and the watermark is raised at each quarter (R332). -/
def State.writeBearing (s : State) (c : Nat) (x : Sweep) (b j a : Nat) (triples : List (List Nat)) : State :=
  let s := s.writeMem .traverse a (triples.flatMap rayBytes)
  let s := (s.wrN (Reg.WM_STATE_rows c j) 64).setEvents (c + 1) (flag (32 + j))
  let s := s.bump (Reg.TRV_CNT_bearings c) 1
  s.setClu c { s.clu c with sweep := some { x with next := b + 1 } }

/-- R306, R326: the rays of a bearing: composited from the patch, whose words the row store reads, or for an odd column under
halving those of the bearing store. None where the patch cannot be read. -/
def State.raysOf (s : State) (x : Sweep) (b : Nat) : Option (List Ray) × State :=
  if x.halving && b % max 1 x.bearH % 2 == 1 then (some x.store, s)
  else match s.readGroups (s.windowGroups x x.head b) with
    | (false, t) => (none, t)
    | (true, t) => (some ((List.range 4096).map fun i => s.rayAt x x.head b i), t.countClamps x.plot (clampMask x x.head b))

/-- R398: the gait stage advances the plot at the first bearing that the sweep corrects in a frame, and holds its gains. -/
def State.gaitFor (s : State) (x : Sweep) : Option Sweep × State :=
  let k := s.rdN Reg.FRAME_COUNT_count
  if x.gaitFrame = some k then (some x, s)
  else match s.gaitAdvance x.plot with
    | (none, t) => (none, t)
    | (some g, t) => (some { x with gaitFrame := some k, gains := g }, t)

/-- R323 to R326: bearing `b` of a sweep, in the free buffer of watermark `j` at `a`. -/
def State.sweepBearing (s : State) (c : Nat) (x : Sweep) (b j a : Nat) : State :=
  let s := s.startBuffer c j a x.plot b
  match s.raysOf x b with
  | (none, s) => s.engineLost c
  | (some rays, s) =>
    let x := if x.halving then { x with store := rays } else x
    if x.outMode then
      let s := s.setClu c { s.clu c with busy := (s.clu c).busy + 1024 }
      (s.writeBearing c x b j a (rays.map (·.d))).guardTake c x b rays []
    else
      match s.gaitFor x with
      | (none, s) => s.engineLost c
      | (some x, s) =>
        let t := s.tileCoef (s.tileOf x.plot)
        let out := (rays.zip (List.range 4096)).map fun (r, i) =>
          s.correct x x.head t (Tab.get [2048, 2048, 2048] x.gains i) b i r.d
        let extra := (out.map (·.extra)).sum
        let s := (s.bump Reg.CORR_CNT_concealed (out.map (·.shares)).sum).bump Reg.CORR_CNT_extra_rays extra
        let s := s.setClu c { s.clu c with busy := (s.clu c).busy + 1024 + extra }
        let s := s.addPower (s.tileOf x.plot) (out.map (·.codes))
        (s.writeBearing c x b j a (out.map (·.codes))).guardTake c x b rays (out.map (·.codes))

/-- R346: the progress record of the logical index. -/
def State.progress (s : State) (c plot : Nat) : State :=
  let l := s.logical c
  if l = 0x7F then s
  else s.writeMem .traverse (64 * s.efN Reg.TRV_GLOBAL_progress_base + 16 * l)
    (leBytes 8 (s.rdN Reg.FRAME_COUNT_count) ++ leBytes 2 (s.clu c).shears ++ leBytes 2 plot ++
      leBytes 1 (s.rdN (Reg.TRV_STATUS_band c)) ++ leBytes 3 0)

/-- R346: a SHEAR completes. -/
def State.shearDone (s : State) (c plot : Nat) : State :=
  let s := s.setClu c { s.clu c with shears := (s.clu c).shears + 1, sweep := none }
  let s := (s.progress c plot).wrN (Reg.TRV_STATUS_halving c) 0
  match (s.clu c).list with
  | some r => s.commandDone c r
  | none => s

/-- The sweep goes on, bearing by bearing, until it is done or its next buffer is held (R329). -/
def State.sweepOn (c : Nat) : Nat → State → State
  | 0, s => s
  | n + 1, s =>
    match (s.clu c).sweep with
    | none => s
    | some x =>
      if s.rd (Reg.TRV_STATUS_state c) == 3 then s
      else if x.bFirst + x.bCount ≤ x.next then s.shearDone c x.plot
      else
        let i := (x.next - x.bFirst) % max 1 x.ring
        let j := x.wmBase + i
        if s.rd (Reg.WM_STATE_held c j) == 1 then s.setTrv c 2 3
        else State.sweepOn c n ((s.setTrv c 1 0).sweepBearing c x x.next j (x.ringBase + 24576 * i))

/-- R382: the dead emitters of a plot whose index entry of the active fault map `a` has been read. -/
def State.readEntries (s : State) (a p hv : Nat) : Option (List Nat) × State :=
  let x := s.fmapIndex a p
  let n := if pastEnd x then 0 else x.2
  match s.readMem .corr (a + 0x2000 + 4 * x.1) (4 * n) with
  | (none, s) => (none, s)
  | (some _, s) =>
    let (l, k) := takeFaults hv none (s.fmapEntries a p)
    (some l, s.bump Reg.CORR_CNT_fault_order k)

/-- R382: the plot's dead emitters are read from the active fault map; none when it cannot be read. -/
def State.readFaults (s : State) (p hv : Nat) : Option (List Nat) × State :=
  match s.readMem .corr (s.fmapActive + 8 * p) 8 with
  | (none, s) => (none, s)
  | (some _, s) => s.readEntries s.fmapActive p hv

/-- R560: a SHEAR shows that the logical index carries the plot. -/
def State.noteServed (s : State) (c p : Nat) : State :=
  let l := s.logical c
  let (a, b) := Tab.get ([], []) s.hub.plots l
  if a.contains p then s else { s with hub := { s.hub with plots := Tab.set s.hub.plots l (a ++ [p], b) } }

/-- R325, R360: a SHEAR that latches halving marks its plot. -/
def State.noteHalved (s : State) (x : Sweep) : State :=
  if x.halving && !s.hub.halved.contains x.plot then { s with hub := { s.hub with halved := s.hub.halved ++ [x.plot] } } else s

/-- R326: where the first bearing has odd h under halving, the bearing store takes the bearing before it; none where the patch
cannot be read. -/
def State.fillStore (s : State) (x : Sweep) : Option Sweep × State :=
  if x.halving && x.bFirst % max 1 x.bearH % 2 == 1 then
    match s.raysOf x (x.bFirst - 1) with
    | (none, t) => (none, t)
    | (some rays, t) => (some { x with store := rays }, t)
  else (some x, s)

/-- R325 to R328: the sweep starts, with the patch head checked. -/
def State.startSweep (s : State) (c : Nat) (x : Sweep) : State :=
  let s := s.noteServed c x.plot
  if bit (headFlags x.head) 2 || !s.linked x.plot then s.shearDone c x.plot
  else
    let dead := if x.outMode then (some [], s) else s.readFaults x.plot (x.bearH * x.bearV)
    match dead with
    | (none, s) => s.engineLost c
    | (some l, s) =>
      match s.fillStore { x with dead := l } with
      | (none, s) => s.engineLost c
      | (some x, s) =>
        let g := s.guardBegin c x.plot x.bFirst x.tag
        let pre := if x.store.isEmpty then 0 else 1024
        let s := s.setClu c { s.clu c with sweep := some x, guard := g, busy := (s.clu c).busy + 64 + pre }
        let s := (s.setTrv c 1 0).wrN (Reg.TRV_STATUS_halving c) (b2n x.halving)
        State.sweepOn c 513 s

/-- SHEAR (R313, R322, R325): the wait for the loader ticket, at whose end the command starts; the latch of halving, where no field
bars the command; the checks, in the order of the table; and the sweep. -/
def State.shearCommand (s : State) (c : Nat) (r : ListRun) : State :=
  let x := s.shearOf r.tag r.w
  if bit (r.w 0) 45 && !ticketDone (s.engQ (qKey 1 c (b2n (bit (r.w 0) 46)))).done (r.w 3 % 2 ^ 32) then s.setTrv c 2 2
  else
    let s := if s.shearBad c r.w x none = 10 then s.noteHalved x else s
    let (h, s) := if x.patch % 64 == 0 && s.sliceRange c x.patch 64 then
        (let (b, t) := s.readMem .traverse x.patch 64; (some b, t)) else (none, s)
    match h with
    | some none => s.engineLost c
    | some (some b) =>
      match s.shearBad c r.w x (some b) with
      | 0 => s.startSweep c { x with head := b }
      | n => s.listError c r n
    | none => s.listError c r (s.shearBad c r.w x none)

/-- SHEAR (R322). -/
def execShear (c : Nat) (s : State) : Host.Outcome State Fault Refusal :=
  s.withCommand c 1 fun s r => s.shearCommand c r

/-- SHEAR_BEARING_START (R329): the sweep goes on once the buffer of its next bearing is not held. -/
def execShearBearingStart (c : Nat) (s : State) : Host.Outcome State Fault Refusal :=
  if s.par.clusters ≤ c then .refused .noSuchUnit
  else if s.engineOn c && (s.clu c).sweep.isSome then .next (s.orWait (State.sweepOn c 513 s))
  else .next s

/-! ### NOP, NOTE and BAND -/

/-- Words 1 to 3 of a command are zero. -/
def restZero (w : Nat → Nat) : Bool := w 1 == 0 && w 2 == 0 && w 3 == 0

/-- LIST_NOP (R312, R313). -/
def execListNop (c : Nat) (s : State) : Host.Outcome State Fault Refusal :=
  s.withCommand c 0 fun s r => if r.w 0 / 2 ^ 8 = 0 ∧ restZero r.w = true then s.commandDone c r else s.listError c r 2

/-- NOTE (R343): the engine's earlier writes are visible, and e(16 + n) is set in its own sequencer. -/
def execNote (c : Nat) (s : State) : Host.Outcome State Fault Refusal :=
  s.withCommand c 6 fun s r =>
    if r.w 0 / 2 ^ 12 = 0 ∧ restZero r.w = true then (s.setEvents (c + 1) (flag (16 + bits (r.w 0) 8 4))).commandDone c r
    else s.listError c r 2

/-- BAND (R340): the mark is checked and reached; an index below 255 waits for its boundary. Index 0 is not above the last one
reached (error 8). -/
def execBand (c : Nat) (s : State) : Host.Outcome State Fault Refusal :=
  s.withCommand c 5 fun s r =>
    let n := bits (r.w 0) 8 8
    if r.w 0 / 2 ^ 16 ≠ 0 ∨ restZero r.w = false then s.listError c r 2
    else if n ≤ s.rdN (Reg.TRV_STATUS_band c) then s.listError c r 8
    else
      let s := s.wrN (Reg.TRV_STATUS_band c) n
      if n = 255 then (s.setClu c { s.clu c with band255 := true }).commandDone c r
      else (s.setClu c { s.clu c with bandWait := n }).setTrv c 2 1

/-- R15, R341: the pending values of every field that applies at a point take effect. -/
def State.applyAt (s : State) (point : Apply) : State :=
  { s with regs := s.regs.map fun (h, x) =>
      match fieldOf s.par h with
      | some f =>
        if f.row.apply = point then
          (h, match x.nxt with
            | some v => { x with eff := v, nxt := x.aft, aft := none }
            | none => { x with nxt := x.aft, aft := none })
        else (h, x)
      | none => (h, x) }

/-- R341: the boundary that may occur: a band mark at which every serving cluster waits, or has passed with mark 255. -/
def State.boundaryDue (s : State) : Option Nat :=
  let waits := (s.serving.map fun c => (s.clu c).bandWait).filter (· != 0)
  match waits with
  | [] => none
  | n :: _ => if s.serving.all fun c => (s.clu c).bandWait == n || ((s.clu c).band255 && (s.clu c).bandWait == 0) then some n else none

/-- BAND_BOUNDARY (R341, R342). -/
def execBandBoundary (s : State) : Host.Outcome State Fault Refusal :=
  if s.stopped then .next s
  else match s.boundaryDue with
    | none => .next s
    | some n =>
      let s := ((s.applyAt .band).wrN Reg.TRV_GLOBAL_band_passed n).setEventsAll (flag 2)
      .next (s.serving.foldl (fun s c =>
        if (s.clu c).bandWait = n then
          let s := s.setClu c { s.clu c with bandWait := 0 }
          match (s.clu c).list with
          | some r => s.commandDone c r
          | none => s
        else s) s)

/-! ### The period start (R310, R342) -/

/-- R310: the queued frame_bound lists of a cluster with another tag complete with status 3; the others stay unstarted. -/
def State.dropStale (s : State) (c tag : Nat) : State :=
  (List.range 8).foldl (fun s q =>
    ((s.engQ (qKey 0 c q)).entries.filter fun e => !e.fin && !e.done).foldl (fun s d =>
      let running := match (s.clu c).list with
        | some r => decide (r.queue = q ∧ r.desc = d.ticket)
        | none => false
      if running then s
      else match s.startDesc .traverse (qKey 0 c q) 3 d with
        | (none, t) => t.engineLost c
        | (some e, t) =>
          if bit (e.w 0) 5 && bits (e.w 2) 16 32 != tag then (t.putWord .traverse e 3 3).finishHead (qKey 0 c q) e
          else t.setEngQ (qKey 0 c q) ((t.engQ (qKey 0 c q)).setEntry d)) s) s

/-- R310, R342: a period with frame tag `tag` starts for the engine of cluster c. -/
def State.trvPeriodStart (s : State) (tag : Nat) (c : Nat) : State :=
  let s := match (s.clu c).list with
    | some r => if r.frameBound && r.tag != tag then s.endList c r 3 0 else s
    | none => s
  let s := (s.dropStale c tag).wrN (Reg.TRV_STATUS_band c) 0
  s.setClu c { s.clu c with band255 := false, shears := 0, busy := 0 }

/-- R508: the engine of cluster c runs or holds a frame_bound list of the running frame. -/
def State.frameListBusy (s : State) (c : Nat) : Bool :=
  match (s.clu c).list with
  | some r => r.frameBound && r.tag == s.rdN Reg.FRAME_COUNT_count % 2 ^ 32
  | none => false

end Sys2Proof.Machine
end

