-- ==== Sys2Proof/Machine/Loader.lean ====
section
/-! DEFINITION. The plot loader (R314 to R321). -/
namespace Sys2Proof.Machine
open Sys2Proof

/-! ### Fetches -/

/-- R348: bytes fetched from DRAM are counted in KiB. -/
def State.countFetched (s : State) (c n : Nat) : State :=
  let x := s.clu c
  (s.bump (Reg.LDR_CNT_kib c) ((x.fetched + n) / 1024 - x.fetched / 1024)).setClu c { x with fetched := x.fetched + n }

/-- Every byte of a range lies in paddock, or every one in DRAM. -/
def State.fetchable_ (s : State) (a n : Nat) : Bool := s.paddockRange a n || s.dramRange a n

/-- A fetch of the loader of cluster c: the bytes, or the status that ends the descriptor: 4 for an address that is not
populated, 3 for an uncorrectable error (R315). -/
def State.ldrFetch (s : State) (c a n : Nat) : Except Nat Bytes × State :=
  if !s.fetchable_ a n then (.error 4, s)
  else match s.readMem .loader a n with
    | (some b, t) => (.ok b, if s.dramRange a n then t.countFetched c n else t)
    | (none, t) => (.error 3, t)

/-- What a load comes to (R315): its result, and the patch head that it writes last. -/
structure LoadEnd where
  status : Nat
  bigL : Nat
  stale : Bool
  reused : Bool
  head : Option Bytes
  deriving DecidableEq, Repr

/-- A load that ends without a patch. -/
def LoadEnd.none (status : Nat) : LoadEnd := ⟨status, 0, false, false, Option.none⟩

/-- R315: the fields of words 0 to 5 that make the descriptor an error. -/
def State.loadBad (s : State) (c : Nat) (w : Nat → Nat) : Bool :=
  w 0 / 2 ^ 10 != 0 || w 1 / 2 ^ 40 != 0 || w 2 / 2 ^ 11 != 0 || w 3 / 2 ^ 40 != 0 || w 4 / 2 ^ 40 != 0 ||
    w 5 / 2 ^ 32 != 0 || w 1 % 64 != 0 || w 3 % 64 != 0 || !s.sliceRange c (w 3) 64 || (!bit (w 0) 5 && w 4 != 0)

/-- R200: the nine entries around plot column `pc` and row `pr` in a set of `w` plots across. -/
def State.nineEntries (s : State) (c set w pc pr : Nat) : List Nat → Except Nat (List Nat) × State
  | [] => (.ok [], s)
  | i :: t =>
    match s.ldrFetch c (set + 64 + 16 * ((pr + i / 3) * (w + 2) + pc + i % 3)) 8 with
    | (.error e, s) => (.error e, s)
    | (.ok b, s) =>
      match s.nineEntries c set w pc pr t with
      | (.ok l, s) => (.ok (leNat b :: l), s)
      | (.error e, s) => (.error e, s)

/-! ### What a patch is made of (R314, R317, R319) -/

/-- A cell version whose pixels a patch takes: its address, its width and height in hogels, and the layers that count. -/
structure PatchCell where
  addr : Nat
  cw : Nat
  ch : Nat
  layers : Nat
  deriving DecidableEq, Repr

/-- R176, R194, R201: the cell of position `i` of the nine around plot (pc, pr) of a set of w by h plots, from its entry `e`: none
without a version, or for a cold cell of the margin. A patch of L layers takes none above it. -/
def patchCell (bigL w h pc pr i e : Nat) : Option PatchCell :=
  let x := pc + i % 3
  let y := pr + i / 3
  let sideX := x == 0 || x == w + 1
  let sideY := y == 0 || y == h + 1
  let n := min (bits e 40 4) bigL
  if e % 2 ^ 40 = 0 ∨ n = 0 ∨ (bit e 45 && (sideX || sideY)) = true then none
  else some ⟨e % 2 ^ 40, if sideX then 32 else 64, if sideY then 32 else 64, n⟩

/-- R201: bytes of the layers of a cell version that a patch may take. -/
def PatchCell.size (x : PatchCell) : Nat := 64 + x.layers * x.cw * x.ch * 10

/-- R314: the thirds of a patch side: the cell before, the plot's own, the cell after. -/
def third (u : Nat) : Nat := if u < 32 then 0 else if u < 96 then 1 else 2

/-- The place of patch coordinate `u` in its cell, which is `n` hogels long. -/
def inCell (u n : Nat) : Nat := if u < 32 then n - 32 + u else if u < 96 then u - 32 else u - 96

/-- R201: the address of the pixel at patch coordinates (u, v) of layer `k` of a cell version. -/
def PatchCell.pixelAt (x : PatchCell) (k u v : Nat) : Nat :=
  x.addr + 64 + ((k * x.ch + inCell v x.ch) * x.cw + inCell u x.cw) * 10

/-- R317: the pixel written for background. -/
def bgPixel (bg : List Nat) : Bytes := pixelBytes (bg.getD 0 0 % 4096 + bg.getD 1 0 % 4096 * 2 ^ 12 + bg.getD 2 0 % 4096 * 2 ^ 24)

/-- A patch to build: the nine cells, the background, and the previous patch that it reuses, with its layers. -/
structure PatchPlan where
  cells : List (Option PatchCell)
  bg : List Nat
  prev : Option (Nat × Nat)
  deriving DecidableEq, Repr

/-- R314: the address of pixel (u, v) of layer `k` of the patch at `a`. -/
def patchPixelAt (a k u v : Nat) : Nat := a + 64 + 163840 * k + 1280 * v + 10 * u

/-- R317, R319: the address from which the loader of a patch takes the 32 pixels from (u, v) of layer `k`: the previous patch's
right half, where a cell supplied both; a cell version; none for background. `u` is a multiple of 32. -/
def PatchPlan.source (p : PatchPlan) (k v u : Nat) : Option Nat :=
  match p.cells.getD (3 * third v + third u) none with
  | none => none
  | some x =>
    if x.layers ≤ k then none
    else match p.prev with
      | some (a, l) => if k < l ∧ u < 64 then some (patchPixelAt a k (u + 64) v) else some (x.pixelAt k u v)
      | none => some (x.pixelAt k u v)

/-- The 32 pixels from (u, v) of layer `k`. -/
def State.patchRun (s : State) (c : Nat) (p : PatchPlan) (k v u : Nat) : Except Nat Bytes × State :=
  match p.source k v u with
  | none => (.ok ((List.replicate 32 (bgPixel p.bg)).flatten), s)
  | some a => s.ldrFetch c a 320

/-- Row `v` of layer `k`, from the runs that begin at the columns given. -/
def State.patchRow (s : State) (c : Nat) (p : PatchPlan) (k v : Nat) : List Nat → Except Nat Bytes × State
  | [] => (.ok [], s)
  | u :: t =>
    match s.patchRun c p k v u with
    | (.error e, s) => (.error e, s)
    | (.ok b, s) =>
      match s.patchRow c p k v t with
      | (.ok r, s) => (.ok (b ++ r), s)
      | (.error e, s) => (.error e, s)

/-- R315, R317: the rows of a patch at `dst`, in order of layer and row, each written as it is whole; a fetch that fails ends them
and leaves the rows written. -/
def State.patchRows (s : State) (c dst : Nat) (p : PatchPlan) : List (Nat × Nat) → Option Nat × State
  | [] => (none, s)
  | (k, v) :: t =>
    match s.patchRow c p k v [0, 32, 64, 96] with
    | (.error e, s) => (some e, s)
    | (.ok b, s) => (s.writeMem .loader (patchPixelAt dst k 0 v) b).patchRows c dst p t

/-- R314: a patch head. -/
def patchHead (vh : Bytes) (bigL flags p frame : Nat) : Bytes :=
  vh.take 22 ++ leBytes 1 bigL ++ leBytes 1 flags ++ leBytes 2 p ++ leBytes 2 0 ++ leBytes 4 frame ++ leBytes 32 0

/-- R320: the previous patch may be used: its head is valid and not cold, and names plot P - 1 in the same row and frame. -/
def reusable (ph : Bytes) (p pc frame : Nat) : Bool :=
  headFlags ph % 2 == 1 && !bit (headFlags ph) 2 && decide (0 < pc) && headPlot ph == p - 1 && fieldLe ph 28 4 == frame

/-- R317 to R320: the patch of a plot whose own cell is not cold, from the set's header, the head of its own version and the nine
entries. Every range that it takes is populated, and the destination suits, before anything is written. -/
def State.buildPatch (s : State) (c : Nat) (w : Nat → Nat) (hdr vh : Bytes) (es : List Nat) : LoadEnd × State :=
  let bigW := fieldLe hdr 4 1
  let bigH := fieldLe hdr 5 1
  let p := w 2
  let pc := p % bigW
  let own := es.getD 4 0
  let bigL := bits own 40 4
  let frame := fieldLe hdr 0 4
  let cells := ((List.range 9).zip es).map fun (i, e) => patchCell bigL bigW bigH pc (p / bigW) i e
  if !s.sliceRange c (w 3) (64 + 163840 * bigL) || cells.any (fun x => x.any fun x => !s.fetchable_ x.addr x.size) then (.none 4, s)
  else
    let prev : Except Nat Bytes × State := if bit (w 0) 5 then s.ldrFetch c (w 4) 64 else (.ok [], s)
    match prev with
    | (.error e, s) => (.none e, s)
    | (.ok ph, s) =>
      let reused := bit (w 0) 5 && reusable ph p pc frame
      let s := if bit (w 0) 5 && !reused then s.bump (Reg.LDR_CNT_reuse_miss c) 1 else s
      if reused && !s.fetchable_ (w 4) (64 + 163840 * min 8 (headL ph)) then (.none 4, s)
      else
        let plan : PatchPlan :=
          ⟨cells, (List.range 3).map fun i => fieldLe vh (2 * i) 2, if reused then some (w 4, headL ph) else none⟩
        match s.patchRows c (w 3) plan ((List.range bigL).flatMap fun k => (List.range 128).map fun v => (k, v)) with
        | (some e, s) => (.none e, s)
        | (none, s) =>
          let stale := bit own 44
          (⟨0, bigL, stale, reused, some (patchHead vh bigL (1 + 2 * b2n stale) p frame)⟩, s)

/-- The background and disparities of a cell without a version: free values (log 17). -/
def State.freeHead (s : State) : Bytes × State :=
  let (a, s) := s.fresh
  let (b, s) := s.fresh
  let (c, s) := s.fresh
  (leBytes 8 a.toNat ++ leBytes 8 b.toNat ++ leBytes 8 c.toNat, s)

/-- R315 to R318: the end of a descriptor with words `w`. -/
def State.loadPatch (s : State) (c : Nat) (w : Nat → Nat) : LoadEnd × State :=
  if s.loadBad c w then (.none 4, s)
  else match s.ldrFetch c (w 1) 64 with
    | (.error e, s) => (.none e, s)
    | (.ok hdr, s) =>
      let bigW := fieldLe hdr 4 1
      let p := w 2
      if bigW * fieldLe hdr 5 1 ≤ p then (.none 2, s)
      else match s.nineEntries c (w 1) bigW (p % bigW) (p / bigW) (List.range 9) with
        | (.error e, s) => (.none e, s)
        | (.ok es, s) =>
          let own := es.getD 4 0
          let va := own % 2 ^ 40
          let head : Except Nat Bytes × State := if va = 0 then (let (b, s) := s.freeHead; (.ok b, s)) else s.ldrFetch c va 64
          match head with
          | (.error e, s) => (.none e, s)
          | (.ok vh, s) =>
            if bit own 45 || va == 0 then (⟨1, 0, false, false, some (patchHead vh 0 5 p (fieldLe hdr 0 4))⟩, s)
            else s.buildPatch c w hdr vh es

/-! ### The command -/

/-- R315, R317: the head of the patch is written last, and then the result, with the bytes fetched since `before`. A load that
leaves a valid patch has filled its buffer, and sets e5 (R72; log 74). -/
def State.finishLoad (s : State) (c queue : Nat) (d : QEntry) (before : Nat) (e : LoadEnd) : State :=
  let s := match e.head with
    | some h => (s.writeMem .loader (d.w 3) h).setEvents (c + 1) (flag 5)
    | Option.none => if e.status = 3 then s.writeMem .loader (d.w 3 + 23) [0] else s
  let s := s.putWord .loader d 6 (e.status + e.bigL * 2 ^ 8 + b2n e.stale * 2 ^ 16 + b2n e.reused * 2 ^ 17 +
    ((s.clu c).fetched - before) % 2 ^ 32 * 2 ^ 32)
  (s.bump (Reg.LDR_CNT_loads c) 1).finishHead (qKey 1 c queue) d

/-- The loader of cluster c cannot read a descriptor (R252). -/
def State.loaderLost (s : State) (c : Nat) : State := s.setClu c { s.clu c with loaderLost := true }

/-- R316: a descriptor waits for its engine ticket. -/
def State.loadWaits (s : State) (c : Nat) (d : QEntry) : Bool :=
  bit (d.w 0) 6 && !ticketDone (s.engQ (qKey 0 c (bits (d.w 0) 7 3))).done (d.w 5 % 2 ^ 32)

/-- PLOT_LOAD (R315 to R321): the descriptor at the head of a loader queue of cluster c, once its engine ticket is reached. -/
def execPlotLoad (c queue : Nat) (s : State) : Host.Outcome State Fault Refusal :=
  if s.par.clusters ≤ c ∨ 2 ≤ queue then .refused .noSuchUnit
  else if (s.clu c).failed || (s.clu c).loaderLost || s.gated then .next s
  else s.withDesc .loader (qKey 1 c queue) 1 c 6 (fun _ => true) (·.loaderLost c) fun d s =>
    if s.loadWaits c d then s
    else
      let (e, t) := s.loadPatch c d.w
      t.finishLoad c queue d (s.clu c).fetched e

end Sys2Proof.Machine
end

