-- ==== Sys2Proof/Machine/Clusters.lean ====
section
/-! DEFINITION. The completion of descriptors (R139, R142, R143), and the loss and the taking over of a cluster (R65, R67,
R243, R344 to R347). -/
namespace Sys2Proof.Machine
open Sys2Proof

/-- R142: a descriptor completes: its event is set, and done counts it in queue order. -/
def State.completeEntry (s : State) (key : Nat) (d : QEntry) : State :=
  let s := s.complEvent d
  s.setEngQ key ((s.engQ key).complete d.ticket)

/-- The engine queues that exist (R138). -/
def State.queueExists (s : State) (cls inst queue : Nat) : Bool :=
  match cls with
  | 0 => decide (inst < s.par.clusters) && decide (queue < 8)
  | 1 => decide (inst < s.par.clusters) && decide (queue < 2)
  | 2 => decide (inst < s.par.clusters) && decide (queue < 1)
  | 3 => decide (inst < s.par.decoders) && decide (queue < 1)
  | 4 => decide (inst < 1) && decide (queue < 2)
  | 5 => decide (inst < 1) && decide (queue < 1)
  | 6 => decide (inst < 1) && decide (queue < 1)
  | 7 => decide (inst < 4) && decide (queue < 1)
  | _ => false

/-- ENGINE_DESCRIPTOR_COMPLETE (R142): the first descriptor of the queue whose work is done completes. -/
def execEngineDescriptorComplete (cls inst queue : Nat) (s : State) : Host.Outcome State Fault Refusal :=
  if !s.queueExists cls inst queue then .refused .noSuchUnit
  else
    let key := qKey cls inst queue
    match (s.engQ key).entries.find? fun e => e.fin && !e.done with
    | some d => .next (s.completeEntry key d)
    | none => .next s

/-- R344: a list of the failed cluster completes with status 2. -/
def State.listLost (s : State) (c queue : Nat) (d : QEntry) : State :=
  let n := match (s.clu c).list with
    | some r => if r.queue = queue ∧ r.desc = d.ticket then r.index % 2 ^ 16 * 2 ^ 16 + r.completed % 2 ^ 32 * 2 ^ 32 else 0
    | none => 0
  (s.putWord .traverse d 3 (2 + n)).completeEntry (qKey 0 c queue) d

/-- R344: the units of cluster c stop. -/
def State.stopCluster (s : State) (c : Nat) : State :=
  let q := s.seq (c + 1)
  let s := s.setSeq (c + 1) { q with waiting := none, lock := none, bitten := false, stores := [] }
  let s := if s.rd (Reg.SEQ_STATUS_state c) == 3 then s else s.wrN (Reg.SEQ_STATUS_state c) 0
  let s := (List.range 8).foldl (fun s i =>
    ((s.engQ (qKey 0 c i)).entries.filter (!·.done)).foldl (fun s d =>
      if d.fin then s.completeEntry (qKey 0 c i) d else s.listLost c i d) s) s
  let s := s.encLost c
  let s := s.setClu c { s.clu c with list := none, sweep := none, bandWait := 0, guard := none, failed := true }
  let s := (s.setTrv c 3 0).wrN (Reg.TRV_STATUS_halving c) 0
  (List.range 16).foldl (fun s j => s.wrN (Reg.WM_STATE_held c j) 0) s

/-- R344, R345, R559, R670: the logical index of a failed cluster goes to an idle spare, unless it has not recovered from an
earlier fault; the fault is raised. -/
def State.replaceCluster (s : State) (c l d0 : Nat) : State :=
  if s.fm.standing.contains (.cluster l) then s
  else if (s.recoveringSev (.cluster l)).isSome then s.raise (.cluster l) 0x0010 2 0x20 c d0 0xFF
  else
    let (sp, s) := if s.inS4 then (none, s) else s.assignSpare c l
    let s := s.raise (.cluster l) 0x0010 2 0x20 c d0 (sp.getD 0xFF)
    match sp with
    | some _ => s
    | none => s.raise (.cluster l) 0x0011 3 0x20 c l 0

/-- CLUSTER_FAULT (R65, R344, R552): `kind` is the unit at fault as R569 codes it: 0 sequencer, 1 engine, 2 loader, 3 encoder,
4 slice, 5 domain. -/
def execClusterFault (c kind trapCause : Nat) (s : State) : Host.Outcome State Fault Refusal :=
  if s.par.clusters ≤ c then .refused .noSuchUnit
  else if (s.clu c).failed || 6 ≤ kind || s.stage < 7 then .next s
  else
    let l := s.logical c
    let cause := if kind = 0 then (if s.rd (Reg.SEQ_STATUS_state c) == 3 then s.rdN (Reg.SEQ_STATUS_trap_cause c) else trapCause)
      else 0
    let s := ((s.stopCluster c).takeSpare c).wrN (Reg.SEQ_STATUS_logical c) 0x7F
    let s := if kind = 4 then s.wrN (Reg.PAD_STATUS_state c) 1 else if kind = 5 then s.wrN (Reg.PAD_STATUS_state c) 2 else s
    let d0 := cause % 256 + kind * 256
    if l = 0x7F then .next (s.raise (.cluster (0x80 + c)) 0x0010 2 0x20 c d0 0xFF)
    else .next (s.replaceCluster c l d0)

/-! ### The hold timer (R271) -/

/-- The requester class of the transactions of an engine of issue class `cls` (R262, log 12): the clip store's is that of its
record job while one runs. -/
def State.engineClass (s : State) (cls : Nat) : Nat :=
  match cls with
  | 0 => 10
  | 1 => 4
  | 2 => 6
  | 3 => 3
  | 4 => if s.ing.playJob.isSome && s.ing.recJob.isNone then 8 else 2
  | 5 => 7
  | _ => 12

/-- The engine that an issue class and an instance name is in state 3 (R271): a cluster's engine shows it and CLUSTER_FAULT
follows; a hub-die engine is out of service (R554). -/
def State.stopEngine (s : State) (cls inst : Nat) : State :=
  match cls with
  | 0 => s.engineLost inst
  | 1 => s.loaderLost inst
  | 2 => s.encFault inst
  | 3 => { s.engineFault 3 inst with dec := Tab.del s.dec inst }.wrN (Reg.DEC_STATUS_state inst) 3
  | 6 => (s.engineFault 6 inst).wrN Reg.TRUST_STATUS_state 3
  | _ => s.engineFault cls inst

/-- R271: the bite is counted and recorded, with the class and the resource. -/
def State.noteBite (s : State) (cls resource : Nat) : State :=
  let s := ((s.bump Reg.ARB_BITE_count 1).wrN Reg.ARB_BITE_class cls).wrN Reg.ARB_BITE_resource resource
  s.noteRecord 2 0x08 0 0x0019 cls resource

/-- R135, R271: the hold timer bites on the grant that sequencer `k` holds: the lock breaks, its stores not yet made are dropped,
and the sequencer traps, in a wait at once and else at its next instruction. -/
def State.biteSequencer (s : State) (k resource : Nat) : State :=
  let q := s.seq k
  let left := q.stores.filter fun r => r.lock != some resource
  let s := s.setSeq k { q with lock := if q.lock = some resource then none else q.lock, bitten := true, stores := left }
  let s := s.noteBite (seqClass k) resource
  if q.waiting.isSome then s.takeTrap k 0x0E else s

/-- HOLD_TIMER_BITE (R271): the grant of `resource` has been held for ARB_HOLD.limit cycles: by the locked sequence that holds
it, or, where none does, by the transaction of the engine that the command names by issue class and instance (log 82). -/
def execHoldTimerBite (b : HoldBite) (s : State) : Host.Outcome State Fault Refusal :=
  match s.lockedBy b.resource, b.engine with
  | some k, _ => .next (s.biteSequencer k b.resource)
  | none, some (cls, inst) =>
    if !s.queueExists cls inst 0 then .refused .noSuchUnit
    else .next ((s.noteBite (s.engineClass cls) b.resource).stopEngine cls inst)
  | none, none => .next s

/-- SPARE_START (R67, R344): the spare that holds a logical index starts the cluster program. -/
def execSpareStart (c : Nat) (s : State) : Host.Outcome State Fault Refusal :=
  if s.par.clusters ≤ c then .refused .noSuchUnit
  else if !(s.clu c).startDue || s.logical c == 0x7F || (s.clu c).failed || s.stopped then .next s
  else
    let l := s.logical c
    .next ((s.startCluster c l).recovered (.cluster l))

end Sys2Proof.Machine
end

