-- ==== Sys2Proof/Machine/Datum.lean ====
section
/-! DEFINITION. Datum switches, steps and loss (R496 to R501) and the PTP side of the scene ports (R503 to R507). -/
namespace Sys2Proof.Machine
open Sys2Proof

/-! ### Switch and step -/

/-- DATUM_STATE's lost bit of datum d. -/
def lostReg (d : Nat) : Nat := if d = 0 then Reg.DATUM_STATE_a_lost else Reg.DATUM_STATE_b_lost

/-- R500: datum d is alive with lock set. -/
def State.usable_datum (s : State) (d : Nat) : Bool := s.rd (lostReg d) == 0 && s.locked d

/-- R498: datum d becomes the source, and the offset takes up the difference. -/
def State.beginSwitch (s : State) (d : Nat) : State :=
  let o := s.active - ((s.datum d).units : Int)
  let s := { s with clk := { s.clk with offset := o, slewRem := 0 } }
  let s := (s.wrN Reg.DATUM_STATE_active d).bump Reg.DATUM_STATE_switches 1
  if o = 0 then s.slewDone else s

/-- R498: at the next tick, a switch to datum d unless it is the source already. -/
def State.switchTo (s : State) (d : Nat) : State :=
  let s := s.advance 1
  if s.source = d then s else s.beginSwitch d

/-- R500: the source is lost or its lock is cleared. -/
def State.autoSwitch (s : State) : State :=
  let other := 1 - s.source
  if s.on Reg.DATUM_CTRL_auto_switch && s.usable_datum other then s.switchTo other else s

/-- R498: a value of DATUM_CTRL.select is accepted, `old` before it. -/
def State.selectDatum (s : State) (old v : Int) : State :=
  if v = old then s else s.switchTo v.toNat

/-- R500: a value of DATUM[d].lock is accepted. -/
def State.lockWritten (s : State) (d : Nat) (v : Int) : State :=
  if v = 0 ∧ s.source = d then s.autoSwitch else s

/-- R496: the size of a step in units of 2^-32 ns. -/
def State.stepUnits (s : State) (d : Nat) : Int :=
  (s.ef (Reg.DATUM_step_s d) * 1000000000 + s.ef (Reg.DATUM_step_ns d)) * 2 ^ 32

/-- R499: a step of the source reaches the active datum. -/
def State.stepPasses (s : State) : Bool :=
  s.clk.offset == 0 && (s.noPeriod || s.on Reg.DATUM_CTRL_allow_step)

/-- R496, R499: at the next tick, datum d steps; the offset absorbs a step of the source that may not pass. -/
def State.stepDatum (s : State) (d : Nat) : State :=
  let s := s.advance 1
  let old := s.datum d
  let new := old.move (s.stepUnits d)
  let t := s.setDatum d new
  if s.source ≠ d ∨ s.stepPasses = true then t
  else
    let o := s.clk.offset - ((new.units : Int) - old.units)
    let t := { t with clk := { t.clk with offset := o } }
    if s.clk.offset ≠ 0 ∧ o = 0 then t.slewDone else t

/-- R501: the loss of a grandmaster is a fault, S2 for the source and S1 otherwise; R500: it may switch the source. -/
def State.datumLost (s : State) (d : Nat) : State :=
  if s.on (lostReg d) then s
  else
    let s := s.wrN (lostReg d) 1
    let s := s.raise (.datum d) 0x0028 (if s.source = d then 2 else 1) 0x04 0 d 0
    if s.source = d then s.autoSwitch else s

/-- R500: no Sync of the domain of datum d has arrived for loss_ms. -/
def State.syncOverdue (s : State) (d : Nat) : Bool :=
  decide (Tab.get 0 s.clk.syncAt d + s.efN (Reg.DATUM_loss_ms d) * 1000000 * 2 ^ 32 ≤ s.clk.free.units)

/-- DATUM_LOSS (R500, R501): its ticks pass; a datum whose domain has brought no Sync for loss_ms is lost. -/
def execDatumLoss (l : DatumLossAt) (s : State) : Host.Outcome State Fault Refusal :=
  if 2 ≤ l.datum then .refused .noSuchUnit
  else
    let s := s.advance l.dt
    .next (if s.syncOverdue l.datum then s.datumLost l.datum else s)

/-- DATUM_SLEW_COMPLETE (R498): `dt` ticks pass, in which the offset reaches zero. -/
def execDatumSlewComplete (dt : Nat) (s : State) : Host.Outcome State Fault Refusal := .next (s.advance dt)

/-! ### PTP -/

/-- The PTP side of a port that has done nothing. -/
def blankPtp : PtpPort := ⟨[], []⟩

/-- The PTP side of a port. -/
def State.ptpPort (s : State) (p : Nat) : PtpPort := Tab.get blankPtp s.ptp p

/-- The state with the PTP side of a port replaced, as its registers show it (R506, R507, R524). -/
def State.setPtp (s : State) (p : Nat) (x : PtpPort) : State :=
  let s := { s with ptp := Tab.put blankPtp s.ptp p x }
  let s := (s.wrN (Reg.PTP_TX_queued p) x.tx.length).wrN (Reg.TSQ_count p) x.tsq.length
  match x.tsq with
  | [] => ((((s.wrN (Reg.TSQ_TOP_ident p) 0).wrN (Reg.TSQ_TOP_valid p) 0).wrN (Reg.TSQ_TOP_a p) 0).wrN
      (Reg.TSQ_TOP_b p) 0).wrN (Reg.TSQ_TOP_free p) 0
  | t :: _ => ((((s.wrN (Reg.TSQ_TOP_ident p) t.ident).wrN (Reg.TSQ_TOP_valid p) 1).wrN (Reg.TSQ_TOP_a p) t.a).wrN
      (Reg.TSQ_TOP_b p) t.b).wrN (Reg.TSQ_TOP_free p) t.free

/-- R503: a datum word, moved by a latency in ps. -/
def Counter.stamp (c : Counter) (ps : Int) : Nat := (c.move (floorDiv (ps * 2 ^ 32) 1000)).word

/-- R506: a frame is queued with an identifier, or lost when 8 are queued. -/
def State.ptpSend (s : State) (p v : Nat) : State :=
  let x := s.ptpPort p
  if 8 ≤ x.tx.length then s.bump (Reg.PTP_TX_lost p) 1
  else s.setPtp p { x with tx := x.tx ++ [⟨v, s.rdN (Reg.PTP_TX_buf p), s.rdN (Reg.PTP_TX_len p)⟩] }

/-- R507: a timestamp entry is appended, or dropped when 32 are held. -/
def State.tsqAppend (s : State) (p ident : Nat) : State :=
  let x := s.ptpPort p
  let l := s.ef (Reg.PTP_LAT_tx_ps p)
  if 32 ≤ x.tsq.length then (s.wrN (Reg.TSQ_ovf p) 1).bump (Reg.TSQ_dropped p) 1
  else s.setPtp p { x with tsq := x.tsq ++ [⟨ident, s.clk.a.stamp l, s.clk.b.stamp l, s.clk.free.stamp l⟩] }

/-- PTP_FRAME_SENT (R506, R507): the oldest queued frame of a port leaves it; bytes that cannot be corrected are free values
(log 77). -/
def execPtpFrameSent (p : Nat) (s : State) : Host.Outcome State Fault Refusal :=
  if s.par.ports ≤ p then .refused .noSuchUnit
  else
    let x := s.ptpPort p
    match x.tx with
    | [] => .next s
    | f :: t =>
      let (b, u) := match s.readMem .datum (64 * f.buf) f.len with
        | (some b, u) => (b, u)
        | (none, u) => u.freeBytes f.len
      let u := (u.setPtp p { x with tx := t }).emit (.ethernet p (withFcs b))
      .next (s.orWait (if ptpEvent b then u.tsqAppend p f.ident else u))

/-- R507: a pop removes the oldest entry. -/
def State.tsqPopped (s : State) (p : Nat) : State :=
  let x := s.ptpPort p
  s.setPtp p { x with tsq := x.tsq.tail }

/-- R504: a datum that a PTP frame at port `p` belongs to. -/
def State.ptpDatum (s : State) (p : Nat) (b : Bytes) (d : Nat) : Bool :=
  match ptpHeader b with
  | none => false
  | some (t, h) =>
    s.efN (Reg.DATUM_transport d) == t && ptpAddressed b t && bit (s.efN (Reg.DATUM_ports d)) p &&
      ptpDomain b h == s.efN (Reg.DATUM_domain d)

/-- R500: a Sync of a datum arrives. -/
def State.syncArrives (s : State) (p : Nat) (b : Bytes) (d : Nat) : State :=
  match ptpHeader b with
  | none => s
  | some (_, h) =>
    if s.ptpDatum p b d && ptpType b h == 0 then
      let s := { s with clk := { s.clk with syncAt := Tab.put 0 s.clk.syncAt d s.clk.free.units } }
      ((s.bump (Reg.DATUM_syncs d) 1).wrN (lostReg d) 0).recovered (.datum d)
    else s

/-- R504: the bytes of a ring entry. -/
def State.ringEntry (s : State) (p sub : Nat) (b : Bytes) : Bytes :=
  let l := -(s.ef (Reg.PTP_LAT_rx_ps p))
  leBytes 2 b.length ++ [BitVec.ofNat 8 (sub % 4 + 4 * b2n (ptpEvent b))] ++ List.replicate 5 0 ++
  leBytes 8 (s.clk.a.stamp l) ++ leBytes 8 (s.clk.b.stamp l) ++ leBytes 8 (s.clk.free.stamp l) ++ b

/-- R504, R505: a PTP frame without its FCS arrives. -/
def State.ptpReceive (s : State) (p sub : Nat) (b : Bytes) : State :=
  if s.ptpDatum p b 0 || s.ptpDatum p b 1 then
    let s := (s.syncArrives p b 0).syncArrives p b 1
    let head := s.rdN (Reg.PTP_RX_head p)
    if (head + 65536 - s.rdN (Reg.PTP_RX_tail p)) % 65536 = 32 then s.bump (Reg.PTP_RX_dropped p) 1
    else
      let a := 64 * s.efN (Reg.PTP_RX_ring p) + 2048 * (head % 32)
      (s.writeMem .datum a (s.ringEntry p sub (b.take 2016))).wrN (Reg.PTP_RX_head p) ((head + 1) % 65536)
  else s.bump (Reg.PORT_CNT_filtered p) 1

end Sys2Proof.Machine
end

