-- ==== Sys2Proof/Machine/Lanes.lean ====
section
/-! DEFINITION. The Uzolink lanes (R411 to R444): start, alignment, equalisation entries and their figures of merit,
adaptation, gear changes, rest and the back-channel trim; and the packets the controller sends on its own (R449, R462, R466). -/
namespace Sys2Proof.Machine
open Sys2Proof

/-! ### Markers, SYNC and BEACON -/

/-- Transmit lane n carries packets of its own link: it is up and the sister does not send for it. -/
def State.txLive (s : State) (n : Nat) : Bool :=
  (s.rd (Reg.LANE_STATE_tx n) == 3 || s.rd (Reg.LANE_STATE_tx n) == 4) && !(s.lsvc n).failedOver && !(s.lsvc n).failed

/-- A number of picoseconds in units of 2^-32 ns. -/
def psUnits (ps : Int) : Int := floorDiv (ps * 2 ^ 32) 1000

/-- Line time of `i` cells at a gear, in units of 2^-32 ns. -/
def cellUnits (gear i : Nat) : Nat := i * 2048 * 2 ^ 32 / gearQuarterBits gear

/-- R465: the beacon of a marker that departs on link n after the line time of `i` cells from now. -/
def State.beacon (s : State) (n i : Nat) : Counter :=
  s.activeCounter.move (psUnits (s.rdN (Reg.LINK_TIME_delay n)) + (cellUnits (s.rdN (Reg.LINK_GEAR_gear n)) i : Nat))

/-- R449: the content of a downstream marker, `i` cells from now. -/
def State.markerContent (s : State) (n : Nat) (leadIn : Bool) (i : Nat) : Bytes :=
  let c := s.beacon n i
  [0xC3, 0x5A] ++ leBytes 1 (s.rdN (Reg.LINK_GEAR_gear n) + 4 * b2n leadIn) ++ leBytes 4 (s.lnk n).markers ++
  leBytes 8 c.word ++ leBytes 2 (c.frac / 2 ^ 16) ++ leBytes 2 n ++ leBytes 2 (s.efN Reg.ING_SECTION_id) ++ leBytes 6 0

/-- R449: a marker cell leaves on link n. -/
def State.markerCell (s : State) (n : Nat) (leadIn : Bool) (i : Nat) : State :=
  let t := s.sendCell n true (singleCell 0xF (s.markerContent n leadIn i))
  t.setLsvc n { t.lsvc n with beaconSec := (s.beacon n i).sec }

/-- R449: the sequence of link n counts the markers, those of one lead-in as one. -/
def State.countMarker (s : State) (n : Nat) : State :=
  s.setLnk n { s.lnk n with markers := ((s.lnk n).markers + 1) % 2 ^ 32 }

/-- R449: a regular marker leaves on link n. -/
def State.sendMarker (s : State) (n : Nat) : State := (s.markerCell n false 0).countMarker n

/-- R419: marker cells of a lead-in: 2.5 µs, rounded up to whole cells. -/
def leadInCells (gear : Nat) : Nat := ceilDiv (2500 * gearQuarterBits gear) 2048

/-- R466: the rate of the active datum less one, in units of 2^-40. -/
def State.rateWord (s : State) : Int :=
  let slew := s.efN Reg.DATUM_CTRL_slew_ppb * 2 ^ 40 / 1000000000
  let base := s.ef (Reg.DATUM_adj s.source) * 128
  if 0 < s.clk.offset then base - (slew : Nat) else if s.clk.offset < 0 then base + (slew : Nat) else base

/-- R466: the content of a BEACON. -/
def State.beaconContent (s : State) (n : Nat) : Bytes :=
  leBytes 6 (s.lsvc n).beaconSec ++
  leBytes 1 (s.source + 2 * b2n (s.locked s.source) + 4 * b2n (s.clk.offset != 0)) ++ leBytes 1 0 ++
  leBytes 4 (s.rdN (Reg.LINK_TIME_delay n)) ++ leBytes 4 (unsigned 32 s.rateWord) ++ leBytes 2 (n / 2) ++
  leBytes 1 (n % 2 + 2 * b2n (s.carrying n)) ++ leBytes 8 0

/-- R453: the cell of a single-cell packet is due on link n. -/
def State.dueCell (s : State) (n code : Nat) (content : Bytes) : State :=
  s.setLnk n { s.lnk n with due := (s.lnk n).due ++ [singleCell code content] }

/-- R466: a BEACON is due on link n. -/
def State.dueBeacon (s : State) (n : Nat) : State := s.dueCell n 0x3 (s.beaconContent n)

/-- R419, R466: the lead-in of link n: a run of marker cells back to back, of one sequence number; the first regular marker
period follows it, with a BEACON. -/
def State.sendLeadIn (s : State) (n : Nat) : State :=
  let k := leadInCells (s.rdN (Reg.LINK_GEAR_gear n))
  let s := ((List.range k).foldl (fun s i => s.markerCell n true i) s).countMarker n
  (s.setLnk n { s.lnk n with cell := 0, room := 0 }).dueBeacon n

/-- R419: a lane that starts has sent no bit before its lead-in. -/
def State.startLane (s : State) (n : Nat) : State :=
  (s.setLnk n { s.lnk n with tx := LineEnd.start, rx := LineEnd.start, since := 0, good := false, found := false, misses := 0,
                             open_ := [], sweep := 0 }).sendLeadIn n

/-- What a SYNC asks of a tile (R462): 0 FLIP, 1 HOLD, 2 PATTERN with its index. -/
structure SyncMode where
  mode : Nat
  pattern : Nat
  deriving DecidableEq, Repr

/-- R462: the content of a SYNC. -/
def syncContent (show_ frame : Nat) (m : SyncMode) (rest : Bool) : Bytes :=
  leBytes 8 show_ ++ leBytes 4 frame ++ leBytes 1 m.mode ++ leBytes 1 m.pattern ++ leBytes 1 (b2n rest) ++ leBytes 12 0

/-- R463, R466: a SYNC and then a BEACON are due on link n, if it carries packets. -/
def State.syncLink (s : State) (show_ frame : Nat) (m : SyncMode) (rest : Bool) (n : Nat) : State :=
  if s.txLive n then (s.dueCell n 0x2 (syncContent show_ frame m rest)).dueBeacon n else s

/-- R463: the SYNC of every tile, on both links of it. -/
def State.syncAll (s : State) (show_ frame : Nat) (modeOf : Nat → SyncMode) (rest : Bool) : State :=
  (List.range (2 * s.tileCount)).foldl (fun s n => s.syncLink show_ frame (modeOf (n / 2)) rest n) s

/-- R463: the show time of a SYNC that goes out now in free-running mode. -/
def State.leadShow (s : State) : Nat := unitsWord (s.active + nsUnits (1000 * s.efN Reg.LINK_SYNC_lead_us))

/-! ### Windows (R454, R455, R487) -/

/-- R454: the slots that count for link n. -/
def State.slotsOf (s : State) (n : Nat) : Nat :=
  if s.carrying n then 0 else slotCount (s.rdN (Reg.SVC_SLOTS_active n))

/-- R454: the window of link n at the gear in effect, in bytes. -/
def State.windowOf (s : State) (n : Nat) : Nat :=
  31 * slabCells (s.efN Reg.FT_PERIOD_t_min_ns) (s.rdN (Reg.LINK_GEAR_gear n)) (s.slotsOf n)

/-- R455: the SLAB cells that the lane of link n still has to send. -/
def State.laneBacklog (s : State) (n : Nat) : Nat :=
  (if (s.lsvc n).failedOver then 0 else (s.lnk n).toSend) + (if s.carrying n then (s.lnk (sister n)).toSend else 0)

/-- R454, R455: a period starts for link n. -/
def State.openWindow (s : State) (n : Nat) : State :=
  let l := s.lnk n
  s.setLnk n { l with window := s.windowOf n, used := 31 * s.laneBacklog n, granted := 0, cellsFrame := 0,
                      stoppedInPeriod := false, reqNext := l.reqAfter, reqAfter := 0 }

/-! ### Entries and figures of merit (R424 to R432) -/

/-- A byte of a number replaced. -/
def setByte (w i v : Nat) : Nat := w - bits w (8 * i) 8 * 256 ^ i + v % 256 * 256 ^ i

/-- R426: the recorded fom of an entry. -/
def State.fomOf (s : State) (h i : Nat) : Nat := bits (s.rdN h) (8 * i) 8

/-- R426: the entry in use of a transmit lane records a fom. -/
def State.recordTx (s : State) (n v : Nat) : State :=
  let h := Reg.LANE_FOM_tx n
  let l := s.lnk n
  (s.wrN h (setByte (s.rdN h) (s.rdN (Reg.LANE_EQ_tx_entry n)) v)).setLnk n { l with hasTx := true }

/-- R426: the entry in use of a back-channel lane records a fom. -/
def State.recordBc (s : State) (n v : Nat) : State :=
  let h := Reg.LANE_FOM_bc n
  let l := s.lnk n
  (s.wrN h (setByte (s.rdN h) (s.rdN (Reg.LANE_EQ_bc_entry n)) v)).setLnk n { l with hasBc := true }

/-- R432: the transmit lane moves to entry i. -/
def State.useTx (s : State) (n i : Nat) : State :=
  if s.rdN (Reg.LANE_EQ_tx_entry n) = i then s
  else
    let l := s.lnk n
    (s.wrN (Reg.LANE_EQ_tx_entry n) i).setLnk n { l with hasTx := false, latchesTx := 0, entryMark := l.markers }

/-- R432, R441, R442: the back-channel lane moves to entry i; the sweep in progress is discarded, and a new one starts. -/
def State.useBc (s : State) (n i : Nat) : State :=
  if s.rdN (Reg.LANE_EQ_bc_entry n) = i then s
  else
    let l := s.lnk n
    (s.wrN (Reg.LANE_EQ_bc_entry n) i).setLnk n { l with hasBc := false, latchesBc := 0, sweepNew := false, sweep := 0 }

/-- The fields of a link and LANE_EQ.round together. -/
def State.setRounds (s : State) (n : Nat) (l : Link) : State :=
  (s.setLnk n l).wrN (Reg.LANE_EQ_round n) (b2n l.openTx + 2 * b2n l.openBc)

/-- The entry with the highest fom among some, the first on a tie. -/
def bestEntry (fom : Nat → Nat) : List Nat → Option Nat
  | [] => none
  | i :: t =>
    match bestEntry fom t with
    | some j => if fom i < fom j then some j else some i
    | none => some i

/-- R428: what adaptation does with a lane at a latch point: nothing, a trial of an entry, or the end of a round. -/
inductive Adapt
  | none
  | try_ (i : Nat)
  | settle (best : Nat)
  deriving DecidableEq, Repr

/-- R428: the choice, from the entries admitted, the entry in use, the entries tried and their figures. -/
def adapt (open_ : Bool) (cur tried : Nat) (entries : List Nat) (fom : Nat → Nat) (low : Nat) : Adapt :=
  if !open_ && decide (low ≤ fom cur) then .none
  else
    let tried := if open_ then tried else 2 ^ cur
    match entries.find? fun i => !bit tried i with
    | some i => .try_ i
    | none => match bestEntry fom entries with
      | some b => .settle b
      | none => .none

/-- R430: the cap falls to `c` from the gear in effect `g`; it has then fallen from g and every gear above, up to the old cap. -/
def State.fallCap (s : State) (n g c : Nat) : State :=
  let l := s.lnk n
  let old := s.rdN (Reg.LINK_GEAR_cap n)
  let from_ := (List.range 4).foldl (fun m i => if g ≤ i ∧ i ≤ old ∧ bit m i = false then m + 2 ^ i else m) l.capFrom
  ((s.wrN (Reg.LINK_GEAR_cap n) c).bump (Reg.LANE_CNT_cap_falls n) 1).setLnk n { l with capFrom := from_, raises := 0 }

/-- R428: adaptation of a transmit lane; the entry to use, if it changes. -/
def State.adaptTx (s : State) (n : Nat) : Option Nat × State :=
  let g := s.rdN (Reg.LINK_GEAR_gear n)
  let l := s.lnk n
  let cur := s.rdN (Reg.LANE_EQ_tx_entry n)
  let low := s.efN (Reg.LANE_ADAPT_fom_low n)
  let fom := s.fomOf (Reg.LANE_FOM_tx n)
  if !l.hasTx then (none, s)
  else match adapt l.openTx cur l.triedTx ((List.range 8).filter fun i => s.txAdmits n i g) fom low with
    | .none => (none, s)
    | .try_ i =>
      let tried := (if l.openTx then l.triedTx else 2 ^ cur) + 2 ^ i
      (some i, (s.setRounds n { l with openTx := true, triedTx := tried }).bump (Reg.LANE_CNT_trials n) 1)
    | .settle b =>
      let s := s.setRounds n { l with openTx := false, triedTx := 0 }
      (some b, if fom b < low ∧ 0 < g then s.fallCap n g (g - 1) else s)

/-- R429: adaptation of a back-channel lane. The record's quantity is open (log 5). -/
def State.adaptBc (s : State) (n : Nat) : Option Nat × State :=
  let l := s.lnk n
  let cur := s.rdN (Reg.LANE_EQ_bc_entry n)
  let low := s.efN (Reg.LANE_ADAPT_fom_low n)
  let fom := s.fomOf (Reg.LANE_FOM_bc n)
  if !l.hasBc then (none, s)
  else match adapt l.openBc cur l.triedBc ((List.range 8).filter (s.bcValid n)) fom low with
    | .none => (none, s)
    | .try_ i =>
      let tried := (if l.openBc then l.triedBc else 2 ^ cur) + 2 ^ i
      (some i, (s.setRounds n { l with openBc := true, triedBc := tried }).bump (Reg.LANE_CNT_trials n) 1)
    | .settle b =>
      let s := s.setRounds n { l with openBc := false, triedBc := 0 }
      if fom b < low then
        let (q, s) := s.fresh
        (some b, s.noteRecord 1 0x80 n 0x003A n q.toNat)
      else (some b, s)

/-- R426: a latch point passes with the entries in use of a lane that is up; one without a report after four records 0. -/
def State.ageEntries (s : State) (n : Nat) : State :=
  let l := s.lnk n
  let s := s.setLnk n { l with latchesTx := l.latchesTx + 1, latchesBc := l.latchesBc + 1 }
  let s := if !l.hasTx && 4 ≤ l.latchesTx + 1 then s.recordTx n 0 else s
  if !l.hasBc && 4 ≤ l.latchesBc + 1 then s.recordBc n 0 else s

/-- R430: the cap rises by one, unless it has fallen from there. -/
def State.raiseCap (s : State) (n : Nat) : State :=
  let l := s.lnk n
  let c := s.rdN (Reg.LINK_GEAR_cap n)
  if s.efN (Reg.LANE_ADAPT_raise_count n) ≤ l.raises ∧ c < 3 ∧ s.rdN (Reg.LINK_GEAR_gear n) = c then
    let s := s.setLnk n { l with raises := 0 }
    if bit l.capFrom (c + 1) then s else s.wrN (Reg.LINK_GEAR_cap n) (c + 1)
  else s

/-- R428: adaptation runs on link n. -/
def State.adapts (s : State) (n : Nat) : Bool :=
  s.on (Reg.LANE_ADAPT_enable n) && s.txLive n && !s.carrying n

/-- R427, step 1: adaptation of link n; the entries to use. The entries age whether it runs or not. -/
def State.adaptLink (s : State) (n : Nat) : (Option Nat × Option Nat) × State :=
  let s := s.ageEntries n
  if !s.adapts n then ((none, none), s)
  else
    let (tx, s) := (s.raiseCap n).adaptTx n
    let (bc, s) := s.adaptBc n
    ((tx, bc), s)

/-- R430: LANE_ADAPT.retry. -/
def State.adaptRetry (s : State) (n : Nat) : State :=
  let l := s.lnk n
  (((s.wrN (Reg.LANE_FOM_tx n) 0).wrN (Reg.LANE_FOM_bc n) 0).wrN (Reg.LINK_GEAR_cap n) 3).setRounds n
    { l with openTx := false, openBc := false, triedTx := 0, triedBc := 0, hasTx := false, hasBc := false,
             latchesTx := 0, latchesBc := 0, capFrom := 0, raises := 0 }

/-! ### Gear changes (R424, R433, R434) -/

/-- R424: the transmit lane moves to the first entry that admits gear g, and its records are cleared. -/
def State.entryForGear (s : State) (n g : Nat) : State :=
  let i := ((List.range 8).find? fun i => s.txAdmits n i g).getD 0
  let l := s.lnk n
  ((s.wrN (Reg.LANE_EQ_tx_entry n) i).wrN (Reg.LANE_FOM_tx n) 0).setRounds n
    { l with openTx := false, triedTx := 0, hasTx := false, latchesTx := 0, entryMark := l.markers, raises := 0 }

/-- R419, R433, R466: a gear change begins on link n: the lead-in, and a BEACON after it. -/
def State.beginGear (s : State) (n g : Nat) : State :=
  let s := (((s.wrN (Reg.LANE_STATE_tx n) 4).wrN (Reg.LINK_GEAR_gear n) g).wrN (Reg.LINK_GEAR_next n) g).entryForGear n g
  (s.setLnk n { s.lnk n with changing := true }).sendLeadIn n

/-- GEAR_CHANGE_COMPLETE (R433). -/
def execGearChangeComplete (n : Nat) (s : State) : Host.Outcome State Fault Refusal :=
  if s.par.tileLinks ≤ n then .refused .noSuchUnit
  else if (s.lnk n).changing then
    let s := s.setLnk n { s.lnk n with changing := false }
    .next (if s.rd (Reg.LANE_STATE_tx n) == 4 then s.wrN (Reg.LANE_STATE_tx n) 3 else s)
  else .next s

/-! ### The back-channel trim (R439 to R442) -/

/-- The distance of two of `m` taps on their circle. -/
def tapDistance (m a b : Nat) : Nat := min ((a + m - b) % m) ((b + m - a) % m)

/-- R441: a phase further from its benchmark than the limit is noted once. The record's quantity is open (log 5). -/
def State.noteDrift (s : State) (n : Nat) : State :=
  let l := s.lnk n
  let far := decide (s.efN (Reg.BC_TRIM_drift_limit n) < tapDistance 64 (s.rdN (Reg.BC_TRIM_phase n)) (s.rdN (Reg.BC_TRIM_bench n)))
  let t := s.setLnk n { l with driftNoted := far }
  if far && !l.driftNoted then
    let (q, t) := t.fresh
    t.noteRecord 0 0x80 n 0x003A n q.toNat
  else t

/-- R440: the trim step of link n. -/
def State.trimStep (s : State) (n : Nat) : State :=
  let l := s.lnk n
  let p := s.rdN (Reg.BC_TRIM_phase n)
  let d := (s.rdN (Reg.BC_TRIM_centre n) + 64 - p) % 64
  if !l.sweepNew || !s.on (Reg.BC_TRIM_enable n) || d = 0 then s
  else
    let s := s.setLnk n { l with sweepNew := false }
    let s := s.wrN (Reg.BC_TRIM_phase n) (if d ≤ 32 then (p + 1) % 64 else (p + 63) % 64)
    (s.bump (Reg.LANE_CNT_trim_steps n) 1).noteDrift n

/-- R601: the phase and the benchmark of a lane without a benchmark record, from its first sweep. -/
def State.firstSweep (s : State) (n centre : Nat) : State :=
  if (s.lnk n).benched then s
  else ((s.wrN (Reg.BC_TRIM_phase n) centre).wrN (Reg.BC_TRIM_bench n) centre).setLnk n { s.lnk n with benched := true }

/-- R428, R431: adaptation at rest exit acts on link n. -/
def State.wakes (s : State) (n : Nat) : Bool := s.frame.afterRest && s.adapts n

/-- R431: the first fom after rest of the entry used at rest entry; below fom_low, the lane moves to its highest-recorded entry. -/
def State.wakeTx (s : State) (n v : Nat) : State :=
  let l := s.lnk n
  if !l.wokeTx then s
  else
    let s := s.setLnk n { l with wokeTx := false }
    if s.wakes n && decide (v < s.efN (Reg.LANE_ADAPT_fom_low n)) then
      match bestEntry (s.fomOf (Reg.LANE_FOM_tx n)) ((List.range 8).filter fun i => s.txAdmits n i (s.rdN (Reg.LINK_GEAR_gear n))) with
      | some i => s.useTx n i
      | none => s
    else s

/-- R431, for a back-channel lane. -/
def State.wakeBc (s : State) (n v : Nat) : State :=
  let l := s.lnk n
  if !l.wokeBc then s
  else
    let s := s.setLnk n { l with wokeBc := false }
    if s.wakes n && decide (v < s.efN (Reg.LANE_ADAPT_fom_low n)) then
      match bestEntry (s.fomOf (Reg.LANE_FOM_bc n)) ((List.range 8).filter (s.bcValid n)) with
      | some i => s.useBc n i
      | none => s
    else s

/-- Open taps in a row from tap `i` on, `n` at most. -/
def openRun (m : BitVec 64) (i : Nat) : Nat → Nat
  | 0 => 0
  | n + 1 => if m.getLsbD (i % 64) then 1 + openRun m (i + 1) n else 0

/-- R439: the widest run of open taps on their circle, the first one on a tie: its first tap and its width (log 78). -/
def widestRun (m : BitVec 64) : Nat × Nat :=
  (List.range 64).foldl (fun best i => if best.2 < openRun m i 64 then (i, openRun m i 64) else best) (0, 0)

/-- R439: the centre of the open taps, none where no tap is open. -/
def sweepCentre (m : BitVec 64) : Option Nat :=
  let (i, w) := widestRun m
  if w = 0 then none else some ((i + (w - 1) / 2) % 64)

/-- R425: the smaller of the horizontal opening, at 4/256 UI to a tap, and the vertical opening, clamped to 255. -/
def sweepFom (m : BitVec 64) (vertical : Nat) : Nat := min 255 (min (4 * (widestRun m).2) vertical)

/-- R439: a completed sweep has its centre, and a trim step may use it. -/
def State.sweptCentre (s : State) (n centre : Nat) : State :=
  let s := (s.firstSweep n centre).wrN (Reg.BC_TRIM_centre n) centre
  s.setLnk n { s.lnk n with sweepNew := true }

/-- BC_SWEEP_COMPLETE (R425, R439 to R441): in blanking, the sweep of the back-channel of link n, which has gone over every tap,
yields its open taps and the vertical opening. -/
def execBcSweepComplete (n : Nat) (open_ : BitVec 64) (vertical : Nat) (s : State) : Host.Outcome State Fault Refusal :=
  if s.par.tileLinks ≤ n then .refused .noSuchUnit
  else if s.rd (Reg.LANE_STATE_bc n) != 3 || !s.blanking || (s.lnk n).sweep != sweepWhole then .next s
  else
    let s := s.setLnk n { s.lnk n with sweep := 0 }
    let s := match sweepCentre open_ with
      | some c => s.sweptCentre n c
      | none => s
    let fom := sweepFom open_ vertical
    .next (((s.wrN (Reg.LANE_EQ_bc_fom n) fom).recordBc n fom).wakeBc n fom)

/-! ### Start and rest (R419, R422, R435 to R437) -/

/-- The value of a FRAME field at the next period start. -/
def State.nextVal (s : State) (h : Nat) : Nat := (((s.cell h).nxt).getD (s.cell h).eff).toNat

/-- R540: the link gear cap of the thermal stage. -/
def State.stageGearCap (s : State) : Nat := if s.rdN Reg.GOV_THERM_stage = 4 then 2 else 3

/-- R540: the gear of the first period after boot or rest. -/
def State.firstGear (s : State) (n : Nat) : Nat :=
  min (s.nextVal (Reg.LINK_GEAR_gear_req n)) (min (s.rdN (Reg.LINK_GEAR_cap n)) s.stageGearCap)

/-- R435: link n serves a tile of the section. -/
def State.servesTile (s : State) (n : Nat) : Bool := decide (n < 2 * s.tileCount)

/-- R435: link n has failed: by its board table, or out of service. -/
def State.linkFailed (s : State) (n : Nat) : Bool := s.boardFails n || (s.lsvc n).failed

/-- R435, R534: quad q is powered: one of its links serves a tile and has not failed. -/
def State.quadWanted (s : State) (q : Nat) : Bool :=
  (List.range 4).any fun i => s.servesTile (4 * q + i) && !s.linkFailed (4 * q + i)

/-- R426: the records of transmit lane n, which are of the gear before, are cleared. -/
def State.clearTxRecords (s : State) (n : Nat) : State :=
  (s.wrN (Reg.LANE_FOM_tx n) 0).setLnk n { s.lnk n with hasTx := false, latchesTx := 0 }

/-- R419, R424, R426, R437, R466: the lanes of link n power up at a gear and start their lead-in. -/
def State.wakeLink (s : State) (n : Nat) : State :=
  let g := s.firstGear n
  let s := if s.rdN (Reg.LINK_GEAR_gear n) = g then s else s.clearTxRecords n
  let s := ((s.wrN (Reg.LINK_GEAR_gear n) g).wrN (Reg.LINK_GEAR_next n) g)
  let s := if s.txAdmits n (s.rdN (Reg.LANE_EQ_tx_entry n)) g then s else s.entryForGear n g
  ((s.wrN (Reg.LANE_STATE_tx n) 2).wrN (Reg.LANE_STATE_bc n) 2).startLane n

/-- R422, R489, R492: link n fails at boot. -/
def State.failAtBoot (s : State) (n : Nat) : State :=
  let s := ((s.wrN (Reg.LANE_STATE_tx n) 5).wrN (Reg.LANE_STATE_bc n) 5).wrN (Reg.TILE_STATUS_cause n) 5
  s.setLsvc n { s.lsvc n with failed := true }

/-- R440, R600: the phase of a back-channel starts at its benchmark. -/
def State.benchPhase (s : State) (n : Nat) : State :=
  match s.benchmark with
  | none => s
  | some b =>
    let p := fieldLe b (816 + n) 1 % 64
    ((s.wrN (Reg.BC_TRIM_phase n) p).wrN (Reg.BC_TRIM_bench n) p).setLnk n { s.lnk n with benched := true }

/-- R444: the phase and the benchmark of every back-channel reset to those of the benchmark record. -/
def State.benchPhases (s : State) : State := (List.range s.par.tileLinks).foldl (fun s n => s.benchPhase n) s

/-- Boot stage 10 (R422, R612): link n comes up, fails, or rests with its quad. -/
def State.bootLink (s : State) (n : Nat) : State :=
  if s.boardFails n then s.failAtBoot n
  else if s.quadWanted (n / 4) then s.wakeLink n
  else (s.wrN (Reg.LANE_STATE_tx n) 1).wrN (Reg.LANE_STATE_bc n) 1

/-- Boot stage 10: every link. -/
def State.bootLinks (s : State) : State := (List.range s.par.tileLinks).foldl (fun s n => s.bootLink n) s

/-- R435, R436, R475: link n goes to rest: its message is no longer in flight, and nothing is due on its lane. -/
def State.restLink (s : State) (n : Nat) : State :=
  let x := s.lsvc n
  let s := s.setLsvc n { x with inflight := x.inflight.map fun m => { m with waitAck := false } }
  let off := fun h (s : State) => if s.rd h == 5 || s.rd h == 0 then s else s.wrN h 1
  let s := off (Reg.LANE_STATE_bc n) (off (Reg.LANE_STATE_tx n) s)
  (s.wrN (Reg.LANE_STATE_bc_aligned n) 0).setLnk n
    { s.lnk n with changing := false, due := [], svcCells := [], svcSlots := none, good := false, found := false, misses := 0,
                   open_ := [] }

/-- R520: every link quad rests. -/
def State.restLinks (s : State) : State := (List.range s.par.tileLinks).foldl (fun s n => s.restLink n) s

/-- R430, R431, R437: at a rest exit, the links of every quad that is wanted wake, each with the entries it used at rest entry. -/
def State.wakeLinks (s : State) : State :=
  (List.range s.par.tileLinks).foldl (fun s n =>
    if s.rd (Reg.LANE_STATE_tx n) == 1 && s.quadWanted (n / 4) then
      (s.setLnk n { s.lnk n with capFrom := 0, wokeTx := true, wokeBc := true }).wakeLink n
    else s) s

/-- R435: between device rests, quad q rests when each of its links has failed or serves no tile, and is powered again when one
serves a tile and has not failed. -/
def State.settleQuad (s : State) (q : Nat) : State :=
  let links := ((List.range 4).map (4 * q + ·)).filter (· < s.par.tileLinks)
  if s.stage < 10 || s.gated then s
  else if s.quadWanted q then
    links.foldl (fun s n => if s.rd (Reg.LANE_STATE_tx n) == 1 then s.wakeLink n else s) s
  else links.foldl (fun s n => s.restLink n) s

/-- R435: every quad, when tiles have come or gone. -/
def State.settleQuads (s : State) : State := (List.range (ceilDiv s.par.tileLinks 4)).foldl (fun s q => s.settleQuad q) s

/-- R437, R509: every lane that has been woken is aligned, or has timed out. -/
def State.lanesSettled (s : State) : Bool :=
  (List.range s.par.tileLinks).all fun n => s.rd (Reg.LANE_STATE_tx n) != 2 && s.rd (Reg.LANE_STATE_bc n) != 2

/-- R514, R612, R639: boot stage 11, once every lane is aligned or has timed out in stage 10. -/
def State.settleBoot (s : State) : State :=
  if s.stage = 10 ∧ s.lanesSettled = true then
    ({ s with frame := { s.frame with readyAt := some s.active } }.wrN Reg.RST_STATUS_stage 11).irq 12
  else s

end Sys2Proof.Machine
end

