-- ==== Sys2Proof/Machine/Health.lean ====
section
/-! DEFINITION. Die temperature, thermal states and thermal shutdown (R525 to R533). -/
namespace Sys2Proof.Machine
open Sys2Proof

/-- Health replaced. -/
def State.setHealth (s : State) (h : Health) : State := { s with health := h }

/-- The reading of a die in a sample. -/
def Sample.die (x : Sample) (d : Nat) : Int := if d = 0 then x.r0 else if d = 1 then x.r1 else x.r2

/-- R526: the sensor of die d has failed. -/
def State.sensorFailed (s : State) (d : Nat) : Bool := bit (s.rdN Reg.HEALTH_STATE_sensor_failed) d

/-- R526: a reading in −40 °C to 150 °C. -/
def readingOk (r : Int) : Bool := decide (-640 ≤ r) && decide (r ≤ 2400)

/-- R526: a reading of die d counts toward the failure of its sensor. -/
def State.checkSensor (s : State) (d : Nat) (r : Int) : State :=
  if s.sensorFailed d then s
  else
    let n := if readingOk r then 0 else Tab.get 0 s.health.invalid d + 1
    let s := s.setHealth { s.health with invalid := Tab.put 0 s.health.invalid d n }
    if 8 ≤ n then
      (s.wrN Reg.HEALTH_STATE_sensor_failed (s.rdN Reg.HEALTH_STATE_sensor_failed + 2 ^ d)).raise (.sensor d) 0x0039 1
        0x05 0 d (unsigned 64 r)
    else s

/-- The largest of some integers, `d` for none. -/
def maxOr (d : Int) : List Int → Int
  | [] => d
  | [x] => x
  | x :: t => max x (maxOr d t)

/-- R526: the readings that count, with the highest valid one plus 10 °C for a failed sensor; with no valid reading that is
open (log 44). -/
def State.effective (s : State) (t : Nat) (r : Nat → Int) : Sample × State :=
  let valid := ((List.range 3).filter fun d => !s.sensorFailed d && readingOk (r d)).map r
  let stands := if valid.isEmpty then signed 16 (Config.freeWord s.nfree).toNat else maxOr 0 valid + 160
  let v := fun d => if s.sensorFailed d then stands else r d
  (⟨t, v 0, v 1, v 2⟩, { s with nfree := s.nfree + 1 })

/-- R528: the rate of a die over the 64 latest samples, newest first. -/
def dieRate (l : List Sample) (d : Nat) : Int :=
  match l.head?, l[63]? with
  | some a, some b => floorDiv ((a.die d - b.die d) * 1000000) ((a.t : Int) - b.t)
  | _, _ => 0

/-- R525: the governing temperature and the governing rate. -/
def State.govTemp (s : State) : Int :=
  match s.health.samples.head? with
  | some x => max x.r0 (max x.r1 x.r2)
  | none => 0
def State.govRate (s : State) : Int :=
  max (dieRate s.health.samples 0) (max (dieRate s.health.samples 1) (dieRate s.health.samples 2))

/-- R529: the governing value, the threshold and the clear point of a level. -/
def State.levelOf (s : State) (l : Nat) : Int × Int × Int :=
  let t := s.govTemp
  let r := s.govRate
  match l with
  | 0 => (t, s.ef Reg.HEALTH_TH_warn, s.ef Reg.HEALTH_TH_warn - 48)
  | 1 => (t, s.ef Reg.HEALTH_TH_throttle, s.ef Reg.HEALTH_TH_throttle - 48)
  | 2 => (t, 1760, 0)
  | 3 => (r, s.ef Reg.HEALTH_RATE_TH_rate_warn, s.ef Reg.HEALTH_RATE_TH_rate_warn - 16)
  | _ => (r, s.ef Reg.HEALTH_RATE_TH_rate_act, s.ef Reg.HEALTH_RATE_TH_rate_act - 16)

/-- R529: a sample counts for a level, whose flag it may set or clear. -/
def State.countLevel (s : State) (l : Nat) : State :=
  let (v, th, clr) := s.levelOf l
  let h := s.health
  let up := if th ≤ v then Tab.get 0 h.above l + 1 else 0
  let down := if v < clr then Tab.get 0 h.below l + 1 else 0
  let set_ := bit h.flags l
  let flags := if 8 ≤ up ∧ set_ = false then h.flags + 2 ^ l
    else if 8 ≤ down ∧ set_ = true ∧ l ≠ 2 then h.flags - 2 ^ l else h.flags
  s.setHealth { h with above := Tab.put 0 h.above l (min 8 up), below := Tab.put 0 h.below l (min 8 down), flags := flags }

/-- R530: the thermal state and the rate state that flags make. -/
def thermalOf (flags : Nat) : Nat := if bit flags 2 then 3 else if bit flags 1 then 2 else b2n (bit flags 0)
def rateOf (flags : Nat) : Nat := if bit flags 4 then 2 else b2n (bit flags 3)

/-- R530: e10 is set in the marshal, with vector 10. -/
def State.e10 (s : State) : State := (s.setEvents 0 (flag 10)).irq 10

/-- R530: one of the two states takes a new value. -/
def State.stateChange (s : State) (h new warn : Nat) : State :=
  if s.rd h = (new : Int) then s
  else
    let s := (s.wrN h new).bump Reg.HEALTH_STATE_changes 1
    (s.noteRecord (if new = warn then 1 else 0) 0x05 0 0x0038 new (unsigned 64 s.govTemp)).e10

/-- R527: the rate of sampling after a sample. -/
def State.sampleRate (s : State) : State :=
  let t := s.govTemp
  let r := s.govRate
  let near := fun th : Int => (t - th).natAbs ≤ 80
  let busy := near (s.ef Reg.HEALTH_TH_warn) || near (s.ef Reg.HEALTH_TH_throttle) || near 1760 ||
    decide (s.efN Reg.HEALTH_RATE_TH_rate_warn < 2 * r.natAbs)
  let n := if busy then 0 else s.health.calm + 1
  let s := s.setHealth { s.health with calm := min 64 n }
  if busy then s.wrN Reg.HEALTH_STATE_fast 1 else if 64 ≤ n then s.wrN Reg.HEALTH_STATE_fast 0 else s

/-- R548: a rate as its register shows it; one that the register cannot hold is open (log 44). -/
def State.shownRate (s : State) (r : Int) : Int × State :=
  if -32768 ≤ r ∧ r ≤ 32767 then (r, s) else let (w, s) := s.fresh; (signed 16 w.toNat, s)

/-- R525, R528, R548: the registers that show a sample. -/
def State.showSample (s : State) : State :=
  match s.health.samples.head? with
  | none => s
  | some x =>
    let t := s.govTemp
    let hot := if x.r0 = t then 0 else if x.r1 = t then 1 else 2
    let r := fun d => dieRate s.health.samples d
    let (a, s) := s.shownRate (r 0)
    let (b, s) := s.shownRate (r 1)
    let (c, s) := s.shownRate (r 2)
    let g := if r 0 = s.govRate then a else if r 1 = s.govRate then b else c
    let s := ((s.wr Reg.HEALTH_TEMP_die0 x.r0).wr Reg.HEALTH_TEMP_die1 x.r1).wr Reg.HEALTH_TEMP_hub x.r2
    let s := ((s.wr Reg.HEALTH_RATE_die0 a).wr Reg.HEALTH_RATE_die1 b).wr Reg.HEALTH_RATE_hub c
    ((s.wr Reg.HEALTH_TEMP_governing t).wr Reg.HEALTH_RATE_governing g).wrN Reg.HEALTH_STATE_hot_die hot

/-- R532: the shutdown record. -/
def State.shutdownBytes (s : State) (die cause : Nat) : Bytes :=
  let t := match s.health.samples.head? with
    | some x => unsigned 16 (x.die die)
    | none => 0
  leBytes 8 s.stampWord ++ leBytes 1 die ++ leBytes 1 cause ++ leBytes 2 t ++
  leBytes 2 (unsigned 16 (s.rd Reg.HEALTH_RATE_governing)) ++ leBytes 2 0 ++ leBytes 8 (s.rdN Reg.FRAME_COUNT_count) ++
  leBytes 1 (s.rdN Reg.GOV_THERM_stage)

/-- Every sequencer stops (R531, R565, R610). -/
def State.stopSequencers (s : State) : State :=
  let stop := fun k (s : State) =>
    let s := if s.rd (stateReg k) == 1 then s.wrN (stateReg k) 0 else s
    s.setSeq k { s.seq k with waiting := none, lock := none, bitten := false, stores := [] }
  (List.range (s.par.clusters + 1)).foldl (fun s k => stop k s) s

/-- R475: the service queues are discarded without completion. -/
def State.clearMessages (s : State) : State :=
  (List.range s.par.tileLinks).foldl (fun s n =>
    let x := s.lsvc n
    if x.queue.isEmpty && x.inflight.isNone then s
    else (s.setLsvc n { x with queue := [], inflight := none }).wrN (Reg.SVC_STATUS_queued n) 0) s

/-- A SYNC of HOLD or PATTERN for every tile, outside a period, with the frame number of the last one sent (R531, R565). -/
def State.safeSync (s : State) (pattern : Bool) (index frame : Nat) (rest : Bool) (show_ : Nat) : State :=
  let m : SyncMode := if pattern then ⟨2, index⟩ else ⟨1, 0⟩
  let s := s.syncAll show_ frame (fun _ => m) rest
  { s with frame := { s.frame with showDue := some show_, lastFrame := frame } }

/-- R531: thermal shutdown, for a die and a cause. -/
def State.thermalShutdown (s : State) (die cause : Nat) : State :=
  if s.health.shutdown then s
  else
    let s := s.ringRecord 0x28000 1 (s.shutdownBytes die cause)
    let s := s.wrN Reg.HEALTH_STATE_state 3
    let s := { s with pins := { s.pins with thermAlert := true } }
    let s := (s.safeSync (s.ef Reg.HEALTH_CTRL_crit_action == 1) (s.efN Reg.HEALTH_CTRL_crit_pattern) s.frame.lastFrame true
      s.leadShow).stopSequencers.clearMessages
    s.setHealth { s.health with shutdown := true }

/-- THERMAL_SAMPLE (R525 to R531): a sample of the three diodes at `t` µs. -/
def execThermalSample (t : Nat) (r0 r1 r2 : BitVec 16) (s : State) : Host.Outcome State Fault Refusal :=
  if s.health.samples.any fun x => t ≤ x.t then .next s
  else
    let r := fun d : Nat => if d = 0 then r0.toInt else if d = 1 then r1.toInt else r2.toInt
    let s := ((s.checkSensor 0 (r 0)).checkSensor 1 (r 1)).checkSensor 2 (r 2)
    let all := s.rdN Reg.HEALTH_STATE_sensor_failed == 7
    let (x, s) := s.effective t r
    let s := (s.setHealth { s.health with samples := ([x] ++ s.health.samples).take 64 }).showSample
    let s := (((((s.countLevel 0).countLevel 1).countLevel 2).countLevel 3).countLevel 4)
    let s := s.stateChange Reg.HEALTH_STATE_rate_state (rateOf s.health.flags) 2
    let s := if s.health.shutdown then s else s.stateChange Reg.HEALTH_STATE_state (thermalOf s.health.flags) 2
    let s := s.sampleRate
    if all then .next (s.thermalShutdown 3 2)
    else if bit s.health.flags 2 then .next (s.thermalShutdown (s.rdN Reg.HEALTH_STATE_hot_die) 1)
    else .next s

/-- R533: every valid die reads below 85 °C in every sample of the last millisecond. -/
def State.coolEnough (s : State) : Bool :=
  match s.health.samples.head? with
  | none => false
  | some x => (s.health.samples.filter fun y => x.t ≤ y.t + 1000).all fun y =>
      (List.range 3).all fun d => s.sensorFailed d || decide (y.die d < 1360)

end Sys2Proof.Machine
end

