-- ==== Sys2Proof/Machine/Tiles.lean ====
section
/-! DEFINITION. The Uzolink tile protocol (R445 to R493): service messages, upstream packets and reports, alignment and its
loss, and sister-link failover. -/
namespace Sys2Proof.Machine
open Sys2Proof

/-! ### Service messages (R469 to R475) -/

/-- SVC_STATUS.queued follows the queue. -/
def State.setSvc (s : State) (n : Nat) (x : LinkSvc) : State := (s.setLsvc n x).wrN (Reg.SVC_STATUS_queued n) x.queue.length

/-- R162, R474: a message of link n completes with an outcome. -/
def State.svcDone (s : State) (n : Nat) (m : SvcMsg) (outcome : Nat) : State :=
  let s := (s.wrN (Reg.SVC_STATUS_ticket n) m.ticket).wrN (Reg.SVC_STATUS_outcome n) outcome
  match m.event with
  | some e => s.setEvents 0 (flag (16 + e))
  | none => s

/-- R475: the messages of link n complete with outcome 2. -/
def State.dropMessages (s : State) (n : Nat) : State :=
  let x := s.lsvc n
  let s := s.setSvc n { x with inflight := none, queue := [] }
  (x.inflight.toList ++ x.queue).foldl (fun s m => s.svcDone n m 2) s

/-- R475: no link of link n's tile can carry a message. -/
def State.noCarrier (s : State) (n : Nat) : Bool :=
  (s.tile (n / 2)).noLink ||
    ((s.lsvc n).failed || (s.lsvc n).failedOver) && !s.laneUp (sister n) ||
    ((s.lsvc (sister n)).failed || (s.lsvc (sister n)).failedOver) && !s.laneUp n

/-- R472: the message has a kind and a length that can be sent. -/
def msgOk (b : Bytes) : Bool :=
  decide (1 ≤ fieldLe b 0 1) && decide (fieldLe b 0 1 ≤ 6) && decide (fieldLe b 2 2 ≤ 4096)

/-- R161, R472, R475: a message is queued on link n; the ticket, or none when the queue is full. -/
def State.queueMessage (s : State) (n : Nat) (b : Bytes) (event : Option Nat) : Option Nat × State :=
  let x := s.lsvc n
  if 8 ≤ x.queue.length then (none, s)
  else
    let t := (x.accepted + 1) % 2 ^ 32
    let m : SvcMsg := ⟨t, b, event, n, 0, false⟩
    let s := s.setLsvc n { x with accepted := t }
    if !msgOk b then (some t, s.svcDone n m 3)
    else if s.noCarrier n then (some t, s.svcDone n m 2)
    else (some t, s.setSvc n { x with accepted := t, queue := x.queue ++ [m] })

/-- R471: the content of an SVC packet. -/
def svcContent (m : SvcMsg) : Bytes :=
  leBytes 4 m.ticket ++ leBytes 1 (fieldLe m.bytes 0 1) ++ leBytes 1 (m.link % 2) ++ leBytes 2 (fieldLe m.bytes 2 2) ++
    m.bytes.drop 8

/-- R433, R453, R470, R475: link `m` may start an SVC packet: it sends regular cells, none of its SVC packets is in progress, a
slot is assigned, the links do not rest, and while it carries its sister's slabs the last SLAB cell of the frame has gone. -/
def State.svcMay (s : State) (m : Nat) : Bool :=
  s.txLive m && s.laneRuns m && (s.lnk m).svcCells.isEmpty && s.rdN (Reg.SVC_SLOTS_active m) != 0 && s.ftState != 4 &&
    s.ftState != 5 && s.svcOpen m

/-- R474: a message of link n is in flight. -/
def State.svcInFlight (s : State) (n : Nat) : Bool := (s.lsvc n).inflight.any (·.waitAck)

/-- R447, R470: the SVC packet of a message is in progress on lane m; its cells go at the assigned slots. -/
def State.startSvc (s : State) (m : Nat) (msg : SvcMsg) : State :=
  s.setLnk m { s.lnk m with svcCells := packetCellsOf 0x4 (svcContent msg), svcSlots := none }

/-- SVC_PACKET_SEND (R163, R453, R470, R471, R474): the message of link n that is next goes out on the link that carries it. -/
def execSvcPacketSend (n : Nat) (s : State) : Host.Outcome State Fault Refusal :=
  if s.par.tileLinks ≤ n then .refused .noSuchUnit
  else
    let m := s.carrier n
    let x := s.lsvc n
    if !s.svcMay m || s.svcInFlight m || s.svcInFlight n || (s.carrying m && s.svcInFlight (sister m)) then .next s
    else match x.inflight, x.queue with
      | some msg, _ =>
        let s := if msg.sends = 0 then s else s.bump (Reg.TILE_CNT_svc_retries n) 1
        let s := s.setLsvc n { x with inflight := some { msg with sends := msg.sends + 1, waitAck := true } }
        .next (s.startSvc m msg)
      | none, msg :: rest =>
        let s := s.setSvc n { x with inflight := some { msg with sends := 1, waitAck := true }, queue := rest }
        .next (s.startSvc m msg)
      | none, [] => .next s

/-- R474: the message in flight of link n is to be sent again, or is given up. -/
def State.svcAgain (s : State) (n : Nat) : State :=
  let x := s.lsvc n
  match x.inflight with
  | some m =>
    if s.efN Reg.SVC_CTRL_retries ≤ m.sends then (s.setLsvc n { x with inflight := none }).svcDone n m 2
    else s.setLsvc n { x with inflight := some { m with waitAck := false } }
  | none => s

/-- SVC_ACK_TIMEOUT (R474): ack_us after the packet's last cell. -/
def execSvcAckTimeout (n : Nat) (s : State) : Host.Outcome State Fault Refusal :=
  if s.par.tileLinks ≤ n then .refused .noSuchUnit
  else if s.svcInFlight n && (s.lnk (s.carrier n)).svcCells.isEmpty then .next (s.svcAgain n) else .next s

/-- R469: the shadow slot table of link n. -/
def State.slotShadow (s : State) (n : Nat) : Nat :=
  s.rdN (Reg.SVC_SLOTS_table_lo n) + s.rdN (Reg.SVC_SLOTS_table_hi n) * 2 ^ 32

/-- MARKER_SEND (R449, R452, R465, R469): the marker of a period leaves in cell 0; a new delay and the shadow table come into
effect. -/
def execMarkerSend (n : Nat) (s : State) : Host.Outcome State Fault Refusal :=
  if s.par.tileLinks ≤ n then .refused .noSuchUnit
  else if !s.laneRuns n || (s.lnk n).cell != 0 then .next s
  else
    let x := s.lsvc n
    let s := s.wrN (Reg.LINK_TIME_delay n) (unsigned 32 x.delayNext)
    let s := if x.swapDue then s.wrN (Reg.SVC_SLOTS_active n) (s.slotShadow n) else s
    let seq := (s.lnk n).markers
    let now : Int := floorDiv ((s.clk.free.units : Int) * 1000) (2 ^ 32) / 100 * 100
    let s := s.setLsvc n { x with swapDue := false, departs := (x.departs ++ [(seq, now)]).drop (x.departs.length - 63) }
    .next (s.sendMarker n)

/-! ### Failover (R485 to R490) -/

/-- R486: the packets of link n that are not sent to their last cell go out whole on the lane that serves it now. -/
def State.resendAll (s : State) (n : Nat) : State :=
  let l := s.lnk n
  s.setLnk n { l with buffer := l.buffer.map fun p => { p with sent := 0, crc := crcStart } }

/-- R486, R487: link `m` carries the slabs of its sister n: every packet that n has not sent to its end counts, whole, against the
window of the whole period with no slot assigned. -/
def State.carryFor (s : State) (n m : Nat) : State :=
  let s := (s.setLsvc n { s.lsvc n with failedOver := true, restoreDue := false }).resendAll n
  let cells := (s.lnk n).toSend
  let l := s.lnk n
  let s := s.setLnk n { l with used := 0, svcCells := [], svcSlots := none, due := [] }
  let k := s.lnk m
  s.setLnk m { k with window := s.windowOf m, used := k.used + 31 * cells, cellsFrame := k.cellsFrame + cells }

/-- R486: a trigger of link n fires: the sister carries its slabs, and the fault is raised. -/
def State.failover (s : State) (n cause : Nat) : State :=
  let s := (s.wrN (Reg.TILE_STATUS_cause n) cause).bump (Reg.TILE_CNT_failovers n) 1
  (s.carryFor n (sister n)).raise (.link n) 0x0001 2 0x80 n cause (sister n)

/-- R475, R489: the tile of link n is left without a link. -/
def State.secondLink (s : State) (n : Nat) : State :=
  let k := n / 2
  let s := (s.wrN (Reg.TILE_STATUS_cause n) 6).setLsvc n { s.lsvc n with failed := true, restoreDue := false }
  let s := s.setLnk n { s.lnk n with buffer := [] }
  let s := s.setTile k { s.tile k with noLink := true }
  let s := s.raise (.tile k) 0x0002 3 0x80 n k 0
  ((s.dropMessages n).dropMessages (sister n)).settleQuad (n / 4)

/-- R485, R486, R489: a trigger of link n, which was armed before it or not. -/
def State.trigger (s : State) (n cause : Nat) (wasOk wasArmed : Bool) : State :=
  let x := s.lsvc (sister n)
  if !wasOk then s
  else if wasArmed then s.failover n cause
  else if x.failedOver || x.failed then s.secondLink n
  else s

/-- FAILOVER_TRIGGER (R485, R486): a trigger of link n fires, for cause 1 to 3 of TILE_STATUS.cause. -/
def execFailoverTrigger (n cause : Nat) (s : State) : Host.Outcome State Fault Refusal :=
  if s.par.tileLinks ≤ n then .refused .noSuchUnit
  else if cause = 0 ∨ 3 < cause then .next s
  else .next (s.trigger n cause (s.linkOk n) (s.armed n))

/-- FAILOVER_RESTORE (R490): both lanes of a failed-over link have been up for restore_ms. -/
def execFailoverRestore (n : Nat) (s : State) : Host.Outcome State Fault Refusal :=
  if s.par.tileLinks ≤ n then .refused .noSuchUnit
  else if (s.lsvc n).failedOver && s.laneUp n then .next (s.setLsvc n { s.lsvc n with restoreDue := true })
  else .next s

/-- R490: at a period start, link n takes back its slabs. -/
def State.takeBack (s : State) (n : Nat) : State :=
  let x := s.lsvc n
  if x.restoreDue then
    ((s.setLsvc n { x with restoreDue := false, failedOver := false, failed := false }).resendAll n).recovered (.link n)
  else s

/-- R438: the lanes of link n that are not aligned, each counted, have failed. -/
def State.lanesFail (s : State) (n : Nat) : State :=
  let lost := b2n (s.rd (Reg.LANE_STATE_tx n) == 2) + b2n (s.rd (Reg.LANE_STATE_bc n) == 2)
  let fail := fun h (s : State) => if s.rd h == 2 then s.wrN h 5 else s
  (fail (Reg.LANE_STATE_bc n) (fail (Reg.LANE_STATE_tx n) s)).bump (Reg.LANE_CNT_wake_fail n) lost

/-- R437, R438, R485: link n fails to wake: its trigger fires, as for loss of signal, where failover is enabled; a sister that is
not up yet takes the slabs when it is. -/
def State.wakeFailed (s : State) (n : Nat) : State :=
  let s := (s.lanesFail n).wrN (Reg.TILE_STATUS_cause n) 4
  let x := s.lsvc (sister n)
  if s.linkOk (sister n) && s.on Reg.FAILOVER_enable then s.failover n 4
  else if x.failed || x.failedOver then s.secondLink n
  else (s.setLsvc n { s.lsvc n with failed := true }).settleQuad (n / 4)

/-- LANE_WAKE_TIMEOUT (R438): a lane of link n is not aligned 40 µs after power-up. -/
def execLaneWakeTimeout (n : Nat) (s : State) : Host.Outcome State Fault Refusal :=
  if s.par.tileLinks ≤ n then .refused .noSuchUnit
  else if s.rd (Reg.LANE_STATE_tx n) == 2 || s.rd (Reg.LANE_STATE_bc n) == 2 && s.ftState == 5 then
    if (s.lsvc n).failedOver || (s.lsvc n).failed then .next (s.lanesFail n).settleBoot
    else .next (s.wakeFailed n).settleBoot
  else .next s

/-! ### Alignment (R418, R420, R437) -/

/-- R670: the tile of link n, which had no link, is carried by link n. -/
def State.tileBack (s : State) (n : Nat) : State :=
  let k := n / 2
  let s := s.setTile k { s.tile k with noLink := false }
  let s := s.setLsvc n { s.lsvc n with failed := false, failedOver := false }
  let s := s.setLsvc (sister n) { s.lsvc (sister n) with failed := false, failedOver := true }
  ((s.setLnk n { s.lnk n with window := s.windowOf n }).recovered (.tile k)).recovered (.link n)

/-- R419, R670: the failed lanes of link n are powered again, with their lead-in. -/
def State.retryLink (s : State) (n : Nat) : State :=
  if s.laneUp n || s.boardFails n then s else ((s.wrN (Reg.LANE_STATE_tx n) 2).wrN (Reg.LANE_STATE_bc n) 2).startLane n

/-- R437, R438, R489: link n has come up: it carries a tile that had no link, or a sister that has failed. The trigger of a sister
that failed to wake fires now; one that its board table fails is failed over from the start. -/
def State.linkUp (s : State) (n : Nat) : State :=
  let m := sister n
  let x := s.lsvc m
  if (s.tile (n / 2)).noLink then s.tileBack n
  else if !x.failed || x.failedOver || (s.lsvc n).failedOver then s
  else if s.rd (Reg.TILE_STATUS_cause m) == 4 then (if s.on Reg.FAILOVER_enable then s.failover m 4 else s)
  else s.carryFor m n

/-- LANE_ALIGNED (R418, R420, R437): the back-channel receiver of link n has found two markers a marker period, or a cell of a
lead-in, apart, and is aligned; a waking link is then up. -/
def execLaneAligned (n : Nat) (s : State) : Host.Outcome State Fault Refusal :=
  if s.par.tileLinks ≤ n then .refused .noSuchUnit
  else if !(s.lnk n).found then .next s
  else if s.rd (Reg.LANE_STATE_bc n) != 2 && !(s.rd (Reg.LANE_STATE_bc n) == 5 && !s.boardFails n) then .next s
  else
    let s := s.setLnk n { s.lnk n with found := false, misses := 0, open_ := [] }
    let s := ((s.wrN (Reg.LANE_STATE_bc n) 3).wrN (Reg.LANE_STATE_bc_aligned n) 1).wrN (Reg.LANE_STATE_bc_los n) 0
    let s := if s.rd (Reg.LANE_STATE_tx n) == 2 || s.rd (Reg.LANE_STATE_tx n) == 5 then s.wrN (Reg.LANE_STATE_tx n) 3 else s
    .next (if s.laneUp n then s.linkUp n else s).settleBoot

/-- The back-channel of link n is no longer aligned. -/
def State.loseAlignment (s : State) (n : Nat) : State :=
  let s := (s.wrN (Reg.LANE_STATE_bc n) 2).wrN (Reg.LANE_STATE_bc_aligned n) 0
  let s := s.setLnk n { s.lnk n with good := false, found := false, misses := 0, open_ := [], sweep := 0 }
  s.setLsvc n { s.lsvc n with restoreDue := false }

/-- ALIGNMENT_LOSS (R418, R485): two expected markers of the back-channel of link n in a row have failed the check. -/
def execAlignmentLoss (n : Nat) (s : State) : Host.Outcome State Fault Refusal :=
  if s.par.tileLinks ≤ n then .refused .noSuchUnit
  else if s.rd (Reg.LANE_STATE_bc n) != 3 || (s.lnk n).misses < 2 then .next s
  else .next ((s.loseAlignment n).trigger n 1 (s.linkOk n) (s.armed n))

/-- BC_LOSS_OF_SIGNAL (R420, R485): 64 bit times pass without a transition. Alignment stands until two markers fail (R418). -/
def execBcLossOfSignal (n : Nat) (s : State) : Host.Outcome State Fault Refusal :=
  if s.par.tileLinks ≤ n then .refused .noSuchUnit
  else if s.on (Reg.LANE_STATE_bc_los n) || (s.rd (Reg.LANE_STATE_bc n) != 2 && s.rd (Reg.LANE_STATE_bc n) != 3) then .next s
  else
    let t := (s.setLsvc n { s.lsvc n with restoreDue := false }).wrN (Reg.LANE_STATE_bc_los n) 1
    .next ((t.bump (Reg.LANE_CNT_los n) 1).trigger n 1 (s.linkOk n) (s.armed n))

/-! ### Upstream packets (R414 to R418, R445 to R448, R450, R451) -/

/-- R415 to R417: the cells that line bits of the back-channel of link n carry, and the receiver after them. The bits of a marker
are not scrambled, and the generator restarts after them. -/
def State.receive (s : State) (n : Nat) (marker : Bool) (line : Line) : List Bytes × State :=
  let l := s.lnk n
  let (raw, errs, e) := l.rx.take line
  let (d, e) := if marker then (raw, { e with scr := LineEnd.start.scr }) else e.descramble raw
  let k := d.length / 256
  (cutCells k d, (s.setLnk n { l with rx := e, since := l.since + k }).bump (Reg.LANE_CNT_stuff_err n) errs)

/-- R448, R485: an upstream packet on link n is discarded. -/
def State.discardUp (s : State) (n : Nat) : State :=
  let x := s.lsvc n
  let t := (s.bump (Reg.TILE_CNT_bc_crc n) 1).setLsvc n { x with discards := x.discards + 1 }
  if s.efN Reg.FAILOVER_crc_limit ≤ x.discards + 1 then t.trigger n 3 (s.linkOk n) (s.armed n) else t

/-- R480: the entries of the latest FAULT report of a tile. -/
def State.faultReport (s : State) (n : Nat) (c : Bytes) : State :=
  let k := n / 2
  let x := s.tile k
  if x.seqFault = some (fieldLe c 0 2) then s
  else s.setTile k { x with seqFault := some (fieldLe c 0 2),
                            faults := (List.range (min 256 (fieldLe c 2 2))).map fun i => fieldLe c (4 + 4 * i) 4 }

/-- R446, R448: a cell of a FAULT packet, the one multi-cell packet that comes upstream: it opens the packet, goes on with the open
one, or ends it. A cell of another code, one that opens a packet over an open one, or one that continues none is a discard. -/
def State.faultCell (s : State) (n : Nat) (cell : Bytes) : State :=
  let l := s.lnk n
  let t := cellType cell
  let sop := bit t 4
  if t % 16 ≠ 0x9 ∨ 64 ≤ t ∨ (sop = false ∧ l.open_ = []) then s.discardUp n
  else
    let s := if sop && !l.open_.isEmpty then s.discardUp n else s
    let cells := if sop then [cell] else l.open_ ++ [cell]
    if bit t 5 then
      let s := s.setLnk n { s.lnk n with open_ := [] }
      match packetContent 0x9 cells with
      | some c => s.faultReport n c
      | none => s.discardUp n
    else s.setLnk n { s.lnk n with open_ := cells }

/-- R446, R448: line bits of an aligned back-channel: IDLEs are dropped, what comes before the last cell can only be of a FAULT
packet, and the last cell acts. -/
def State.upstream (s : State) (n : Nat) (line : Line) (act : Bytes → State → State) : Host.Outcome State Fault Refusal :=
  if s.par.tileLinks ≤ n then .refused .noSuchUnit
  else if s.rd (Reg.LANE_STATE_bc n) != 3 then .next s
  else
    let (cells, s) := s.receive n false line
    let cells := cells.filter fun c => cellType c != 0x30
    let s := cells.dropLast.foldl (fun s c => s.faultCell n c) s
    match cells.getLast? with
    | some c => .next (act c s)
    | none => .next s

/-- R447, R448: a single-cell packet of a code on link n: it is discarded, or its content acts. -/
def State.report1 (s : State) (n code : Nat) (line : Line) (act : Bytes → State → State) : Host.Outcome State Fault Refusal :=
  s.upstream n line fun cell s =>
    match packetContent code [cell] with
    | some c => act c s
    | none => s.discardUp n

/-- R465: the link delay in ps, from the round trips held. -/
def State.linkDelay (s : State) (n : Nat) (rtts : List Int) : Int :=
  floorDiv rtts.sum (2 * max 1 rtts.length) + s.ef (Reg.LINK_TIME_skew n)

/-- R465: the round trip that a marker's echo closes. -/
def State.roundTrip (s : State) (n : Nat) (c : Bytes) : State :=
  let x := s.lsvc n
  let now : Int := floorDiv ((s.clk.free.units : Int) * 1000) (2 ^ 32) / 100 * 100
  match x.departs.find? fun d => d.1 == fieldLe c 7 4 with
  | none => s
  | some (_, t) =>
    let rtts := ([now - t - (fieldLe c 11 4 : Nat)] ++ x.rtts).take 16
    s.setLsvc n { x with rtts := rtts, delayNext := s.linkDelay n rtts }

/-- R418, R450, R465: a marker that passes the check, on link n: an aligned receiver has seen the marker that it expected, and its
signal is back (R420); one that is not has found the second of two where they lie a period or one cell apart. -/
def State.goodMarker (s : State) (n : Nat) (c : Bytes) : State :=
  let l := s.lnk n
  let apart := l.good && (l.since == 1024 || l.since == 1)
  let s := s.setLnk n { l with good := true, since := 0, misses := 0, found := l.found || apart }
  let s := s.wrN (Reg.TILE_STATUS_compat n) (b2n (bit (fieldLe c 2 1) 3))
  let s := if s.on (Reg.LANE_STATE_bc_aligned n) then s.wrN (Reg.LANE_STATE_bc_los n) 0 else s
  (s.setLsvc n { s.lsvc n with discards := 0 }).roundTrip n c

/-- R418, R448, R485: a cell in a marker's place fails the check; the marker period in which it is the last discard ends. -/
def State.badMarker (s : State) (n : Nat) : State :=
  let l := s.lnk n
  let s := s.setLnk n { l with good := false, since := 0, misses := l.misses + 1 }
  let s := if s.on (Reg.LANE_STATE_bc_aligned n) then s.discardUp n else s
  s.setLsvc n { s.lsvc n with discards := 0 }

/-- UPSTREAM_MARKER (R418, R420, R450, R451, R465): line bits whose last cell is a marker, or stands where one is expected. -/
def execUpstreamMarker (n : Nat) (line : Line) (s : State) : Host.Outcome State Fault Refusal :=
  if s.par.tileLinks ≤ n then .refused .noSuchUnit
  else if !([2, 3, 5].contains (s.rdN (Reg.LANE_STATE_bc n))) then .next s
  else
    let (cells, s) := s.receive n true line
    match cells.getLast? with
    | none => .next s
    | some cell =>
      match markerContentOf cell with
      | some c => .next (s.goodMarker n c)
      | none => .next (s.badMarker n)

/-! ### Reports (R480 to R482) -/

/-- The links of a tile. -/
def tileLinks (k : Nat) : List Nat := [2 * k, 2 * k + 1]

/-- R482: the growth of a STATUS count goes to a TILE_CNT field. -/
def State.grow (s : State) (h old new : Nat) : State := s.bump h ((new + 2 ^ 32 - old) % 2 ^ 32)

/-- R480, R485: the alarm of the endpoint's receiver on link n. -/
def State.alarmOf (s : State) (n : Nat) (on : Bool) : State :=
  let x := s.lsvc n
  if x.alarm = on then s
  else
    let t := s.setLsvc n { x with alarm := on, restoreDue := x.restoreDue && !on }
    if on then t.trigger n 2 (s.linkOk n) (s.armed n) else if t.laneUp n then t.linkUp n else t

/-- STATUS (R480, R482). -/
def execStatus (n : Nat) (line : Line) (s : State) : Host.Outcome State Fault Refusal :=
  s.report1 n 0x8 line fun c s =>
    let k := n / 2
    let x := s.tile k
    if x.seqStatus = some (fieldLe c 0 2) then s
    else
      let f := fieldLe c 2 1
      let counts := (List.range 4).map fun i => fieldLe c (8 + 4 * i) 4
      let s := s.setTile k { x with seqStatus := some (fieldLe c 0 2), counts := counts }
      let s := (tileLinks k).foldl (fun s n =>
        (s.wrN (Reg.TILE_STATUS_held n) (b2n (bit f 2))).wrN (Reg.TILE_FLIP_frame n) (fieldLe c 4 4)) s
      let s := (((s.grow (Reg.TILE_CNT_slab_drop n) (x.counts.getD 0 0) (counts.getD 0 0)).grow (Reg.TILE_CNT_not_held n)
        (x.counts.getD 1 0) (counts.getD 1 0)).grow (Reg.TILE_CNT_rejected n) (x.counts.getD 2 0)
        (counts.getD 2 0)).grow (Reg.TILE_CNT_late_sync n) (x.counts.getD 3 0) (counts.getD 3 0)
      (s.alarmOf (2 * k) (bit f 0)).alarmOf (2 * k + 1) (bit f 1)

/-- FAULT (R446, R448, R480): the report's cells; it acts once its last one has come. -/
def execFault (n : Nat) (line : Line) (s : State) : Host.Outcome State Fault Refusal :=
  s.upstream n line fun cell s => s.faultCell n cell

/-- TEMP (R397, R480). -/
def execTemp (n : Nat) (line : Line) (s : State) : Host.Outcome State Fault Refusal :=
  s.report1 n 0xA line fun c s =>
    let k := n / 2
    let x := s.tile k
    if x.seqTemp = some (fieldLe c 0 2) then s
    else
      let t := fieldLe c 2 2
      let s := s.setTile k { x with seqTemp := some (fieldLe c 0 2), temp := some (signed 16 t), age := 0, stale := false }
      (tileLinks k).foldl (fun s n => s.wr (Reg.TILE_TEMP_temp n) (signed 16 t)) s

/-- CRACK (R480, R482): an open loop is a fault of its tile, which its closing ends (R670). -/
def execCrack (n : Nat) (line : Line) (s : State) : Host.Outcome State Fault Refusal :=
  s.report1 n 0xD line fun c s =>
    let k := n / 2
    let x := s.tile k
    if x.seqCrack = some (fieldLe c 0 2) then s
    else
      let open_ := bit (fieldLe c 2 1) 0
      let s := s.setTile k { x with seqCrack := some (fieldLe c 0 2), crackOpen := open_, opens := fieldLe c 12 4 }
      if open_ && !x.crackOpen then s.raise (.tile k) 0x0031 3 0x80 n k (fieldLe c 12 4)
      else if !open_ && x.crackOpen && !x.noLink then s.recovered (.tile k)
      else s

/-- ACK (R474, R480): the message in flight of the link that the role names is answered. -/
def execAck (n : Nat) (line : Line) (s : State) : Host.Outcome State Fault Refusal :=
  s.report1 n 0xB line fun c s =>
    let l := n / 2 * 2 + fieldLe c 5 1 % 2
    let x := s.lsvc l
    match x.inflight with
    | some m =>
      if !m.waitAck || m.ticket ≠ fieldLe c 0 4 then s
      else match fieldLe c 4 1 with
        | 0 => (s.setLsvc l { x with inflight := none }).svcDone l m 0
        | 2 => (s.setLsvc l { x with inflight := none }).svcDone l m 1
        | 1 => s.svcAgain l
        | 3 => s.svcAgain l
        | _ => s
    | none => s

/-- R430: a report counts toward a rise of the cap. -/
def State.countRaise (s : State) (n fom : Nat) : State :=
  let l := s.lnk n
  let c := s.rdN (Reg.LINK_GEAR_cap n)
  if c < 3 ∧ s.rdN (Reg.LINK_GEAR_gear n) = c then
    s.setLnk n { l with raises := if s.efN (Reg.LANE_ADAPT_fom_raise n) ≤ fom then l.raises + 1 else 0 }
  else s

/-- EYE (R426, R430, R431, R480, R482): the report is of the link that its receiver names. -/
def execEye (n : Nat) (line : Line) (s : State) : Host.Outcome State Fault Refusal :=
  s.report1 n 0xC line fun c s =>
    let f := fieldLe c 3 1
    let l := n / 2 * 2 + f % 2
    let fom := fieldLe c 0 1
    let early := 2 ^ 31 ≤ (fieldLe c 4 4 + 2 ^ 32 - (s.lnk l).entryMark % 2 ^ 32) % 2 ^ 32
    if bits f 2 2 ≠ s.rdN (Reg.LINK_GEAR_gear l) ∨ early then s
    else (((s.wrN (Reg.LANE_EQ_tx_fom l) fom).recordTx l fom).countRaise l fom).wakeTx l fom

end Sys2Proof.Machine
end

