-- ==== Sys2Proof/Machine/Faults.lean ====
section
/-! DEFINITION. The fault manager: handling, its queue, the safe states and the fault log (R549 to R571), and the hub-die
engines (R554). -/
namespace Sys2Proof.Machine
open Sys2Proof

/-- The fault manager replaced. -/
def State.setFm (s : State) (f : FaultMgr) : State := { s with fm := f }

/-- R557: the dependency rank of a resource. -/
def Resource.rank : Resource → Nat
  | .reference _ => 1
  | .datum _ => 2
  | .slice _ => 3
  | .dram _ => 4
  | .marshal => 5
  | .cluster _ => 6
  | .hub _ _ => 7
  | .port _ => 8
  | .stream _ => 8
  | .link _ => 9
  | _ => 10

/-- R557: clusters come by logical index. -/
def Resource.sub : Resource → Nat
  | .cluster l => l
  | _ => 0

/-- R557: fault `a` is taken before fault `b`, which was detected later. -/
def FaultItem.before_ (a b : FaultItem) : Bool :=
  decide (b.sev < a.sev) ||
    (a.sev == b.sev && (decide (a.res.rank < b.res.rank) ||
      (a.res.rank == b.res.rank && decide (a.res.sub ≤ b.res.sub))))

/-- R557: the queued fault that is taken next. -/
def nextFault : List FaultItem → Option FaultItem
  | [] => none
  | a :: t =>
    match nextFault t with
    | none => some a
    | some b => if a.before_ b then some a else some b

/-- R571: the count of a severity. -/
def sevReg (n : Nat) : Nat :=
  match n with
  | 1 => Reg.FM_CNT_s1
  | 2 => Reg.FM_CNT_s2
  | 3 => Reg.FM_CNT_s3
  | _ => Reg.FM_CNT_s4

/-- R562, R568: the record of a fault. -/
def State.recordFault (s : State) (f : FaultItem) (discarded : Bool) : State :=
  let byte4 := f.sev + 2 + 8 * b2n (f.before != 0) + 16 * b2n f.queued + 32 * b2n f.preempted + 64 * b2n discarded
  let before := if f.before = 0 then 0 else f.before + 2
  (s.bump (sevReg f.sev) 1).record byte4 f.unit f.inst f.cause before f.depth f.d0 f.d1 f.time

/-- FM_STATUS follows what is in hand and what waits (R571). -/
def State.showFm (s : State) : State :=
  let n := s.fm.queue.length
  let s := (s.wrN Reg.FM_STATUS_queued n).wrN Reg.FM_CNT_queue_max (max n (s.rdN Reg.FM_CNT_queue_max))
  match s.fm.handling with
  | some f => (s.wrN Reg.FM_STATUS_state 1).wrN Reg.FM_STATUS_handling f.sev
  | none => (s.wrN Reg.FM_STATUS_state 0).wrN Reg.FM_STATUS_handling 0

/-! ### The S3 state (R560, R563, R564) -/

/-- R560: the plots that a logical index has rendered of late. -/
def State.plotsServed (s : State) (l : Nat) : List Nat :=
  let (a, b) := Tab.get ([], []) s.hub.plots l
  a ++ b

/-- R560: the tiles that a resource serves, and which take the S3 state for a fault of it. -/
def State.tilesOf (s : State) (f : FaultItem) : List Nat :=
  let all := List.range s.tileCount
  match f.res with
  | .cluster l => if s.par.spare = 0 then all else all.filter fun k => (s.plotsServed l).any fun p => s.tileOf p == k
  | .link n => [n / 2]
  | .tile k => if f.cause = 0x0002 then [k] else []
  | .dram _ => all
  | .slice _ => all
  | .marshal => all
  | .datum _ => all
  | .reference _ => all
  | _ => []

/-- R559, R560: an S3 is applied: the resource stands, unless it has recovered already. -/
def State.applyS3 (s : State) (f : FaultItem) : State :=
  let stands := s.fm.recovering.any fun x => x.res = f.res ∧ x.sev = 3
  let rest := s.fm.holds.filter fun h => h.res ≠ f.res
  let hold : Hold := ⟨f.res, s.tilesOf f, if stands then none else some (s.wholeAfter f.res)⟩
  s.setFm { s.fm with
    standing := if stands && !s.fm.standing.contains f.res then s.fm.standing ++ [f.res] else s.fm.standing
    holds := rest ++ [hold] }

/-- R563, R564: tile `k` is in the S3 state at the SYNC that names frame `shown`. -/
def State.s3Holds (s : State) (shown k : Nat) : Bool :=
  s.fm.holds.any fun h => h.tiles.contains k && match h.free with
    | some f => decide (shown < f)
    | none => true

/-- R564: holds that no SYNC can need any more are dropped. -/
def State.dropHolds (s : State) (shown : Nat) : State :=
  s.setFm { s.fm with holds := s.fm.holds.filter fun h => match h.free with
    | some f => decide (shown < f)
    | none => true }

/-! ### The S4 safe state (R561, R565) -/

/-- e7 in the marshal, with vector 0 (R72, R639). -/
def State.e7 (s : State) : State := (s.setEvents 0 (flag 7)).irq 0

/-- R565: a safe-state SYNC on every link that is up, and a BEACON. -/
def State.s4Sync (s : State) (at_ : Int) : State :=
  let (p, i) := match s.fm.safePattern with
    | some i => (true, i)
    | none => (false, 0)
  (s.safeSync p i s.frame.lastFrame false (unitsWord at_)).setFm { s.fm with safeShow := at_ }

/-- R565, R568, R602: the S4 record's copy goes to the NVM. -/
def State.s4Ring (s : State) : State :=
  let head := (s.rdN Reg.FM_LOG_head + 2 ^ 32 - 1) % 2 ^ 32
  s.ringRecord 0x30000 2 (Tab.getBytes s.fm.ring (32 * (head % 1024)) 32)

/-- R561, R565: the S4 fault `f` is taken, with another that its arrival discards. -/
def State.enterS4 (s : State) (f : FaultItem) (also : List FaultItem) : State :=
  let lost := s.fm.handling.toList ++ s.fm.preempted ++ s.fm.queue ++ also
  let pat := if s.ef Reg.FM_CTRL_s4_action = 1 then some (s.efN Reg.FM_CTRL_s4_pattern) else none
  let s := s.setFm { s.fm with handling := none, preempted := [], queue := [], safePattern := pat }
  let s := ((s.wrN Reg.FM_STATUS_state 2).wrN Reg.FM_STATUS_handling 0).wrN Reg.FM_STATUS_queued 0
  let s := (s.wrN Reg.FM_STATUS_worst 4).stopSequencers
  let s := lost.foldl (fun s g => s.recordFault g true) s
  let s := ((s.recordFault f false).s4Ring).e7
  s.s4Sync (s.active + nsUnits (1000 * s.efN Reg.LINK_SYNC_lead_us))

/-- R561, R569: the overflow that a fault arriving at a full queue makes. -/
def State.overflow (s : State) (f : FaultItem) : State :=
  let o : FaultItem := ⟨.hub 0xFF 0, 0x0048, 4, 0, 0x03, 0, f.cause + f.sev * 2 ^ 16, f.unit + f.inst * 2 ^ 8, f.time, false,
    false, 16, f.frame⟩
  s.enterS4 o [f]

/-! ### Taking and handling faults (R557, R558, R561, R562) -/

/-- R557, R559, R561: the fault manager takes a detected fault. -/
def State.takeFault (s : State) (f : FaultItem) : State :=
  let n := s.fm.queue.length
  let s := s.wrN Reg.FM_STATUS_worst (max f.sev (s.rdN Reg.FM_STATUS_worst))
  let s := if f.before = 0 then s else s.bump Reg.FM_CNT_escalations 1
  if s.inS4 then s.recordFault f false
  else if f.sev = 4 then s.enterS4 { f with depth := n } []
  else match s.fm.handling with
    | none => (s.setFm { s.fm with handling := some { f with depth := n } }).showFm
    | some h =>
      if h.sev < f.sev then
        ((s.setFm { s.fm with handling := some { f with depth := n, preempted := true },
                              preempted := h :: s.fm.preempted }).bump Reg.FM_CNT_preemptions 1).showFm
      else if 16 ≤ n then s.overflow f
      else (s.setFm { s.fm with queue := s.fm.queue ++ [{ f with queued := true, depth := n + 1 }] }).showFm

/-- FAULT_DETECTED (R557 to R561, R565): the oldest detected fault is taken. -/
def execFaultDetected (s : State) : Host.Outcome State Fault Refusal :=
  match s.fm.detected with
  | [] => .next s
  | f :: t => .next ((s.setFm { s.fm with detected := t }).takeFault f)

/-- R557: the handling that goes on next. -/
def State.nextHandling (s : State) : State :=
  match s.fm.preempted with
  | h :: t => (s.setFm { s.fm with handling := some h, preempted := t }).showFm
  | [] =>
    match nextFault s.fm.queue with
    | some f => (s.setFm { s.fm with handling := some f, queue := s.fm.queue.erase f }).showFm
    | none => (s.setFm { s.fm with handling := none }).showFm

/-- FAULT_HANDLED (R558, R562): the handling in hand ends: its record, e7 for S2 and above, and the S3 state. -/
def execFaultHandled (s : State) : Host.Outcome State Fault Refusal :=
  match s.fm.handling with
  | none => .next s
  | some f =>
    let s := s.recordFault f false
    let s := if 2 ≤ f.sev then s.e7 else s
    let s := if f.sev = 3 then s.applyS3 f else s
    .next s.nextHandling

/-- SAFE_STATE_SYNC (R565): `dt` ticks pass; a nominal period has gone by since the latest safe-state SYNC. -/
def execSafeStateSync (dt : Nat) (s : State) : Host.Outcome State Fault Refusal :=
  let s := s.advance dt
  let next := s.fm.safeShow + nsUnits (s.efN Reg.FT_PERIOD_nominal_ns)
  if s.inS4 && decide (next - nsUnits (1000 * s.efN Reg.LINK_SYNC_lead_us) ≤ s.active) then .next (s.s4Sync next)
  else .next s

/-! ### Hub-die engines (R554) -/

/-- The class and instance name a hub-die engine. -/
def State.isHubEngine (s : State) (cls inst : Nat) : Bool := decide (3 ≤ cls) && s.queueExists cls inst 0

/-- The state that the registers of an engine's block show. -/
def State.showEngine (s : State) (cls inst st : Nat) : State :=
  match cls with
  | 3 => s.wrN (Reg.DEC_STATUS_state inst) st
  | 6 => s.wrN Reg.TRUST_STATUS_state st
  | _ => s

/-- HUB_ENGINE_FAULT (R554). -/
def execHubEngineFault (cls inst : Nat) (s : State) : Host.Outcome State Fault Refusal :=
  if !s.isHubEngine cls inst then .refused .noSuchUnit
  else if s.engineDown cls inst then .next s
  else
    let s := if cls = 3 then { s with dec := Tab.del s.dec inst } else s
    .next ((s.engineFault cls inst).showEngine cls inst 3)

/-- R554: an engine's queue is empty and its done count is that of the descriptors accepted. -/
def State.flushQueue (s : State) (key : Nat) : State :=
  let q := s.engQ key
  s.setEngQ key { q with done := q.accepted, entries := [] }

/-- R554: FM_ENGINE.target. -/
def State.engineTarget (s : State) (v : Nat) : State :=
  let cls := v % 32
  let inst := v / 32 % 4096
  if !s.isHubEngine cls inst || !s.engineDown cls inst then s
  else
    let s := { s with engDown := s.engDown.filter (· ≠ cls * 4096 + inst) }
    let s := (s.flushQueue (qKey cls inst 0)).flushQueue (qKey cls inst 1)
    let s := if cls = 4 then
        let q := if s.ing.playJob.isSome then s.clk.free.units else s.ing.quietAt
        { s with ing := { s.ing with recJob := none, playJob := none, quietAt := q } }.wrN Reg.ING_STATE_playback 0
      else s
    (s.showEngine cls inst 0).recovered (.hub cls inst)

end Sys2Proof.Machine
end

