-- ==== Sys2Proof/Machine/Ingest.lean ====
section
/-! DEFINITION. Scene ingest (R176 to R207): the packets, A and B merging, the assembly of a frame, cell versions, the layer
set and the clip store. -/
namespace Sys2Proof.Machine
open Sys2Proof

/-! ### Frames and cells -/

/-- ING_STATE.target. -/
def State.target (s : State) : Nat := s.rdN Reg.ING_STATE_target

/-- The assembly of the target frame, or of the frame after it. -/
def State.asm (s : State) (after : Bool) : Asm := if after then s.ing.nxt else s.ing.cur

/-- The state with an assembly replaced. -/
def State.setAsm (s : State) (after : Bool) (a : Asm) : State :=
  if after then { s with ing := { s.ing with nxt := a } } else { s with ing := { s.ing with cur := a } }

/-- The frame number of an assembly. -/
def State.asmFrame (s : State) (after : Bool) : Nat := if after then (s.target + 1) % 2 ^ 32 else s.target

/-- A cell of which nothing is held. -/
def blankCell : CellAsm := ⟨none, [], [], 0, false, false⟩

/-- The key of a cell position, from cx + 1 and cy + 1. -/
def cellKey (cx1 cy1 : Nat) : Nat := cy1 * 256 + cx1

/-- A cell of an assembly. -/
def State.cellAsm (s : State) (after : Bool) (k : Nat) : CellAsm := Tab.get blankCell (s.asm after).cells k

/-- The state with a cell of an assembly replaced. -/
def State.setCellAsm (s : State) (after : Bool) (k : Nat) (c : CellAsm) : State :=
  let a := s.asm after
  s.setAsm after { a with cells := Tab.put blankCell a.cells k c }

/-- The position lies in the section and its margin (R181). -/
def State.cellOk (s : State) (cx1 cy1 : Nat) : Bool := decide (cx1 < s.cellsX) && decide (cy1 < s.cellsY)

/-- A margin cell. -/
def State.isMargin (s : State) (k : Nat) : Bool :=
  k % 256 == 0 || k % 256 == s.sectW + 1 || k / 256 == 0 || k / 256 == s.sectH + 1

/-- Width and height of a cell in blocks (R221). -/
def State.cellBx (s : State) (k : Nat) : Nat := if k % 256 = 0 ∨ k % 256 = s.sectW + 1 then 2 else 4
def State.cellBy (s : State) (k : Nat) : Nat := if k / 256 = 0 ∨ k / 256 = s.sectH + 1 then 2 else 4

/-- Pixels of a cell. -/
def State.cellPixels (s : State) (k : Nat) : Nat := 256 * s.cellBx k * s.cellBy k

/-- Raster index of a cell from (-1, -1) (R200). -/
def State.cellIndex (s : State) (k : Nat) : Nat := (k / 256) * s.cellsX + k % 256

/-- Fabric address of a version of a cell (log 4). -/
def verAddr (slot k : Nat) : Nat := 64 * (Config.versionSlot slot k).toNat

/-- Fabric address of layer `l` of a version (R201). -/
def State.layerAddr (s : State) (slot k l : Nat) : Nat := verAddr slot k + 64 + 10 * s.cellPixels k * l

/-- R192: the age of a tag in frame n. -/
def ageIn (n tag : Nat) : Nat := (n + 2 ^ 32 - tag) % 2 ^ 32

/-- R196: an update is settled. -/
def CellAsm.settled (c : CellAsm) : Bool := c.complete || c.given

/-! ### The layer set (R200) -/

/-- Fabric address of the signature array. -/
def State.sigArray (s : State) : Nat :=
  s.rdN Reg.ING_SET_next + ceilDiv (64 + 16 * (s.cellsX * s.cellsY)) 64 * 64

/-- R200: the header of the target's layer set. -/
def State.headerBytes (s : State) : Bytes :=
  let a := s.ing.cur
  leBytes 4 s.target ++ leBytes 1 s.sectW ++ leBytes 1 s.sectH ++ leBytes 1 a.guards.length ++
  leBytes 1 (s.rdN Reg.ING_STATE_assembled + 2 * s.rdN Reg.ING_STATE_playback) ++
  leBytes 8 (match a.head with | some h => h.show_ | none => 0) ++
  leBytes 4 (a.guards.foldl (fun m (r, _) => m + 2 ^ r) 0) ++ leBytes 4 0 ++ leBytes 8 s.sigArray ++ leBytes 32 0

/-- R200: the header and the signature array are written. -/
def State.writeSetHeader (s : State) : State :=
  let a := s.rdN Reg.ING_SET_next
  if a = 0 then s
  else
    (s.writeMem .ingest a s.headerBytes).writeMem .ingest s.sigArray
      ((List.range 32).flatMap fun r => leBytes 4 (Tab.get 0 s.ing.cur.guards r))

/-- R192, R194, R200: the entry of a cell in a set that closes as frame n. The tag and age of a cell without a version are
free values (log 36). -/
def State.writeEntry (s : State) (n k : Nat) : State :=
  let a := s.rdN Reg.ING_SET_next + 64 + 16 * s.cellIndex k
  match Tab.find s.ing.vers k with
  | none =>
    let (w, s) := s.fresh
    s.writeMem .ingest a (leBytes 8 (2 ^ 45) ++ leBytes 8 w.toNat)
  | some v =>
    let age := ageIn n v.tag
    let w := verAddr v.slot k + v.layers * 2 ^ 40 + b2n (1 ≤ age && age ≤ 8) * 2 ^ 44 + b2n (8 < age) * 2 ^ 45
    s.writeMem .ingest a (leBytes 8 w ++ leBytes 4 v.tag ++ leBytes 4 age)

/-- The keys of the cell positions, in raster order. -/
def State.cellKeys (s : State) : List Nat :=
  (List.range s.cellsY).flatMap fun y => (List.range s.cellsX).map fun x => cellKey x y

/-- The set of the closing target is written whole. -/
def State.writeSet (s : State) : State :=
  if s.rdN Reg.ING_SET_next = 0 then s
  else (s.cellKeys.foldl (fun s k => s.writeEntry s.target k) s).writeSetHeader

/-- A new target begins its layer set (log 4). -/
def State.beginSet (s : State) : State :=
  let n := s.ing.sets + 1
  let s := { s with ing := { s.ing with sets := n } }
  ((s.wrN Reg.ING_SET_next (64 * (Config.layerSetSlot n).toNat)).wrN Reg.ING_STATE_assembled 0).writeSetHeader

/-! ### Completion (R190, R196) -/

/-- R196, R198: the target is assembled. -/
def State.markAssembled (s : State) : State :=
  ((((s.wrN Reg.ING_STATE_assembled 1).writeSetHeader).setEvents 0 (flag 5))).irq 5

/-- R196: everything that the target's FRAME_HEAD names is held and settled. A GUARD entry that R359 ignores is not held, here
and in the header of R200 (DEDUCED, log 83). -/
def State.assemblyDone (s : State) : Bool :=
  match s.ing.cur.head with
  | none => false
  | some h =>
    decide (h.heads ≤ (s.ing.cur.cells.filter fun c => c.2.head.isSome).length) &&
      s.ing.cur.cells.all (fun c => c.2.head.isNone || c.2.settled) && decide (h.guards ≤ s.ing.cur.guards.length)

/-- R196: the target becomes assembled when all is held. -/
def State.checkAssembled (s : State) : State :=
  if s.rd Reg.ING_STATE_assembled == 0 && s.assemblyDone then s.markAssembled else s

/-- R190, R195: the update becomes the cell's current version. -/
def State.install (s : State) (n k : Nat) (c : CellAsm) : State :=
  match c.head with
  | none => s
  | some h => { s with ing := { s.ing with vers := Tab.set s.ing.vers k ⟨c.slot - 1, n, h.layers.length⟩ } }

/-- An update of a cell is in progress: it has a version and has not settled. -/
def CellAsm.inProgress (c : CellAsm) : Bool := c.slot != 0 && !c.settled

/-- One more than the version slot of a cell that the layer set being rendered references; 0 for none. -/
def State.renderedSlot (s : State) (k : Nat) : Nat :=
  match s.ing.closed.find? fun x => x.1 == s.rdN Reg.FT_COMMIT_current with
  | some x => Tab.get 0 x.2 k
  | none => 0

/-- R195: a version slot that the set being rendered, the cell's version and no update use, of three; none while another
update of the cell holds the last one. An update of the frame after the target that is complete before the target's begins has
a fourth (DEDUCED, log 81). -/
def State.freeSlot (s : State) (k : Nat) : Option Nat :=
  let a := s.cellAsm false k
  let b := s.cellAsm true k
  let used := [s.renderedSlot k, a.slot, b.slot, (match Tab.find s.ing.vers k with | some v => v.slot + 1 | none => 0)]
  (List.range (if a.inProgress || b.inProgress then 3 else 4)).find? fun v => !used.contains (v + 1)

/-- R201: the head of a cell version. -/
def versionHead (h : CellHead) : Bytes :=
  (h.bg.flatMap fun v => leBytes 2 v) ++
  ((List.range 8).flatMap fun l => leBytes 2 (unsigned 16 ((h.layers[l]?.map (·.disp)).getD 0))) ++
  leBytes 1 h.layers.length ++ leBytes 41 0

/-- The update of a cell is complete. -/
def State.completeCell (s : State) (after : Bool) (k : Nat) : State :=
  let c := { s.cellAsm after k with complete := true }
  let s := s.setCellAsm after k c
  if after then s else s.install s.target k c

/-- R190: the bytes of a layer from offset `p`, as far as chunks cover them. -/
def gather (cs : List (Nat × Nat × Bytes)) (l : Nat) : Nat → Nat → Bytes
  | 0, _ => []
  | n + 1, p =>
    match cs.find? (fun c => c.1 == l && c.2.1 == p) with
    | some c => c.2.2 ++ gather cs l n (p + c.2.2.length)
    | none => []

/-- R190, R199: the complete layer bitstreams of a cell join the queue for the slices, in order of arrival. -/
def State.queueLayers (s : State) (after : Bool) (k : Nat) : State :=
  let c := s.cellAsm after k
  match c.head with
  | none => s
  | some h =>
    if c.settled then s
    else (List.range h.layers.length).foldl (fun s l =>
      let c := s.cellAsm after k
      let len := (h.layers[l]?.map (·.len)).getD 0
      let data := (gather c.chunks l c.chunks.length 0).take len
      if Tab.get 0 c.layers l = 0 ∧ data.length = len then
        let s := s.setCellAsm after k { c with layers := Tab.put 0 c.layers l 1 }
        { s with ing := { s.ing with waiting := s.ing.waiting ++ [⟨s.asmFrame after, k, l, data⟩] } }
      else s) s

/-- R195: an update takes a version slot and writes its head, or it is held while an earlier update of the cell has the free
version. -/
def State.beginCell (s : State) (after : Bool) (k : Nat) : State :=
  let c := s.cellAsm after k
  match c.head, s.freeSlot k with
  | some h, some v =>
    if h.rep || c.slot != 0 || c.settled then s
    else
      let s := (s.setCellAsm after k { c with slot := v + 1 }).writeMem .ingest (verAddr v k) (versionHead h)
      if h.layers.isEmpty then s.completeCell after k else s
  | _, _ => s

/-- R196: ingest ceases to pursue an update, and its version is free. -/
def State.giveUp (s : State) (after : Bool) (k : Nat) : State :=
  s.setCellAsm after k { s.cellAsm after k with given := true, slot := 0 }

/-- An update of a cell has settled: one that was held may begin, and the target may be assembled. -/
def State.settle_cell (s : State) (k : Nat) : State := ((s.beginCell false k).beginCell true k).checkAssembled

/-- R182: a repeat head of the target is considered. -/
def State.repeatHead (s : State) (k : Nat) : State :=
  let n := s.target
  match Tab.find s.ing.vers k with
  | some v =>
    if 1 ≤ ageIn n v.tag ∧ ageIn n v.tag ≤ 8 then
      let s := { s with ing := { s.ing with vers := Tab.set s.ing.vers k { v with tag := n } } }
      s.setCellAsm false k { s.cellAsm false k with complete := true }
    else (s.giveUp false k).bump Reg.ING_CNT_cold_reject 1
  | none => (s.giveUp false k).bump Reg.ING_CNT_cold_reject 1

/-! ### Packets (R177 to R188) -/

/-- Fields of the packet header (R177). -/
def pktType (b : Bytes) : Nat := fieldLe b 3 1
def pktStream (b : Bytes) : Nat := fieldLe b 4 1 % 2
def pktFrame (b : Bytes) : Nat := fieldLe b 8 4
def pktBody (b : Bytes) : Bytes := b.drop 20

/-- R178: the payload length suits the type. -/
def lengthSuits (ty n : Nat) : Bool :=
  match ty with
  | 1 => n == 16
  | 2 => decide (16 ≤ n)
  | 3 => decide (8 < n)
  | 4 => n % 8 == 0 && decide (8 ≤ n) && decide (n ≤ 256)
  | _ => false

/-- R178: ingest keeps the packet. -/
def State.goodPacket (s : State) (b : Bytes) : Bool :=
  decide (20 ≤ b.length) && fieldLe b 0 2 == 0x5653 && fieldLe b 2 1 == 1 &&
  crc32c (b.take 16 ++ leBytes 4 0 ++ b.drop 20) == fieldLe b 16 4 &&
  fieldLe b 12 2 == b.length - 20 && lengthSuits (pktType b) (b.length - 20) &&
  fieldLe b 6 2 == s.efN Reg.ING_SECTION_id

/-- R187: the field that shows a stream alive. -/
def aliveReg (k : Nat) : Nat := if k = 0 then Reg.ING_STATE_a_alive else Reg.ING_STATE_b_alive

/-- R187: both streams stand lost. -/
def State.bothLost (s : State) : Bool := s.rd (aliveReg 0) == 0 && s.rd (aliveReg 1) == 0

/-- R521: a trigger that ends rest, once its entry is complete. -/
def State.restWake (s : State) : State :=
  if s.frame.restDecided || s.ftState == 3 || s.ftState == 4 then { s with frame := { s.frame with restTrigger := true } }
  else s

/-- R187: a valid packet of a stream arrives at port p. -/
def State.streamAlive (s : State) (k p : Nat) : State :=
  let s := { s with ing := { s.ing with
    ports := Tab.put 0 s.ing.ports k p, seenAt := Tab.put 0 s.ing.seenAt k s.clk.free.units } }
  if s.on (aliveReg k) then s else ((s.wrN (aliveReg k) 1).recovered (.stream k)).restWake

/-- Nothing of an assembly is held. -/
def Asm.empty (a : Asm) : Bool := a.packets.isEmpty

/-- R188: n becomes the target, and what is held is discarded. -/
def State.rebase (s : State) (n : Nat) : State :=
  let s := { s with ing := { s.ing with cur := State.emptyAsm, nxt := State.emptyAsm, waiting := [] } }
  ((s.wrN Reg.ING_STATE_target n).bump Reg.ING_CNT_rebases 1).beginSet

/-- R188: where a packet of frame n goes: the target, the frame after it, or nowhere. `lost`: both streams stood lost. -/
def State.sortPacket (s : State) (lost : Bool) (b : Bytes) : Option Bool × State :=
  let n := pktFrame b
  let t := s.target
  if n = t then (some false, s)
  else if n = (t + 1) % 2 ^ 32 then (some true, s)
  else if (t + 2 ^ 32 - n) % 2 ^ 32 ≤ 2 ^ 31 then (none, s.bump Reg.ING_CNT_late 1)
  else if (s.ing.cur.empty && s.ing.nxt.empty) || lost || (pktType b == 1 && bit (fieldLe b 31 1) 1) then
    (some false, s.rebase n)
  else (none, s.bump Reg.ING_CNT_early 1)

/-- R202: an accepted packet is kept with its frame. -/
def State.keepPacket (s : State) (after : Bool) (b : Bytes) : State :=
  let a := s.asm after
  s.setAsm after { a with packets := a.packets ++ [b] }

/-- R185: a later copy of a packet held. -/
def State.dup (s : State) : State := s.bump Reg.ING_CNT_dup 1

/-- R179: the FRAME_HEAD of a frame. -/
def frameHeadOf (b : Bytes) : FrameHead :=
  let d := pktBody b
  ⟨fieldLe d 0 8, fieldLe d 8 2, fieldLe d 10 1, bit (fieldLe d 11 1) 0, bit (fieldLe d 11 1) 1⟩

/-- A FRAME_HEAD is taken into a frame. -/
def State.takeFrameHead (s : State) (after : Bool) (b : Bytes) : State :=
  let a := s.asm after
  if a.head.isSome then s.dup
  else
    let s := (s.setAsm after { a with head := some (frameHeadOf b) }).keepPacket after b
    if after then s else s.writeSetHeader.checkAssembled

/-- R180, R181: the layer entries of a CELL_HEAD, disparities clamped. -/
def layerHeads (d : Bytes) (n : Nat) : List LayerHead :=
  (List.range n).map fun l =>
    ⟨clampI (signed 16 (fieldLe d (16 + 8 * l) 2)) (-8192) 8191, fieldLe d (18 + 8 * l) 1 == 1, fieldLe d (20 + 8 * l) 4⟩

/-- R181: disparities that the clamp moves. -/
def clampedCount (d : Bytes) (n : Nat) : Nat :=
  ((List.range n).filter fun l =>
    let v := signed 16 (fieldLe d (16 + 8 * l) 2)
    decide (v < -8192) || decide (8191 < v)).length

/-- R181: ingest keeps the CELL_HEAD. -/
def State.cellHeadOk (s : State) (d : Bytes) : Bool :=
  let n := fieldLe d 2 1
  let k := cellKey (fieldLe d 0 1) (fieldLe d 1 1)
  s.cellOk (fieldLe d 0 1) (fieldLe d 1 1) && decide (n ≤ 8) && (s.isMargin k || decide (1 ≤ n)) &&
    d.length == 16 + 8 * n && (List.range n).all fun l => decide (fieldLe d (18 + 8 * l) 1 ≤ 1)

/-- R181, R182: a CELL_HEAD is taken into a frame. A repeat head of the frame after the target waits until that frame is
the target (log 34). The version head of a margin cell holds background 0 and the packet's disparities, clamped, and their
clamps are not counted, since R180 ignores both fields there (DESIGN CHOICE, log 83). -/
def State.takeCellHead (s : State) (after : Bool) (b : Bytes) : State :=
  let d := pktBody b
  let k := cellKey (fieldLe d 0 1) (fieldLe d 1 1)
  let n := fieldLe d 2 1
  let c := s.cellAsm after k
  if !s.cellHeadOk d then s.bump Reg.ING_CNT_bad_head 1
  else if c.head.isSome then s.dup
  else
    let rep := bit (fieldLe d 3 1) 0
    let m := s.isMargin k
    let bg := if m then [0, 0, 0] else [fieldLe d 4 2, fieldLe d 6 2, fieldLe d 8 2]
    let h : CellHead := ⟨rep, bg, fieldLe d 12 4, layerHeads d n⟩
    let s := (s.setCellAsm after k { c with head := some h }).keepPacket after b
    if rep then (if after then s else (s.repeatHead k).settle_cell k)
    else
      let s := if m then s else s.bump Reg.ING_CNT_clamped (clampedCount d n)
      ((s.beginCell after k).queueLayers after k).checkAssembled

/-- R190: the end of the bytes of a chunk that ingest keeps. -/
def CellAsm.keptEnd (c : CellAsm) (l off len : Nat) : Nat :=
  match c.head with
  | some h => min (off + len) ((h.layers[l]?.map (·.len)).getD (off + len))
  | none => off + len

/-- R183, R185, R186: a CHUNK is taken into a frame. One at a held offset is a later copy (R185) where its length is that of the
held chunk too, or where the bytes kept of the two do not meet; else it is an overlap (R186) (DEDUCED, log 83). -/
def State.takeChunk (s : State) (after : Bool) (b : Bytes) : State :=
  let d := pktBody b
  let k := cellKey (fieldLe d 0 1) (fieldLe d 1 1)
  let l := fieldLe d 2 1
  let off := fieldLe d 4 4
  let data := d.drop 8
  let c := s.cellAsm after k
  let mine := c.chunks.filter fun x => x.1 == l
  if mine.any fun x => x.2.1 == off && x.2.2.length == data.length then s.dup
  else if mine.any fun x =>
      decide (max off x.2.1 < min (c.keptEnd l off data.length) (c.keptEnd l x.2.1 x.2.2.length)) then
    s.bump Reg.ING_CNT_overlap 1
  else if mine.any fun x => x.2.1 == off then s.dup
  else
    ((s.setCellAsm after k { c with chunks := c.chunks ++ [(l, off, data)] }).keepPacket after b).queueLayers after k

/-- R184, R359: entries of a GUARD packet: the first accepted for a region stands, an index above 31 is ignored. -/
def takeEntries : Nat → Bytes → Tab Nat → Tab Nat
  | 0, _, t => t
  | n + 1, d, t =>
    let r := fieldLe d 0 1
    takeEntries n (d.drop 8) (if r ≤ 31 ∧ (Tab.find t r).isNone = true then Tab.set t r (fieldLe d 4 4) else t)

/-- R184, R185: a GUARD packet is taken into a frame. -/
def State.takeGuard (s : State) (after : Bool) (b : Bytes) : State :=
  let d := pktBody b
  let a := s.asm after
  if a.guardKeys.contains (fieldLe d 0 1) then s.dup
  else
    let a := { a with
      guardKeys := a.guardKeys ++ [fieldLe d 0 1]
      guards := takeEntries (d.length / 8) d a.guards }
    let s := (s.setAsm after a).keepPacket after b
    if after then s else s.writeSetHeader.checkAssembled

/-- A packet that R188 has sorted is taken into its frame. -/
def State.takePacket (s : State) (after : Bool) (b : Bytes) : State :=
  match pktType b with
  | 1 => s.takeFrameHead after b
  | 2 => s.takeCellHead after b
  | 3 => s.takeChunk after b
  | _ => s.takeGuard after b

/-- A scene port is up: one of its links stands. -/
def State.portUp (s : State) (p : Nat) : Bool := s.rd (Reg.PORT_STATUS_link p) != 0

/-- R178, R185 to R188, R205: a scene packet of type `ty` arrives at port p. PORT_CNT.scene counts the packets that pass R178;
one that it discards counts in scene_bad alone (DEDUCED, log 83). -/
def State.scenePacket (s : State) (p ty : Nat) (b : Bytes) : State :=
  if !s.portUp p then s
  else if !s.goodPacket b then s.bump (Reg.PORT_CNT_scene_bad p) 1
  else if pktType b ≠ ty then s
  else
    let lost := s.bothLost
    let s := (s.bump (Reg.PORT_CNT_scene p) 1).streamAlive (pktStream b) p
    if s.on Reg.ING_STATE_playback then s.bump Reg.ING_CNT_live_dropped 1
    else match s.sortPacket lost b with
      | (some after, s) => s.takePacket after b
      | (none, s) => s

/-- FRAME_HEAD (R179). -/
def execFrameHead (p : Nat) (packet : Bytes) (s : State) : Host.Outcome State Fault Refusal :=
  if s.par.ports ≤ p then .refused .noSuchUnit else .next (s.orWait (s.scenePacket p 1 packet))

/-- CELL_HEAD (R180 to R182). -/
def execCellHead (p : Nat) (packet : Bytes) (s : State) : Host.Outcome State Fault Refusal :=
  if s.par.ports ≤ p then .refused .noSuchUnit else .next (s.orWait (s.scenePacket p 2 packet))

/-- CHUNK (R183, R186, R190). -/
def execChunk (p : Nat) (packet : Bytes) (s : State) : Host.Outcome State Fault Refusal :=
  if s.par.ports ≤ p then .refused .noSuchUnit else .next (s.orWait (s.scenePacket p 3 packet))

/-- GUARD (R184, R359). -/
def execGuard (p : Nat) (packet : Bytes) (s : State) : Host.Outcome State Fault Refusal :=
  if s.par.ports ≤ p then .refused .noSuchUnit else .next (s.orWait (s.scenePacket p 4 packet))

/-- R187: no valid packet of an alive stream has arrived for ING_TIME.loss_us. -/
def State.lossDue (s : State) (k : Nat) : Bool :=
  s.on (aliveReg k) &&
    decide (Tab.get 0 s.ing.seenAt k + s.efN Reg.ING_TIME_loss_us * 1000 * 2 ^ 32 ≤ s.clk.free.units)

/-- R187, R519: a stream is declared lost. -/
def State.markLost (s : State) (k : Nat) : State :=
  { s with ing := { s.ing with quietAt := s.clk.free.units } }.wrN (aliveReg k) 0

/-- R187: the fault of a stream that is lost while the other is alive, and the record of both lost. -/
def State.raiseLost (s : State) (k : Nat) : State :=
  let p := Tab.get 0 s.ing.ports k
  if s.bothLost then s.raise (.stream k) 0x0004 1 0x10 p 0 0 else s.raise (.stream k) 0x0003 2 0x10 p k p

/-- R187: stream k is lost, and with it the other where its loss falls due no later: at one instant both, with one record. -/
def State.loseStream (s : State) (k : Nat) : State :=
  let o := 1 - k
  if !s.lossDue o then (s.markLost k).raiseLost k
  else if Tab.get 0 s.ing.seenAt o = Tab.get 0 s.ing.seenAt k then ((s.markLost o).markLost k).raiseLost k
  else if Tab.get 0 s.ing.seenAt o < Tab.get 0 s.ing.seenAt k then
    ((((s.markLost o).raiseLost o).markLost k).raiseLost k)
  else (s.markLost k).raiseLost k

/-- STREAM_LOSS (R187): its ticks pass; a stream that has brought no valid packet for ING_TIME.loss_us is lost. -/
def execStreamLoss (l : LossAt) (s : State) : Host.Outcome State Fault Refusal :=
  if 2 ≤ l.stream then .refused .noSuchUnit
  else
    let s := s.advance l.dt
    .next (if s.lossDue l.stream then s.loseStream l.stream else s)

/-- R197, R509, R512: the earliest start of the period that follows the running one. -/
def State.earliestStart (s : State) : Int :=
  if s.showUsable then s.periodEnd else s.frame.startAt + nsUnits (s.efN Reg.FT_PERIOD_t_min_ns)

/-- R197: the target has an assembly deadline, and it passes: a period runs, which the target's is to follow. -/
def State.deadlineDue (s : State) : Bool :=
  (s.ftState == 1 || s.ftState == 2) && !s.ing.deadlineOver &&
    decide (s.earliestStart - nsUnits (1000 * s.efN Reg.ING_TIME_margin_us) ≤ s.active)

/-- ASSEMBLY_DEADLINE (R197, R198): `dt` ticks pass; the deadline passes once in a period. -/
def execAssemblyDeadline (dt : Nat) (s : State) : Host.Outcome State Fault Refusal :=
  let s := s.advance dt
  if !s.deadlineDue then .next s
  else
    let s := { s with ing := { s.ing with deadlineOver := true } }
    .next (if s.on Reg.ING_STATE_assembled then s
      else if s.bothLost && !s.on Reg.ING_STATE_playback then s.markAssembled
      else ((s.bump Reg.ING_CNT_deadline_miss 1).setEvents 0 (flag 6)).irq 6)

/-! ### Dispatch to the decoder slices (R191, R193, R199) -/

/-- The assembly that a frame number names. -/
def State.asmOf (s : State) (n : Nat) : Option Bool :=
  if n = s.target then some false else if n = (s.target + 1) % 2 ^ 32 then some true else none

/-- A waiting bitstream whose update has begun and is pursued. -/
def State.jobReady (s : State) (j : LayerJob) : Bool :=
  match s.asmOf j.frame with
  | some after => (s.cellAsm after j.cell).slot != 0 && !(s.cellAsm after j.cell).settled
  | none => false

/-- A waiting bitstream that no update wants. -/
def State.jobDead (s : State) (j : LayerJob) : Bool :=
  match s.asmOf j.frame with
  | some after => (s.cellAsm after j.cell).settled
  | none => true

/-- Slice i is in service and idle. -/
def State.sliceIdle (s : State) (i : Nat) : Bool := s.rd (Reg.DEC_STATUS_state i) == 0 && !s.engineDown 3 i

/-- The lowest idle slice in service. -/
def State.idleSlice (s : State) : Option Nat := (List.range s.par.decoders).find? s.sliceIdle

/-- R252: decoder slice i meets a word that cannot be corrected. -/
def State.decFault (s : State) (i : Nat) : State := (s.engineFault 3 i).wrN (Reg.DEC_STATUS_state i) 3

/-- Pixels of 10 bytes each (R40). -/
def pixelsFrom : Nat → Bytes → List Nat
  | 0, _ => []
  | n + 1, b => leNat (b.take 10) :: pixelsFrom n (b.drop 10)

/-- A decoder slice reads `n` pixels of a layer. -/
def State.readPixels (s : State) (a n : Nat) : Option (List Nat) × State :=
  let (b, s) := s.readMem .decoder a (10 * n)
  (b.map (pixelsFrom n), s)

/-- R223: the reference pixels of a layer in a held version; a layer that the version lacks has none. -/
def State.refPixels (s : State) (v : CellVer) (k l : Nat) : Option (List Nat) × State :=
  if l < v.layers then s.readPixels (s.layerAddr v.slot k l) (s.cellPixels k) else (some [], s)

/-- What a slice makes of a bitstream (R219, R220): the job that DECODE_COMPLETE will end. -/
def decJob (j : DecJob) (bx bY : Nat) (ref : Option (List Nat)) (data : Bytes) : DecJob :=
  let r := decodeLayer bx bY ref data
  { j with pixels := if r.err = 0 then layerPixels bx bY r.blocks else []
           err := r.err, consumed := r.consumed, blocks := r.blocks.length, raw := r.raw }

/-- Slice i takes a job. -/
def State.takeJob (s : State) (i : Nat) (j : DecJob) : State :=
  ({ s with dec := Tab.set s.dec i j }.wrN (Reg.DEC_STATUS_state i) 1).wrN (Reg.DEC_STATUS_source i) (b2n (!j.fromIngest))

/-- R219: slice i takes a bitstream of a cell. -/
def State.startDecode (s : State) (i : Nat) (j : LayerJob) (dest : Nat) (ref : Option (List Nat)) : State :=
  s.takeJob i (decJob ⟨true, j.frame, j.cell, j.layer, 0, dest, [], 0, 0, 0, 0⟩ (s.cellBx j.cell) (s.cellBy j.cell) ref j.data)

/-- R191, R193, R196: an update is given up for a rejected layer, and counted in `cnt`. Of the layers of an update the first
rejected one counts, and the others, no longer pursued, do not (DEDUCED, log 83). -/
def State.rejectLayer (s : State) (after : Bool) (k cnt : Nat) : State := ((s.giveUp after k).bump cnt 1).settle_cell k

/-- R191, R193, R199: a bitstream goes to a slice, or its update is given up. -/
def State.dispatchJob (s : State) (i : Nat) (after : Bool) (j : LayerJob) : State :=
  let c := s.cellAsm after j.cell
  let dest := s.layerAddr (c.slot - 1) j.cell j.layer
  match c.head with
  | none => s
  | some h =>
    if ((h.layers[j.layer]?).map (·.predicted)).getD false then
      match Tab.find s.ing.vers j.cell with
      | none => s.rejectLayer after j.cell Reg.ING_CNT_cold_reject
      | some v =>
        if 8 < ageIn j.frame v.tag then s.rejectLayer after j.cell Reg.ING_CNT_cold_reject
        else if v.tag ≠ h.ref then s.rejectLayer after j.cell Reg.ING_CNT_ref_miss
        else match s.refPixels v j.cell j.layer with
          | (none, s) => s.decFault i
          | (some r, s) => s.startDecode i j dest (some r)
    else s.startDecode i j dest none

/-- LAYER_DISPATCH (R199): the oldest bitstream that may go to a slice does. -/
def execLayerDispatch (s : State) : Host.Outcome State Fault Refusal :=
  let s := { s with ing := { s.ing with waiting := s.ing.waiting.filter fun j => !s.jobDead j } }
  match s.idleSlice, s.ing.waiting.find? s.jobReady with
  | some i, some j =>
    let t := { s with ing := { s.ing with waiting := s.ing.waiting.erase j } }
    match s.asmOf j.frame with
    | some after => .next (s.orWait (t.dispatchJob i after j))
    | none => .next t
  | _, _ => .next s

/-- Queue key of decoder slice i. -/
def decKey (i : Nat) : Nat := qKey 3 i 0

/-- R245: the reference that a descriptor gives its layer: none for an intra layer; for a predicted one the layer at word 4, or
none of its pixels where word 4 is 0, which reads as zero samples as in R223 (DEDUCED, log 83). -/
def State.descRef (s : State) (d : QEntry) (n : Nat) : Option (Option (List Nat)) × State :=
  if !bit (d.w 0) 5 then (some none, s)
  else if d.w 4 = 0 then (some (some []), s)
  else
    let (r, s) := s.readPixels (d.w 4) n
    (r.map some, s)

/-- R245: slice i starts a descriptor. -/
def State.decodeDesc (i : Nat) (d : QEntry) (s : State) : State :=
  let bx := bits (d.w 0) 6 2
  let bY := bits (d.w 0) 8 2
  let j : DecJob := ⟨false, 0, 0, 0, d.ticket, d.w 3, [], 9, 0, 0, 0⟩
  if bx = 3 ∨ bY = 3 ∨ d.w 0 / 2 ^ 10 ≠ 0 then s.takeJob i { j with dest := 0 }
  else
    let (ref, s) := s.descRef d (256 * 2 ^ bx * 2 ^ bY)
    let (data, s) := s.readMem .decoder (d.w 1) (d.w 2)
    match ref, data with
    | some r, some b => s.takeJob i (decJob j (2 ^ bx) (2 ^ bY) r b)
    | _, _ => s.decFault i

/-- DECODE_LAYER (R199, R245): slice i starts the descriptor at the head of its queue. -/
def execDecodeLayer (i : Nat) (s : State) : Host.Outcome State Fault Refusal :=
  if s.par.decoders ≤ i then .refused .noSuchUnit
  else if !s.sliceIdle i then .next s
  else s.withDesc .decoder (decKey i) 3 i 6 (fun _ => true) (·.decFault i) (fun d s => s.decodeDesc i d)

/-- R41, R222, R224: the counts that a finished job leaves, and its pixels where `keep` holds. -/
def State.sliceCounts (s : State) (i : Nat) (j : DecJob) (keep : Bool) : State :=
  let s := (s.bump (Reg.DEC_CNT_blocks i) j.blocks).bump (Reg.DEC_CNT_raw i) j.raw
  if j.err = 0 then
    let s := s.bump Reg.RAY_COUNT_reserved_px (reservedPixels j.pixels)
    if keep then s.writeMem .decoder j.dest (j.pixels.flatMap pixelBytes) else s
  else (s.bump (Reg.DEC_CNT_errors i) 1).wrN (Reg.DEC_CNT_last_error i) j.err

/-- R190, R224: the cell update that a finished ingest job belongs to. -/
def State.layerDone (s : State) (after : Bool) (j : DecJob) : State :=
  let c := s.cellAsm after j.cell
  if j.err ≠ 0 then (s.giveUp after j.cell).settle_cell j.cell
  else
    let c := { c with layers := Tab.put 0 c.layers j.layer 2 }
    let s := s.setCellAsm after j.cell c
    match c.head with
    | none => s
    | some h =>
      if (List.range h.layers.length).all fun l => Tab.get 0 c.layers l == 2 then
        (s.completeCell after j.cell).settle_cell j.cell
      else s

/-- R190, R222, R224: slice i ends a job from ingest. Where the update has been given up or its frame is closed, nothing is
written; the layer was decoded, and counts. -/
def State.endIngestJob (s : State) (i : Nat) (j : DecJob) : State :=
  match s.asmOf j.frame with
  | some after =>
    if (s.cellAsm after j.cell).inProgress then (s.sliceCounts i j true).layerDone after j else s.sliceCounts i j false
  | none => s.sliceCounts i j false

/-- R245: slice i ends a job from a descriptor. -/
def State.endDescJob (s : State) (i : Nat) (j : DecJob) : State :=
  let s := s.sliceCounts i j true
  match (s.engQ (decKey i)).entries.find? fun e => e.ticket == j.desc with
  | some d => (s.putWord .decoder d 5 (j.err + j.consumed * 2 ^ 32)).finishHead (decKey i) d
  | none => s

/-- DECODE_COMPLETE (R190, R222, R224, R245). -/
def execDecodeComplete (i : Nat) (s : State) : Host.Outcome State Fault Refusal :=
  if s.par.decoders ≤ i then .refused .noSuchUnit
  else match Tab.find s.dec i with
    | none => .next s
    | some j =>
      let t := { s with dec := Tab.del s.dec i }.wrN (Reg.DEC_STATUS_state i) 0
      .next (s.orWait (if j.fromIngest then t.endIngestJob i j else t.endDescJob i j))

/-! ### The clip store (R202 to R207) -/

/-- Queue keys of the clip store. -/
def recKey : Nat := qKey 4 0 0
def playKey : Nat := qKey 4 0 1

/-- Two address ranges overlap. -/
def rangesMeet (a n b m : Nat) : Bool := decide (a < b + m) && decide (b < a + n)

/-- R252, R554: the clip store's engine state is 3. -/
def State.clipFault (s : State) : State := s.engineFault 4 0

/-- R203, R207: a record job starts, unless its region meets that of the playback job. -/
def State.startRecord (d : QEntry) (s : State) : State :=
  if s.ing.recJob.isSome then s
  else if s.ing.playJob.any fun p => rangesMeet (d.w 1) (d.w 2) p.base p.size then s.clipFault
  else { s with ing := { s.ing with recJob := some ⟨d.ticket, d.w 1, d.w 2, d.w 3, bit (d.w 0) 5, 0, 0⟩ } }

/-- CLIP_RECORD (R203, R207). -/
def execClipRecord (s : State) : Host.Outcome State Fault Refusal :=
  s.withDesc .ingest recKey 4 0 6 (fun _ => true) State.clipFault State.startRecord

/-- R203, R205, R207: a playback job starts, unless its region meets that of the record job. -/
def State.startPlayback (d : QEntry) (s : State) : State :=
  if s.ing.playJob.isSome then s
  else if s.ing.recJob.any fun r => rangesMeet (d.w 1) (d.w 2) r.base r.size then s.clipFault
  else
    let j : PlayJob := ⟨d.ticket, d.w 1, d.w 2, d.w 3, bit (d.w 0) 5, d.w 4, 0, 0, 0⟩
    ({ s with ing := { s.ing with playJob := some j } }.wrN Reg.ING_STATE_playback 1).restWake

/-- CLIP_PLAYBACK (R203, R205, R207). -/
def execClipPlayback (s : State) : Host.Outcome State Fault Refusal :=
  s.withDesc .playback playKey 4 0 6 (fun _ => true) State.clipFault State.startPlayback

/-- The descriptor of a ticket is finished with results in words 4 and 5 (R203). -/
def State.endClip (s : State) (m : Master) (key ticket : Nat) (w4 : Option Nat) (w5 : Nat) : State :=
  match (s.engQ key).entries.find? fun e => e.ticket == ticket with
  | none => s
  | some d =>
    let s := match w4 with
      | some v => s.putWord m d 4 v
      | none => s
    (s.putWord m d 5 w5).finishHead key d

/-- A packet padded to 8 bytes (R202). -/
def padPacket (b : Bytes) : Bytes := b ++ List.replicate (ceilDiv b.length 8 * 8 - b.length) 0

/-- R202: the record of the closing frame. -/
def State.clipRecordBytes (s : State) : Bytes :=
  let body := s.ing.cur.packets.flatMap padPacket
  let intra := match s.ing.cur.head with | some h => b2n h.intraAll | none => 0
  leBytes 4 (16 + body.length) ++ leBytes 4 s.target ++
  leBytes 1 (intra + 2 * s.rdN Reg.ING_STATE_assembled) ++ leBytes 7 0 ++ body

/-- The record job ends. -/
def State.endRecord (s : State) (r : RecJob) : State :=
  ({ s with ing := { s.ing with recJob := none } }).endClip .ingest recKey r.desc (some r.written) r.frames

/-- R204: the record job at the close of the target. -/
def State.recordClose (s : State) : State :=
  match s.ing.recJob with
  | none => s
  | some r =>
    let b := s.clipRecordBytes
    if r.waitIntra && r.frames == 0 && !bit (fieldLe b 8 1) 0 then
      (if s.ing.clipStop then s.endRecord r else s)
    else if r.size < r.written + b.length then s.endRecord r
    else
      let s := s.writeMem .ingest (r.base + r.written) b
      let r := { r with written := r.written + b.length, frames := r.frames + 1 }
      if (r.limit != 0 && r.frames == r.limit) || s.ing.clipStop then s.endRecord r
      else { s with ing := { s.ing with recJob := some r } }

/-- The playback job ends (R206); R519 counts from here. -/
def State.endPlay (s : State) (j : PlayJob) : State :=
  let s := { s with ing := { s.ing with playJob := none, quietAt := s.clk.free.units } }
  (s.wrN Reg.ING_STATE_playback 0).endClip .playback playKey j.desc none j.frames

/-- R205: a recorded packet with its frame numbers moved, and its show time set in locked mode. Its CRC is not computed again,
and the checks of R178 are not made again (DESIGN CHOICE, log 83). -/
def State.rewritePacket (s : State) (j : PlayJob) (b : Bytes) : Bytes :=
  let move (b : Bytes) (o : Nat) : Bytes :=
    b.take o ++ leBytes 4 ((fieldLe b o 4 + j.offset) % 2 ^ 32) ++ b.drop (o + 4)
  let b := move b 8
  match pktType b with
  | 1 =>
    if s.ef Reg.FT_PERIOD_mode = 1 then
      let t := j.show_ / 2 ^ 30 * 1000000000 + j.show_ % 2 ^ 30 + j.frames * s.efN Reg.FT_PERIOD_nominal_ns
      b.take 20 ++ leBytes 8 (t / 1000000000 % 2 ^ 34 * 2 ^ 30 + t % 1000000000) ++ b.drop 28
    else b
  | 2 => move b 32
  | _ => b

/-- R205: the packets of a record are fed to the assembler, each padded to 8 bytes. -/
def State.feedPackets (s : State) (j : PlayJob) : Nat → Bytes → State
  | 0, _ => s
  | n + 1, b =>
    if b.length < 20 then s
    else
      let len := 20 + fieldLe b 12 2
      let p := s.rewritePacket j (b.take len)
      let s := match s.sortPacket false p with
        | (some after, t) => t.takePacket after p
        | (none, t) => t
      s.feedPackets j n (b.drop (ceilDiv len 8 * 8))

/-- What the playback job finds at its position (R205): a record, none, or a word that cannot be corrected. -/
inductive ClipRead
  | record (b : Bytes)
  | none
  | lost
  deriving DecidableEq, Repr

/-- R205: the record at the job's position, if one stands there. -/
def State.recordAt (s : State) (j : PlayJob) : ClipRead × State :=
  if j.size < j.pos + 16 then (.none, s)
  else match s.readMem .playback (j.base + j.pos) 4 with
    | (none, s) => (.lost, s)
    | (some b, s) =>
      let len := leNat b
      if len < 16 ∨ j.size < j.pos + len then (.none, s)
      else match s.readMem .playback (j.base + j.pos) len with
        | (none, s) => (.lost, s)
        | (some r, s) => (.record r, s)

/-- R205: one record is fed; the first of a pass fixes the offset. -/
def State.feedRecord (s : State) (j : PlayJob) (r : Bytes) : State :=
  let off := if j.pos = 0 then (s.target + 2 ^ 32 - fieldLe r 4 4) % 2 ^ 32 else j.offset
  let j := { j with offset := off }
  let s := s.feedPackets j r.length (r.drop 16)
  { s with ing := { s.ing with playJob := some { j with pos := j.pos + r.length, frames := j.frames + 1 } } }

/-- R252, R554: a playback job that meets a word it cannot read stops with the clip store. -/
def State.losePlay (s : State) : State :=
  ({ s with ing := { s.ing with playJob := none, quietAt := s.clk.free.units } }.wrN Reg.ING_STATE_playback 0).clipFault

/-- R206: at the end of its records, a playback job with loop set returns to the first record, if that is intra_all. -/
def State.playAgain (s : State) (j : PlayJob) : State :=
  if j.loop && j.pos != 0 then
    match s.recordAt { j with pos := 0 } with
    | (.record r, s) => if bit (fieldLe r 8 1) 0 then s.feedRecord { j with pos := 0 } r else s.endPlay j
    | (.none, s) => s.endPlay j
    | (.lost, s) => s.losePlay
  else s.endPlay j

/-- R205, R206: the playback job at a period start. -/
def State.playStart (s : State) : State :=
  match s.ing.playJob with
  | none => s
  | some j =>
    if s.ing.clipStop || (j.limit != 0 && j.limit ≤ j.frames) then s.endPlay j
    else match s.recordAt j with
      | (.record r, s) => s.feedRecord j r
      | (.none, s) => s.playAgain j
      | (.lost, s) => s.losePlay

/-! ### The close of the target (R189) -/

/-- R195: the versions that the closing set references are noted with its address, beside those of the sets that are
committed. -/
def State.markClosed (s : State) : State :=
  let a := s.rdN Reg.ING_SET_next
  let kept := [Reg.FT_COMMIT_current, Reg.FT_COMMIT_next, Reg.FT_COMMIT_after].map s.rdN
  if a = 0 then s
  else { s with ing := { s.ing with
    closed := (a, s.ing.vers.map fun (k, v) => (k, v.slot + 1)) ::
      s.ing.closed.filter fun x => x.1 != a && kept.contains x.1 } }

/-- Updates of the frame that has become the target: those complete become versions, and the others begin. -/
def State.promoteCell (s : State) (k : Nat) : State :=
  let c := s.cellAsm false k
  match c.head with
  | none => s
  | some h =>
    if h.rep then s.repeatHead k
    else if c.complete then s.install s.target k c
    else s.beginCell false k

/-- R189: ingest closes the target and takes the next frame as the target. -/
def State.closeTarget (s : State) : State :=
  let s := (s.recordClose.writeSet).markClosed
  let ing := { s.ing with cur := s.ing.nxt, nxt := State.emptyAsm, deadlineOver := false }
  let s := ({ s with ing := ing }.wrN Reg.ING_STATE_target ((s.target + 1) % 2 ^ 32)).beginSet
  let s := s.ing.cur.cells.foldl (fun s (k, _) => s.promoteCell k) s
  let s := s.playStart
  ({ s with ing := { s.ing with clipStop := false } }).checkAssembled

/-- R204, R206: CLIP_CTRL.stop is written. -/
def State.stopClips (s : State) : State :=
  if s.ing.recJob.isSome || s.ing.playJob.isSome then { s with ing := { s.ing with clipStop := true } } else s

end Sys2Proof.Machine
end

