-- ==== Sys2Proof/Machine/Nvm.lean ====
section
/-! DEFINITION. The NVM as programs and the host use it: its descriptors, its partitions and passwords, and the host's
commands (R588 to R604). -/
namespace Sys2Proof.Machine
open Sys2Proof

/-- The key of the queue of bank b (R138). -/
def nvmKey (b : Nat) : Nat := qKey 7 b 0

/-! ### Partitions and passwords (R593 to R596) -/

/-- R593: the partition of a page; none for IDENT. -/
def partOf (page : Nat) : Option Nat :=
  let a := 64 * page
  if a < 0x8000 then none
  else if a < 0x20000 then some 0
  else if a < 0x24000 then some 1
  else if a < 0x28000 then some 3
  else if a < 0x40000 then some 2
  else some 4

/-- R593: WRITE is a route to a page. -/
def writeRoute (page : Nat) : Bool :=
  match partOf page with
  | none => false
  | some 0 => true
  | some 1 => false
  | some 3 => decide (0x24200 ≤ 64 * page)
  | some 2 => decide (0x38000 ≤ 64 * page)
  | _ => true

/-- The password of a kind (0 read, 1 write) of a partition, as a SHA-512; empty for none. -/
def State.password (s : State) (p kind : Nat) : Bytes := Tab.get [] s.nvm.passwords (2 * p + kind)

/-- R594: a partition is locked for a kind. -/
def State.nvmLocked (s : State) (p kind : Nat) : Bool :=
  !(s.password p kind).isEmpty && !bit (s.rdN Reg.NVM_LOCKS_open) (2 * p + kind)

/-- R594: a page is locked for a kind. -/
def State.pageLocked (s : State) (page kind : Nat) : Bool :=
  match partOf page with
  | some p => s.nvmLocked p kind
  | none => false

/-- R595: an unlock of partition p and a kind with a password: its status, and the state after it. A partition without
the password admits any (log 19). -/
def State.nvmUnlock (s : State) (p kind : Nat) (pw : Bytes) : Nat × State :=
  if 4 < p then (4, s)
  else if 8 ≤ s.rdN Reg.NVM_LOCKS_fails then (6, s)
  else if (s.password p kind).isEmpty || s.password p kind == (Config.sha512 pw).toList then
    let o := s.rdN Reg.NVM_LOCKS_open
    (0, if bit o (2 * p + kind) then s else s.wrN Reg.NVM_LOCKS_open (o + 2 ^ (2 * p + kind)))
  else (5, s.wrN Reg.NVM_LOCKS_fails (s.rdN Reg.NVM_LOCKS_fails + 1))

/-- R595: a LOCK of partition p and a kind. -/
def State.nvmLock (s : State) (p kind : Nat) : Nat × State :=
  if 4 < p then (4, s)
  else
    let o := s.rdN Reg.NVM_LOCKS_open
    (0, if bit o (2 * p + kind) then s.wrN Reg.NVM_LOCKS_open (o - 2 ^ (2 * p + kind)) else s)

/-- R596: the password of a kind of partition p is set; 16 zero bytes remove it. -/
def State.setPassword (s : State) (p kind : Nat) (pw : Bytes) : State :=
  let h := if leNat pw = 0 then [] else (Config.sha512 pw).toList
  { s with nvm := { s.nvm with passwords := Tab.put [] s.nvm.passwords (2 * p + kind) h } }

/-! ### Reading pages (R588, R594) -/

/-- R573, R588, R594: a read of one page: its status, its bytes, and the state after it. -/
def State.readPage (s : State) (page : Nat) : Nat × Bytes × State :=
  if s.pageLocked page 0 then (2, List.replicate 64 0, s)
  else match partOf page with
    | none => (0, List.replicate 64 0, s)
    | some _ =>
      let (bad, s) := s.eccPage page
      (b2n bad, s.nvmBytes (64 * page) 64, s)

/-- Reads of pages in order: the first status that is not 0, and their bytes. -/
def State.readPages (s : State) : List Nat → Nat × Bytes × State
  | [] => (0, [], s)
  | p :: t =>
    let (a, b, s) := s.readPage p
    let (c, d, s) := s.readPages t
    (if a = 0 then c else a, b ++ d, s)

/-! ### Writing pages (R592, R593) -/

/-- R592: pages that a WRITE admits, and the status of the first that it does not. -/
def State.admitPages (s : State) : List (Nat × Bytes) → List (Nat × Bytes) × Nat
  | [] => ([], 0)
  | (p, b) :: t =>
    if !writeRoute p then ([], 3)
    else if s.pageLocked p 1 then ([], 2)
    else
      let (l, st) := s.admitPages t
      ((p, b) :: l, st)

/-- Page writes begin in order; the last carries the descriptor that they belong to. -/
def State.beginPages (s : State) (owner : Nat × Nat) : List (Nat × Bytes) → State
  | [] => s
  | [(p, b)] => s.setWrites (s.nvm.writes ++ [⟨p, b, some owner⟩])
  | (p, b) :: t => (s.beginPage p b).beginPages owner t

/-- Bytes cut into pages from page `p`. -/
def pagesOf (p : Nat) : Nat → Bytes → List (Nat × Bytes)
  | 0, _ => []
  | n + 1, b => (p, b.take 64) :: pagesOf (p + 1) n (b.drop 64)

/-! ### Descriptors (R592) -/

/-- R592: word 3 is written and the descriptor's work is done. -/
def State.nvmDone (s : State) (bank : Nat) (d : QEntry) (status value : Nat) : State :=
  (s.putWord .trust d 3 (status + value % 2 ^ 32 * 2 ^ 32)).finishHead (nvmKey bank) d

/-- R590: the descriptor of bank b in hand, when its op is `op`, is read and executed; it waits while its bank writes. -/
def State.nvmRun (s : State) (bank op : Nat) (f : QEntry → State → State) : Host.Outcome State Fault Refusal :=
  if 4 ≤ bank then .refused .noSuchUnit
  else if s.bankBusy bank then .next s
  else s.withDesc .trust (nvmKey bank) 7 bank 4 (fun d => bits (s.dword d 0) 5 3 == op) (·.engineFault 7 bank) f

/-- R592: the pages that READ and WRITE name; none for a wrong bank or address. -/
def nvmRange (bank w1 : Nat) : Option (Nat × Nat) :=
  let a := bits w1 0 19
  let n := bits w1 48 8
  if a % 64 ≠ 0 ∨ n = 0 ∨ 64 < n ∨ a / 131072 ≠ bank ∨ (a + 64 * n - 1) / 131072 ≠ bank then none
  else some (a / 64, n)

/-- The engine of a bank reads paddock; an uncorrectable error puts it out of service (R554). -/
def State.nvmFetch (s : State) (bank a n : Nat) : Option Bytes × State :=
  match s.readMem .trust a n with
  | (some b, s) => (some b, s)
  | (none, s) => (none, s.engineFault 7 bank)

/-- READ (R592, R594). -/
def State.nvmReadPages (s : State) (bank : Nat) (d : QEntry) : State :=
  let a := bits (d.w 2) 0 40
  match nvmRange bank (d.w 1) with
  | none => s.nvmDone bank d 4 0
  | some (p, n) =>
    if !s.paddockRange a (64 * n) then s.nvmDone bank d 4 0
    else
      let (st, b, s) := s.readPages ((List.range n).map (p + ·))
      (s.writeMem .trust a b).nvmDone bank d st 0

/-- WRITE (R592, R593). -/
def State.nvmWritePages (s : State) (bank : Nat) (d : QEntry) : State :=
  let a := bits (d.w 2) 0 40
  match nvmRange bank (d.w 1) with
  | none => s.nvmDone bank d 4 0
  | some (p, n) =>
    if !s.paddockRange a (64 * n) then s.nvmDone bank d 4 0
    else match s.nvmFetch bank a (64 * n) with
      | (none, s) => s
      | (some b, s) =>
        match s.admitPages (pagesOf p n b) with
        | ([], st) => s.nvmDone bank d st 0
        | (l, st) => s.beginPages (d.ticket, st) l

/-- R598, R599: the status of an increment of counter i by a program or the host. -/
def State.tallyStatus (s : State) (i : Nat) : Nat := if i < 8 then 3 else if s.tallyFull i then 7 else 0

/-- TALLY_INC (R592, R598, R599). -/
def State.nvmTallyIncrement (s : State) (bank : Nat) (d : QEntry) : State :=
  let i := bits (d.w 1) 0 5
  if bank ≠ 1 then s.nvmDone bank d 4 0
  else
    let s := s.readTally i
    let v := (s.tally i).1
    if s.tallyStatus i ≠ 0 then s.nvmDone bank d (s.tallyStatus i) v
    else s.beginPages (d.ticket, (v + 1) % 2 ^ 32 * 2 ^ 32) [s.tallyPage i]

/-- TALLY_READ (R592, R598). -/
def State.nvmTallyValue (s : State) (bank : Nat) (d : QEntry) : State :=
  if bank ≠ 1 then s.nvmDone bank d 4 0
  else
    let i := bits (d.w 1) 0 5
    (s.readTally i).nvmDone bank d 0 (s.tally i).1

/-- The partition and kind that word 1 names. -/
def nvmPart (w1 : Nat) : Nat × Nat := (bits w1 0 3, bits w1 3 1)

/-- R592: the 16 bytes of the password; a wrong address has status 4. -/
def State.nvmPassword (s : State) (bank : Nat) (d : QEntry) (f : Bytes → State → State) : State :=
  let a := bits (d.w 2) 0 40
  if bank ≠ 0 ∨ s.paddockRange a 16 = false ∨ 4 < (nvmPart (d.w 1)).1 then s.nvmDone bank d 4 0
  else match s.nvmFetch bank a 16 with
    | (none, s) => s
    | (some b, s) => f b s

/-- UNLOCK (R595). -/
def State.nvmUnlockPart (s : State) (bank : Nat) (d : QEntry) : State :=
  s.nvmPassword bank d fun b s =>
    let (p, k) := nvmPart (d.w 1)
    let (st, s) := s.nvmUnlock p k b
    s.nvmDone bank d st 0

/-- LOCK (R595). -/
def State.nvmLockPart (s : State) (bank : Nat) (d : QEntry) : State :=
  let (p, k) := nvmPart (d.w 1)
  if bank ≠ 0 then s.nvmDone bank d 4 0
  else
    let (st, s) := s.nvmLock p k
    s.nvmDone bank d st 0

/-- SETPW (R594, R596). -/
def State.nvmSetPassword (s : State) (bank : Nat) (d : QEntry) : State :=
  s.nvmPassword bank d fun b s =>
    let (p, k) := nvmPart (d.w 1)
    if s.nvmLocked p 1 then s.nvmDone bank d 2 0 else (s.setPassword p k b).nvmDone bank d 0 0

/-- BENCH_SAVE (R594, R601). -/
def State.nvmSaveBench (s : State) (bank : Nat) (d : QEntry) : State :=
  if bank ≠ 0 then s.nvmDone bank d 4 0
  else if s.nvmLocked 0 1 then s.nvmDone bank d 2 0
  else s.beginPages (d.ticket, 0) (pagesOf (0x8180 / 64) 21 s.benchBytes)

/-- NVM_READ. -/
def execNvmRead (bank : Nat) (s : State) : Host.Outcome State Fault Refusal := s.nvmRun bank 0 fun d s => s.nvmReadPages bank d

/-- NVM_WRITE. -/
def execNvmWrite (bank : Nat) (s : State) : Host.Outcome State Fault Refusal := s.nvmRun bank 1 fun d s => s.nvmWritePages bank d

/-- NVM_TALLY_INC. -/
def execNvmTallyInc (bank : Nat) (s : State) : Host.Outcome State Fault Refusal :=
  s.nvmRun bank 2 fun d s => s.nvmTallyIncrement bank d

/-- NVM_TALLY_READ. -/
def execNvmTallyRead (bank : Nat) (s : State) : Host.Outcome State Fault Refusal :=
  s.nvmRun bank 3 fun d s => s.nvmTallyValue bank d

/-- NVM_UNLOCK. -/
def execNvmUnlock (bank : Nat) (s : State) : Host.Outcome State Fault Refusal := s.nvmRun bank 4 fun d s => s.nvmUnlockPart bank d

/-- NVM_LOCK. -/
def execNvmLock (bank : Nat) (s : State) : Host.Outcome State Fault Refusal := s.nvmRun bank 5 fun d s => s.nvmLockPart bank d

/-- NVM_SETPW. -/
def execNvmSetpw (bank : Nat) (s : State) : Host.Outcome State Fault Refusal := s.nvmRun bank 6 fun d s => s.nvmSetPassword bank d

/-- NVM_BENCH_SAVE. -/
def execNvmBenchSave (bank : Nat) (s : State) : Host.Outcome State Fault Refusal := s.nvmRun bank 7 fun d s => s.nvmSaveBench bank d

/-- R592: the descriptor whose last page has committed completes. -/
def State.ownerDone (s : State) (bank : Nat) (owner : Option (Nat × Nat)) : State :=
  match owner with
  | none => s
  | some (ticket, res) =>
    match (s.engQ (nvmKey bank)).entries.find? fun e => e.ticket == ticket && !e.done with
    | some d => s.nvmDone bank d (res % 2 ^ 32) (res / 2 ^ 32)
    | none => s

/-- R591: the oldest page write of bank b commits. -/
def State.commitOne (s : State) (b : Nat) : State :=
  match takeWrite b s.nvm.writes with
  | some (w, rest) => ((s.commitPage w).setWrites rest).ownerDone b w.owner
  | none => s

/-- Every page write in progress in bank b commits. -/
def State.settleBank (s : State) (b : Nat) : State := s.nvm.writes.foldl (fun s _ => s.commitOne b) s

/-- NVM_PAGE_COMMIT (R589, R591): the oldest page write of a bank commits. -/
def execNvmPageCommit (bank : Nat) (s : State) : Host.Outcome State Fault Refusal :=
  if 4 ≤ bank then .refused .noSuchUnit else .next (s.commitOne bank)

/-! ### The host's commands (R604) -/

/-- The 16 words of NVM_DATA as bytes. -/
def State.nvmData (s : State) : Bytes := (List.range 16).flatMap fun j => leBytes 4 (s.rdN (Reg.NVM_DATA_d j))

/-- Words of NVM_DATA are set from bytes. -/
def State.putNvmData (s : State) (b : Bytes) : State :=
  (List.range (b.length / 4)).foldl (fun s j => s.wrN (Reg.NVM_DATA_d j) (fieldLe b (4 * j) 4)) s

/-- R604: what a host command of op `op` comes to: its status, its data, and the state after it. -/
def State.hostNvm (s : State) (op : Nat) : Nat × Bytes × State :=
  let page := s.rdN Reg.NVM_ADDR_page
  let i := s.rdN Reg.NVM_ADDR_counter
  match op with
  | 1 => s.readPage page
  | 2 =>
    match s.admitPages [(page, s.nvmData)] with
    | ([], st) => (st, [], s)
    | _ => (0, [], s.beginPage page s.nvmData)
  | 3 =>
    if bankOf page ≠ 1 then (4, [], s)
    else if s.tallyStatus i ≠ 0 then (s.tallyStatus i, [], s) else (0, [], s.tallyInc i)
  | _ => if bankOf page ≠ 1 then (4, [], s) else (0, leBytes 8 (s.tally i).1, s.readTally i)

/-- R604: a host command starts, unless one runs. -/
def State.startNvm (s : State) (op : Nat) : State :=
  if op = 0 ∨ 4 < op ∨ s.nvm.host.isSome = true then s
  else
    let bank := bankOf (s.rdN Reg.NVM_ADDR_page)
    let (st, b, s) := s.hostNvm op
    { s with nvm := { s.nvm with host := some ⟨st, b, bank⟩ } }.wrN Reg.NVM_STATUS_host_busy 1

/-- A host command ends: its status, and vector 11 (R639). -/
def State.nvmResult (s : State) (st : Nat) : State := (s.wrN Reg.NVM_STATUS_host_result st).irq 11

/-- NVM_HOST_COMMAND_DONE (R590, R604): a host command ends, once its bank writes nothing. -/
def execNvmHostCommandDone (s : State) : Host.Outcome State Fault Refusal :=
  match s.nvm.host with
  | none => .next s
  | some h =>
    if s.bankBusy h.bank then .next s
    else
      let s := { s with nvm := { s.nvm with host := none } }
      .next (((s.putNvmData h.data).wrN Reg.NVM_STATUS_host_busy 0).nvmResult h.status)

/-- R595: an unlock through NVM_UNLOCK. -/
def State.hostUnlock (s : State) : State :=
  let pw := (List.range 4).flatMap fun j => leBytes 4 (s.rdN (Reg.NVM_PW_w j))
  let (st, s) := s.nvmUnlock (s.rdN Reg.NVM_UNLOCK_part) (s.rdN Reg.NVM_UNLOCK_kind) pw
  s.nvmResult st

/-- R595: a lock through NVM_UNLOCK. -/
def State.hostLock (s : State) : State :=
  let (st, s) := s.nvmLock (s.rdN Reg.NVM_UNLOCK_part) (s.rdN Reg.NVM_UNLOCK_kind)
  s.nvmResult st

end Sys2Proof.Machine
end

