-- ==== Sys2Proof/Machine/FieldActs.lean ====
section
/-! DEFINITION. What accepted values do at once (R8, R13), and one value or a table of values through the checker
(R90 to R97). -/
namespace Sys2Proof.Machine
open Sys2Proof

/-- R609: a warm reset that a source of cause `c` asks for; ignored in thermal shutdown, during a reset, and before the first
period. -/
def State.askWarm (s : State) (c : Nat) : State :=
  if s.health.shutdown || s.pins.warmDue != 0 || s.rd Reg.FRAME_COUNT_count == 0 then s
  else { s with pins := { s.pins with warmDue := c } }

/-- R208: a port is disabled, or retrains: its link is down. -/
def State.portDown (s : State) (p : Nat) : State :=
  (s.wrN (Reg.PORT_STATUS_link p) 0).wrN (Reg.PORT_STATUS_fec_lock p) 0

/-- R614: boot goes on at stage 5 with the host image. -/
def State.bootGo (s : State) : State :=
  if s.bootAt 12 then
    { s with pins := { s.pins with
        stageAddr := commonBase + 64 * s.rdN Reg.RST_BOOT_offset
        stageLen := s.rdN Reg.RST_BOOT_length } }.toStage 5
  else s

/-- R570: the first-record copy is emptied. -/
def State.clearFirst (s : State) : State :=
  (((s.wrN Reg.FM_FIRST_w0 0).wrN Reg.FM_FIRST_w1 0).wrN Reg.FM_FIRST_w2 0).wrN Reg.FM_FIRST_w3 0

/-- R78: a write of MSH_DOORBELL.events. -/
def State.doorbell (s : State) (v : Nat) : State := s.setSoft 0 (BitVec.ofNat 64 (v % 2 ^ 16 * 2 ^ 48))

/-- R330: TRV_CTRL.release: the held flags of the named watermarks of cluster c. -/
def State.releaseHeld (s : State) (c v : Nat) : State :=
  (List.range 16).foldl (fun s j => if bit v j then s.wrN (Reg.WM_STATE_held c j) 0 else s) s

/-- R295: DRAM_GRP[g].restore; whether the channel's training passes is open (log 5). -/
def State.askRestore (s : State) (g : Nat) : State :=
  ({ s with nfree := s.nfree + 1 }).restoreGroup g (Config.freeBit s.nfree)

/-- What an accepted value of a field of the global block does at once. -/
def State.actGlobal (s : State) (h : Nat) (v : Int) : State :=
  if h = Reg.RST_CTRL_warm then (if v = 1 then s.askWarm 4 else s)
  else if h = Reg.RST_BOOT_go then (if v = 1 then s.bootGo else s)
  else if h = Reg.REF_CTRL_select then s.selectRef v.toNat
  else if h = Reg.REF_CTRL_tol_ppm then s.pendingSwitch
  else s

/-- What an accepted value of a field of the fault manager does at once. -/
def State.actFaults (s : State) (h : Nat) (v : Int) : State :=
  if h = Reg.FM_LOG_clear_ovf then (if v = 1 then s.wrN Reg.FM_LOG_overwritten 0 else s)
  else if h = Reg.FM_CTRL_warm_reset then (if v = 1 ∧ s.inS4 = true then s.askWarm 5 else s)
  else if h = Reg.FM_ENGINE_target then s.engineTarget v.toNat
  else if h = Reg.FM_FIRST_clear then (if v = 1 then s.clearFirst else s)
  else s

/-- What an accepted value of a field of the datum and frame timing block does at once; `old` was accepted before it. A value
that moves the measured error of a reference may let a switch that waits take place (R618, R622). -/
def State.actTime (s : State) (h : Nat) (old v : Int) : State :=
  if h = Reg.DATUM_CTRL_select then (s.selectDatum old v).pendingSwitch
  else if h = Reg.DATUM_step_go 0 then (if v = 1 then s.stepDatum 0 else s)
  else if h = Reg.DATUM_step_go 1 then (if v = 1 then s.stepDatum 1 else s)
  else if h = Reg.DATUM_lock 0 then (s.lockWritten 0 v).pendingSwitch
  else if h = Reg.DATUM_lock 1 then (s.lockWritten 1 v).pendingSwitch
  else if h = Reg.DATUM_adj 0 ∨ h = Reg.DATUM_adj 1 then s.pendingSwitch
  else if h = Reg.FT_REST_enter then (if v = 1 then { s with frame := { s.frame with restAsked := true } } else s)
  else if h = Reg.FT_REST_exit then
    (if v = 1 then s.restWake else s)
  else s

/-- What an accepted value of a field of the NVM block does at once. -/
def State.actNvm (s : State) (h : Nat) (v : Int) : State :=
  if h = Reg.NVM_CMD_op then s.startNvm v.toNat
  else if h = Reg.NVM_UNLOCK_go then (if v = 1 then s.hostUnlock else s)
  else if h = Reg.NVM_UNLOCK_lock then (if v = 1 then s.hostLock else s)
  else if (List.range 4).any fun j => h == Reg.NVM_PW_w j then s.wr h v
  else s

/-- What an accepted value of a field of scene port p does at once. -/
def State.actPort (s : State) (p h : Nat) (old v : Int) : State :=
  if h = Reg.PORT_CTRL_enable p ∨ h = Reg.PORT_CTRL_split p then
    (if v = old then s else if h = Reg.PORT_CTRL_enable p ∧ v = 0 then (s.portDown p).ethLock p false else s.portDown p)
  else if h = Reg.CLIP_CTRL_stop then (if v = 0 then s else s.stopClips)
  else if h = Reg.PTP_TX_send p then s.ptpSend p v.toNat
  else if h = Reg.TSQ_pop p then (if v = 1 then s.tsqPopped p else s)
  else s

/-- What an accepted value of a field of cluster block c does at once. -/
def State.actCluster (s : State) (c h : Nat) (v : Int) : State :=
  if h = Reg.TRV_CTRL_release c then s.releaseHeld c v.toNat
  else if h = Reg.GUARD_CTRL_release then s.guardRelease v.toNat
  else if h = Reg.CORR_CTRL_swap then s.askSwap v
  else s

/-- What an accepted value of a field of tile link n does at once. -/
def State.actLink (s : State) (n h : Nat) (v : Int) : State :=
  if h = Reg.LANE_ADAPT_retry n then (if v = 1 then s.adaptRetry n else s)
  else if h = Reg.SVC_SLOTS_table_hi n then s.setLsvc n { s.lsvc n with swapDue := true }
  else s

/-- R8, R13: what an accepted value does at once, beside standing in its field; `old` was accepted before it. -/
def State.actOn (s : State) (h : Nat) (old v : Int) : State :=
  let i := h / 4096 % 4096
  match h / 2 ^ 24 with
  | 0x00 => s.actGlobal h v
  | 0x01 => if h = Reg.MSH_DOORBELL_events then s.doorbell v.toNat else s
  | 0x02 => if h = Reg.CLOG_CTRL_clear_ovf ∧ v = 1 then s.wrN Reg.CLOG_OVF_count 0 else s
  | 0x03 => s.actFaults h v
  | 0x04 => s.actTime h old v
  | 0x07 => s.actNvm h v
  | 0x10 => s.actPort i h old v
  | 0x20 => s.actCluster i h v
  | 0x40 => (List.range 3).foldl (fun s g => if h = Reg.DRAM_GRP_restore g ∧ v = 1 then s.askRestore g else s) s
  | 0x80 => s.actLink i h v
  | _ => s

/-- R90, R92: one value through the checker, from a source. -/
def State.checkValue (s : State) (src h : Nat) (v : Int) : Verdict × State :=
  match fieldOf s.par h with
  | none => (⟨5, 0⟩, s.clogEntry (h % 2 ^ 32) 5 src v 0)
  | some f =>
    let r := s.judge h f v
    let old := s.accepted h
    let t := (s.takeValue h f v).clogIf h r.status src v r.applied
    match f.row.access with
    | .rw | .wo => (r, t.actOn h old r.applied)
    | _ => (r, t)

/-- R97: the entries of a table in memory order: handle and value. -/
def tableEntries (b : Bytes) : List (Nat × Int) :=
  (List.range (b.length / 16)).map fun i => (fieldLe b (16 * i) 4, signed 64 (fieldLe b (16 * i + 8) 8))

/-- R95, R96: entries through the checker, in order: how many had a status, and the highest. -/
def State.checkTable (s : State) (src : Nat) : List (Nat × Int) → (Nat × Nat) × State
  | [] => ((0, 0), s)
  | (h, v) :: t =>
    let (r, s) := s.checkValue src h v
    let ((n, m), s) := s.checkTable src t
    ((n + b2n (r.status != 0), max m r.status), s)

end Sys2Proof.Machine
end

