-- ==== Sys2Proof/Machine/CheulField.lean ====
section
/-! DEFINITION. The field instructions (R70, R82, R91, R95, R98, R155 to R159). -/
namespace Sys2Proof.Machine
open Sys2Proof

/-- A result and its status: g[d], then g30 (R70, R91). -/
def State.fieldResult (s : State) (k : Nat) (d : BitVec 5) (v : Int) (status : Nat) : Result :=
  .ok ((s.setGreg k d (BitVec.ofInt 64 v)).setGreg k 30 (BitVec.ofNat 64 status)) (s.nextPc k)

/-- SETF (R91, R155). -/
def execSetf (q : SeqId) (f : KFmt) (s : State) : Host.Outcome State Fault Refusal :=
  s.cheul q fun k =>
    if fieldReserved f then .trap 0x02 s
    else
      let h := s.handleOf k f
      let v := (s.greg k f.b).toInt
      let t := s.drainAll k
      if !t.drained k then .stay t
      else
        let (r, t) := t.checkValue (srcOf k) h v
        t.fieldResult k f.d r.applied r.status

/-- GETF (R98, R156). -/
def execGetf (q : SeqId) (f : KFmt) (s : State) : Host.Outcome State Fault Refusal :=
  s.cheul q fun k =>
    if fieldReserved f then .trap 0x02 s
    else
      let (v, st, t) := s.getField (srcOf k) (s.handleOf k f) ((s.greg k f.b).toNat % 256)
      t.fieldResult k f.d v st

/-- SETFV (R95 to R97, R157, R159). -/
def execSetfv (q : SeqId) (f : KFmt) (s : State) : Host.Outcome State Fault Refusal :=
  s.cheul q fun k =>
    let a := (s.greg k f.a).toNat
    let n := (s.greg k f.b).toNat
    if 65535 < n then .trap 0x0B s
    else if a % 16 ≠ 0 then .trap 0x03 s
    else if !s.paddockRange a (16 * n) then .trap 0x04 s
    else
      let t := s.drainAll k
      if !t.drained k then .stay t
      else match t.readMem (.seq k) a (16 * n) with
        | (none, u) => .trap 0x0D u
        | (some b, u) =>
          if u.mem.stalls ≠ t.mem.stalls then .stay t
          else
            let ((c, m), u) := u.checkTable (srcOf k) (tableEntries b)
            u.fieldResult k f.d c m

end Sys2Proof.Machine
end

