-- ==== Sys2Proof/Machine/Governor.lean ====
section
/-! DEFINITION. The governor (R536 to R543) and the measurements of self-trim (R545, R547). -/
namespace Sys2Proof.Machine
open Sys2Proof

/-- A hardware field decided now and in effect from the next period start: the register shows it at once. -/
def State.decide_ (s : State) (h v : Nat) : State := s.setCell h ⟨v, (s.cell h).eff, some v, none⟩

/-- What was decided for a field comes into effect (R374, R541, R543). -/
def State.latchCell (s : State) (h : Nat) : State :=
  let c := s.cell h
  match c.nxt with
  | some v => s.setCell h ⟨c.acc, v, none, none⟩
  | none => s

/-! ### Zone power (R536 to R538) -/

/-- R536: the prediction of a tile from its sums. -/
def State.tilePower (s : State) (k : Nat) (p : TilePower) : Nat :=
  let t := (s.tileCoef k).type
  let part := fun h sum => s.efN h * sum / (65535 * p.n)
  s.efN (Reg.GOV_TYPE_idle t) + part (Reg.GOV_TYPE_full_r t) p.sr + part (Reg.GOV_TYPE_full_g t) p.sg +
    part (Reg.GOV_TYPE_full_b t) p.sb

/-- R536: the predictions of the frame of the period. -/
def State.predictTiles (s : State) : State :=
  let p := s.health.power.foldl (fun t (k, x) => if x.n = 0 then t else Tab.set t k (s.tilePower k x)) s.health.predicted
  s.setHealth { s.health with predicted := p, power := [] }

/-- R536: the prediction of a zone. -/
def State.zonePower (s : State) (z : Nat) : Nat :=
  (((List.range s.tileCount).filter fun k => (s.tileCoef k).zone == z).map fun k => Tab.get 0 s.health.predicted k).sum

/-- R538: the one warning for a zone whose ceiling has come to 0 and which is over its budget; its cause code and detail
words are open (log 5). -/
def State.zoneWarning (s : State) (z g : Nat) (above : Bool) : State :=
  let h := s.health
  if !above then s.setHealth { h with zoneWarned := h.zoneWarned.filter (· ≠ z) }
  else if g = 0 && !h.zoneWarned.contains z then
    let s := s.setHealth { h with zoneWarned := h.zoneWarned ++ [z] }
    let (a, s) := s.fresh
    let (b, s) := s.fresh
    let (c, s) := s.fresh
    s.noteRecord 1 0x05 0 (a.toNat % 2 ^ 16) (b.toNat % 2 ^ 32) c.toNat
  else s

/-- R537: the ceiling of a zone for the next frame. -/
def nextCeiling (g p b ramp rise margin : Nat) : Nat :=
  if b < p then g - ramp else if p * 100 ≤ b * (100 - margin) then min 32768 (g + rise) else g

/-- R537, R538: the ceiling of zone z. -/
def State.zoneDecision (s : State) (z : Nat) : State :=
  let p := s.zonePower z
  let b := s.efN (Reg.GOV_ZONE_budget z)
  let g := s.efN (Reg.GOV_ZONE_ceil z)
  let g' := nextCeiling g p b (s.efN Reg.GOV_CTRL_zone_ramp) (s.efN Reg.GOV_CTRL_zone_rise) (s.efN Reg.GOV_CTRL_rise_margin)
  let s := (s.wrN (Reg.GOV_ZONE_predicted z) p).wrN (Reg.GOV_ZONE_over z) (b2n (decide (b < p)))
  let s := s.bump Reg.GOV_CNT_ceiling_frames (b2n (decide (g < 32768)))
  (if g' = g then s else s.decide_ (Reg.GOV_ZONE_ceil z) g').zoneWarning z g' (decide (b < p))

/-- R537: the ceilings of every zone, if the period rendered a frame. -/
def State.zoneDecisions (s : State) : State :=
  if s.health.power.isEmpty then s else (List.range 64).foldl (fun s z => s.zoneDecision z) s.predictTiles

/-! ### The thermal stage and halving (R539, R543) -/

/-- R539: the stage after a latch point. -/
def State.stageUpdate (s : State) : State :=
  let st := s.rdN Reg.GOV_THERM_stage
  let top := s.efN Reg.GOV_THERM_max_stage
  let hot := decide (2 ≤ s.rdN Reg.HEALTH_STATE_state) || s.rd Reg.HEALTH_STATE_rate_state == 2
  let n := if hot then 0 else s.health.calmLatches + 1
  if hot then (s.wrN Reg.GOV_THERM_stage (min top (st + 1))).setHealth { s.health with calmLatches := 0 }
  else if s.efN Reg.GOV_THERM_hold_frames ≤ n then
    (s.wrN Reg.GOV_THERM_stage (min top (st - 1))).setHealth { s.health with calmLatches := 0 }
  else (s.wrN Reg.GOV_THERM_stage (min top st)).setHealth { s.health with calmLatches := n }

/-- R543: halving for the next period. -/
def State.halvingDecision (s : State) : State :=
  let v := b2n (decide (2 ≤ s.rdN Reg.GOV_THERM_stage))
  if s.rdN Reg.GOV_HALVE_halving = v then s else (s.decide_ Reg.GOV_HALVE_halving v).e10

/-! ### Cluster clock gears (R541, R542) -/

/-- R539: the cluster clock gear cap of a stage. -/
def clockCap (stage : Nat) : Nat := 3 - min 3 stage

/-- R542: the gear for some busy cycles. -/
def clockGear (cap busy fill t : Nat) : Nat :=
  ((List.range (cap + 1)).find? fun g => decide (busy * 400 ≤ fill * t * clockQuarters g)).getD cap

/-- R542: the gears of the clusters for the next period. -/
def State.clockDecisions (s : State) : State :=
  s.serving.foldl (fun s c =>
    let x := s.clu c
    let g := clockGear (clockCap (s.rdN Reg.GOV_THERM_stage)) x.busy (s.efN Reg.GOV_CLK_fill_pct) (s.efN Reg.FT_PERIOD_t_min_ns)
    s.setClu c { x with gearNext := g }) s

/-- R541: a physical cluster runs at a gear. -/
def State.setClock (s : State) (c g : Nat) : State :=
  let h := Reg.GOV_CLKG_gears (c / 32)
  let w := s.rdN h
  s.wrN h (w - s.clockOf c * 4 ^ (c % 32) + g % 4 * 4 ^ (c % 32))

/-- R541: the gears decided come into effect. -/
def State.latchClocks (s : State) : State := s.serving.foldl (fun s c => s.setClock c (s.clu c).gearNext) s

/-! ### Link gears (R540) -/

/-- R540: the slots of the table that will be in effect for link n. -/
def State.nextSlots (s : State) (n : Nat) : Nat :=
  if (s.lsvc n).swapDue then slotCount (s.rdN (Reg.SVC_SLOTS_table_lo n) + s.rdN (Reg.SVC_SLOTS_table_hi n) * 2 ^ 32)
  else slotCount (s.rdN (Reg.SVC_SLOTS_active n))

/-- R540: the lowest gear whose window takes the link's cells with the headroom. -/
def State.needGear (s : State) (n : Nat) : Nat :=
  let l := s.lnk n
  let bytes := l.cellsFrame * 31 * (100 + s.efN Reg.GOV_LINK_headroom_pct) / 100
  if s.carrying n || l.stoppedInPeriod || (s.ef Reg.GOV_CTRL_guard_gallop == 1 && s.armed n) then 3
  else ((List.range 4).find? fun g =>
    decide (bytes ≤ 31 * slabCells (s.nextVal Reg.FT_PERIOD_t_min_ns) g (s.nextSlots n))).getD 3

/-- R540: the gear of link n for the next period. -/
def State.gearFor (s : State) (n : Nat) : Nat :=
  min (max (s.needGear n) (max (s.nextVal (Reg.LINK_GEAR_gear_req n)) (s.lnk n).reqNext))
    (min (s.rdN (Reg.LINK_GEAR_cap n)) s.stageGearCap)

/-- R427: link n at a latch point: adaptation, the gear decision, then a gear change, or an entry change and a trim step. -/
def State.latchLink (s : State) (n : Nat) : State :=
  if !(s.rd (Reg.LANE_STATE_tx n) == 3) then s
  else
    let ((tx, bc), s) := s.adaptLink n
    let g := s.gearFor n
    let now := s.rdN (Reg.LINK_GEAR_gear n)
    let s := s.wrN (Reg.LINK_GEAR_next n) g
    let s := if g = now then s else s.bump Reg.GOV_CNT_gear_changes 1
    if g ≠ now ∧ nsUnits 3000 ≤ s.periodEnd - s.active then s.beginGear n g
    else
      let s := s.wrN (Reg.LINK_GEAR_next n) now
      let s := match tx with
        | some i => s.useTx n i
        | none => s
      match bc with
      | some i => if s.rdN (Reg.LANE_EQ_bc_entry n) = i then s.trimStep n else s.useBc n i
      | none => s.trimStep n

/-- The zone ceilings, cluster clock gears and link gears that the governor has decided for the next period. -/
def State.decided (s : State) : List Int :=
  (List.range 64).map (fun z => s.rd (Reg.GOV_ZONE_ceil z)) ++ s.serving.map (fun c => ((s.clu c).gearNext : Int)) ++
    (List.range s.par.tileLinks).map (fun n => s.rd (Reg.LINK_GEAR_next n))

/-- R427, R537 to R543: what the governor and the lanes do at a latch point, with e10 when a decision changes (R72). -/
def State.latchDecisions (s : State) : State :=
  let t := s.zoneDecisions.stageUpdate.halvingDecision.clockDecisions
  let t := (List.range s.par.tileLinks).foldl (fun s n => s.latchLink n) t
  if t.decided = s.decided then t else t.e10

/-- R374, R541, R543: the decisions come into effect at a period start. -/
def State.latchGovernor (s : State) : State :=
  let s := (List.range 64).foldl (fun s z => s.latchCell (Reg.GOV_ZONE_ceil z)) s.latchClocks
  let s := s.latchCell Reg.GOV_HALVE_halving
  s.bump Reg.GOV_HALVE_periods (b2n (s.ef Reg.GOV_HALVE_halving == 1))

/-- TRIM_MEASUREMENT (R545, R547): a quantity's passing window, from `low` to `high`. -/
def execTrimMeasurement (m : TrimResult) (s : State) : Host.Outcome State Fault Refusal :=
  if s.par.channels ≤ m.channel ∨ 34 ≤ m.quantity then .refused .noSuchUnit
  else if s.rd (Reg.DRAM_STATUS_state m.channel) != 0 || m.high < m.low || trimRange m.quantity ≤ m.high then .next s
  else
    let s := s.measure m
    if (s.trimQ m.channel m.quantity).ends = 16 then .next (s.failChannel m.channel 4) else .next s

end Sys2Proof.Machine
end

