-- ==== Sys2Proof/Machine/CheulDevice.lean ====
section
/-! DEFINITION. The device instructions SVC, COMMIT and GEAR (R82, R160 to R171), lockstep errors and the marshal's resumption
(R64, R113). -/
namespace Sys2Proof.Machine
open Sys2Proof

/-! ### SVC -/

/-- R161, R471, R472: the message at an address, its 16-byte head and its data; the head alone where it bars the message.
None for a cause. -/
def State.readMessage (s : State) (k a : Nat) : Except Nat Bytes × State :=
  if a % 8 ≠ 0 then (.error 0x03, s)
  else if !s.paddockRange a 16 then (.error 0x04, s)
  else match s.readMem (.seq k) a 16 with
    | (none, s) => (.error 0x0D, s)
    | (some h, s) =>
      let n := fieldLe h 2 2
      if !msgOk h || n == 0 then (.ok h, s)
      else if !s.paddockRange a (16 + n) then (.error 0x04, s)
      else match s.readMem (.seq k) (a + 16) n with
        | (none, s) => (.error 0x0D, s)
        | (some b, s) => (.ok (h ++ b), s)

/-- SVC (R160 to R162). -/
def execSvc (q : SeqId) (f : KFmt) (s : State) : Host.Outcome State Fault Refusal :=
  s.cheul q fun k =>
    let n := (s.greg k f.a).toNat
    if 32 ≤ f.sub.toNat then .trap 0x02 s
    else if k ≠ 0 then .trap 0x0A s
    else if s.par.tileLinks ≤ n then .trap 0x0B s
    else
      let t := s.drainAll k
      match t.readMessage k (s.greg k f.b).toNat with
      | (.error c, u) => .trap c u
      | (.ok b, u) =>
        if !t.drained k || u.mem.stalls != t.mem.stalls then .stay t
        else match u.queueMessage n b (if f.sub.getLsbD 4 then some (f.sub.toNat % 16) else none) with
          | (some ticket, u) => u.writes k f.d (BitVec.ofNat 64 ticket)
          | (none, u) => u.writes k f.d (BitVec.ofInt 64 (-1))

/-! ### COMMIT (R164 to R166, R515) -/

/-- R165: the period in which a commit made now takes effect. -/
def State.commitPeriod (s : State) : Nat := s.rdN Reg.FRAME_COUNT_count + (if s.latched then 2 else 1)

/-- R515: a layer set is committed. -/
def State.commitSet (s : State) (a : Nat) : State :=
  if s.latched then s.wrN Reg.FT_COMMIT_after a else s.wrN Reg.FT_COMMIT_next a

/-- MSH_PROG.pending shows the program that is to become active first (R103, R515). -/
def State.showProgram (s : State) : State :=
  s.wrN Reg.MSH_PROG_pending (if s.frame.progNext = 0 then s.frame.progAfter else s.frame.progNext)

/-- R515: a frame program is committed. -/
def State.commitProgram (s : State) (a : Nat) : State :=
  let fr := s.frame
  { s with frame := if s.latched then { fr with progAfter := a } else { fr with progNext := a } }.showProgram

/-- R164 to R166: COMMIT, by its sub field. -/
def State.commit (s : State) (k : Nat) (f : KFmt) : Result :=
  let a := (s.greg k f.a).toNat
  if 2 ≤ f.sub.toNat then .trap 0x02 s
  else if k ≠ 0 then .trap 0x0A s
  else if f.sub = 0 then
    (if a % 64 ≠ 0 then .trap 0x03 s
     else
       let t := s.drainAll k
       if !t.drained k then .stay t
       else (t.commitSet (a % 2 ^ 40)).writes k f.d (BitVec.ofNat 64 t.commitPeriod))
  else if a % 128 ≠ 0 then .trap 0x03 s
  else
    let t := s.drainAll k
    if !t.drained k then .stay t
    else match t.imageAt a with
    | some i => if i.kind = 1 then (t.commitProgram a).writes k f.d (BitVec.ofNat 64 t.commitPeriod) else t.writes k f.d 0
    | none => t.writes k f.d 0

/-- COMMIT_LAYER_SET: COMMIT with sub 0. -/
def execCommitLayerSet (q : SeqId) (f : KFmt) (s : State) : Host.Outcome State Fault Refusal := s.cheul q fun k => s.commit k f

/-- COMMIT_FRAME_PROGRAM: COMMIT with sub 1. -/
def execCommitFrameProgram (q : SeqId) (f : KFmt) (s : State) : Host.Outcome State Fault Refusal :=
  s.cheul q fun k => s.commit k f

/-! ### GEAR (R169 to R171) -/

/-- R170: the two gears as GEAR writes them. -/
def gearWord (now next : Nat) : Word := BitVec.ofNat 64 (now % 4 + next % 4 * 16)

/-- R171: a request of a link gear, for the next period or at or after the latch point the one after it. One at or below the
gear already decided for the next period changes nothing. -/
def State.requestGear (s : State) (n g : Nat) : State :=
  let l := s.lnk n
  if g ≤ s.rdN (Reg.LINK_GEAR_next n) then s
  else s.setLnk n (if s.latched then { l with reqAfter := max l.reqAfter g } else { l with reqNext := max l.reqNext g })

/-- R170, R540: the governor's answer to a request of gear `g`: the gear decided raised to it and to the requests before it
for the same period, within the caps. -/
def State.gearAnswer (s : State) (n g : Nat) : Nat :=
  let l := s.lnk n
  let earlier := if s.latched then l.reqAfter else l.reqNext
  min (max g (max earlier (s.rdN (Reg.LINK_GEAR_next n)))) (min (s.rdN (Reg.LINK_GEAR_cap n)) s.stageGearCap)

/-- R170: the clock gears of a logical index; those of an index that no cluster serves are free values (log 5). -/
def State.clockWord (s : State) (l : Nat) : Word × State :=
  match s.physOf l with
  | some c => (gearWord (s.clockOf c) (if s.latched then (s.clu c).gearNext else s.clockOf c), s)
  | none =>
    let (v, s) := s.fresh
    (v &&& 0x33, s)

/-- R169: GEAR, by its sub field. -/
def State.gear (s : State) (k : Nat) (f : KFmt) : Result :=
  let a := (s.greg k f.a).toNat
  let b := (s.greg k f.b).toNat
  if 3 ≤ f.sub.toNat then .trap 0x02 s
  else if f.sub ≠ 2 ∧ k ≠ 0 then .trap 0x0A s
  else if f.sub = 2 then
    (if s.par.active ≤ a then .trap 0x0B s
     else
       let (v, t) := s.clockWord a
       t.writes k f.d v)
  else if s.par.tileLinks ≤ a then .trap 0x0B s
  else if f.sub = 0 then s.writes k f.d (gearWord (s.rdN (Reg.LINK_GEAR_gear a)) (s.rdN (Reg.LINK_GEAR_next a)))
  else if 3 < b then .trap 0x0B s
  else (s.requestGear a b).writes k f.d (gearWord (s.rdN (Reg.LINK_GEAR_gear a)) (s.gearAnswer a b))

/-- GEAR_QUERY_LINK: GEAR with sub 0. -/
def execGearQueryLink (q : SeqId) (f : KFmt) (s : State) : Host.Outcome State Fault Refusal := s.cheul q fun k => s.gear k f

/-- GEAR_REQUEST: GEAR with sub 1. -/
def execGearRequest (q : SeqId) (f : KFmt) (s : State) : Host.Outcome State Fault Refusal := s.cheul q fun k => s.gear k f

/-- GEAR_QUERY_CLUSTER: GEAR with sub 2. -/
def execGearQueryCluster (q : SeqId) (f : KFmt) (s : State) : Host.Outcome State Fault Refusal := s.cheul q fun k => s.gear k f

/-! ### The marshal's lockstep and restart -/

/-- LOCKSTEP_ERROR (R64, R113, R569): the result is discarded, both cores halt, and the marshal's restart is due. -/
def execLockstepError (s : State) : Host.Outcome State Fault Refusal :=
  if s.stopped || s.rd Reg.MSH_STATUS_state != 1 then .next s
  else
    let s := (s.wrN Reg.MSH_STATUS_state 2).wrN Reg.MSH_STATUS_lockstep 0
    let s := { s with sq := { s.sq with restartDue := true } }
    .next (s.raise .marshal 0x0020 2 0x01 0 (unsigned 32 (s.pc 0)) (s.rdN Reg.FRAME_COUNT_count))

/-- MARSHAL_RESUME (R113, R121): the marshal resumes at its checkpoint; one that stands at S3 waits for its retry (R670). -/
def execMarshalResume (s : State) : Host.Outcome State Fault Refusal :=
  if s.sq.restartDue && !s.stopped && !s.fm.standing.contains .marshal then .next s.resumeMarshal else .next s

end Sys2Proof.Machine
end

