-- ==== Sys2Proof/Machine/FrameTiming.lean ====
section
/-! DEFINITION. Periods, blanking, commits and rest (R189, R367, R396, R454, R463, R508 to R522), program activation (R110)
and the retries of resources that stand at S3 (R670). -/
namespace Sys2Proof.Machine
open Sys2Proof

/-- Frame timing replaced. -/
def State.setFrame (s : State) (f : Frame) : State := { s with frame := f }

/-! ### Latch point (R508, R519) -/

/-- R508: the two conditions of the latch point. -/
def State.latchDue (s : State) : Bool :=
  (s.serving.all fun c => (s.clu c).band255 && !s.frameListBusy c) &&
  ((List.range s.par.clusters).all fun c => !s.encBusy c) && (s.links.all fun (_, l) => l.unsent == 0)

/-- R519: rest is asked for, or input has been lost for idle_ms. -/
def State.restDue (s : State) : Bool :=
  s.frame.restAsked ||
    (s.ef Reg.FT_REST_auto == 1 && s.bothLost && s.ing.playJob.isNone &&
      decide (s.efN Reg.FT_REST_idle_ms * 1000000 * 2 ^ 32 ≤ s.clk.free.units - s.ing.quietAt))

/-- The latch point occurs (R427, R508, R519, R537 to R543). -/
def State.latch (s : State) : State :=
  let s := s.setFrame { s.frame with restDecided := s.restDue, restAsked := false }
  let s := ((s.wrN Reg.FT_STATE_state 2).wrN Reg.FT_LATCH_time s.activeWord).setEventsAll (flag 1)
  (s.irq 4).latchDecisions

/-- LATCH_POINT (R508): `dt` ticks pass; the latch point occurs when its conditions hold. -/
def execLatchPoint (dt : Nat) (s : State) : Host.Outcome State Fault Refusal :=
  let s := s.advance dt
  if s.ftState == 1 && !s.stopped && s.latchDue then .next s.latch else .next s

/-- R508: the time at which the latch point is forced. -/
def State.forcedAt (s : State) : Int := s.periodEnd - nsUnits (1000 * s.efN Reg.FT_PERIOD_latch_guard_us)

/-- The latch point is forced. -/
def State.forceLatch (s : State) : State := (s.bump Reg.FT_CNT_forced_latch 1).latch

/-- FORCED_LATCH (R508): `dt` ticks pass; the latch point occurs latch_guard_us before the end of the period. -/
def execForcedLatch (dt : Nat) (s : State) : Host.Outcome State Fault Refusal :=
  let s := s.advance dt
  if s.ftState == 1 && !s.stopped && decide (s.forcedAt ≤ s.active) then .next s.forceLatch else .next s

/-! ### What a period start does -/

/-- R463, R563: what the SYNC that names frame `shown` asks of tile `k`: a pattern if any cause calls for one, the first in the
order guarded regions, crack loop, S3 state. -/
def State.tileMode (s : State) (shown k : Nat) : SyncMode :=
  let g := s.guardMode k
  let crack := (s.tile k).crackOpen
  let act := s.efN (Reg.TILE_CTRL_crack_action (2 * k))
  let s3 := s.s3Holds shown k
  match g with
  | some (some p) => ⟨2, p⟩
  | _ =>
    if crack && act == 1 then ⟨2, s.efN (Reg.TILE_CTRL_crack_pattern (2 * k))⟩
    else if s3 && s.ef Reg.FM_CTRL_s3_action == 1 then ⟨2, s.efN Reg.FM_CTRL_s3_pattern⟩
    else if g.isSome || (crack && act == 0) || s3 then ⟨1, 0⟩ else ⟨0, 0⟩

/-- R515, R517: the next slot of the layer sets takes effect, and the after slot moves up. -/
def State.shiftSets (s : State) : State :=
  let n := s.rdN Reg.FT_COMMIT_next
  let s := if n = 0 then s.bump Reg.FT_CNT_no_commit 1 else s.wrN Reg.FT_COMMIT_current n
  (s.wrN Reg.FT_COMMIT_next (s.rdN Reg.FT_COMMIT_after)).wrN Reg.FT_COMMIT_after 0

/-- R107, R110: the entries of sections of an image, read by the program loader; none where one cannot be corrected. -/
def State.sectionEntries (s : State) : List ImageSection → Option (List (Nat × Int)) × State
  | [] => (some [], s)
  | x :: t =>
    let (b, s) := s.readMem .trust x.load x.size
    let (r, s) := s.sectionEntries t
    (match b, r with
     | some b, some r => some (tableEntries b ++ r)
     | _, _ => none, s)

/-- R110, R159: the field tables of a type of an image pass the checker as one SETFV, which applies no entry where one of them
cannot be read. -/
def State.applyTables (s : State) (i : LoadedImage) (ty : Nat) : State :=
  match s.sectionEntries (i.sections.filter fun x => x.type == ty) with
  | (some l, s) => (s.checkTable srcLoader l).2
  | (none, s) => s

/-- R66, R110: the image at a header address becomes the active program: its activation field table, then every sequencer. -/
def State.activate (s : State) (a : Nat) : State :=
  match s.imageAt a with
  | none => s
  | some i => ((s.applyTables i 4).wrN Reg.MSH_PROG_active a).startAll

/-- R19, R110: the BOOT values of a committed program's boot field table wait for the next warm reset. -/
def State.takeBootTable (s : State) (a : Nat) : State :=
  match s.imageAt a with
  | none => s
  | some i => s.applyTables i 5

/-- R110, R515: the next slot of the frame programs takes effect, and the after slot moves up. -/
def State.shiftProgram (s : State) : State :=
  let n := s.frame.progNext
  let s := (s.setFrame { s.frame with progNext := s.frame.progAfter, progAfter := 0 }).showProgram
  if n = 0 then s else (s.takeBootTable n).activate n

/-- The physical cluster that serves a logical index before any spare. -/
def homeOf (p : Params) (l : Nat) : Nat := if p.fieldDies = 2 ∧ 32 ≤ l then l + 2 else l

/-- R560, R670: the retry of a resource that stands at S3. -/
def State.retry (s : State) (r : Resource) : State :=
  match r with
  | .cluster l => if (s.physOf l).isSome then s else (s.assignSpare (homeOf s.par l) l).2
  | .marshal => s.resumeMarshal
  | .link n => s.retryLink n
  | .tile k => if (s.tile k).noLink then (s.retryLink (2 * k)).retryLink (2 * k + 1) else s
  | .dram ch => if s.par.groups ≠ 0 ∧ (s.failedIn (ch / 8)).length ≤ 1 then s.recovered r else s
  | .slice k => if s.sliceFailed (xorNat k 8) then s else s.recovered r
  | .datum _ => s.autoSwitch.recovered r
  | .reference w =>
    if s.reference ≠ w then s.recovered r
    else if s.refGood (1 - w) then (s.switchRef (1 - w)).recovered r else s
  | _ => s

/-- R560: every resource that stands at S3 is retried once. -/
def State.retryAll (s : State) : State := s.fm.standing.foldl (fun s r => s.retry r) s

/-- The values that a period start brings into effect (R13, R18, R378, R396, R515, R541). -/
def State.newValues (s : State) : State :=
  let shown := (List.range 32).filter fun r => (s.region_ r).enable
  let s := (((s.applyAt .frame).applyAt .band).latchGovernor).countUnlinked
  ((s.shiftSets.applySwap.hubNewFrame).guardEnables fun r => shown.contains r).latchBands

/-- The counts and marks of a period at its start (R292, R349, R358, log 73): no band boundary, no uncorrectable DRAM error, the
plots that finished early for period `n`, and the headers of the sets of this period and the next. -/
def State.newCounts (s : State) (n : Nat) : State :=
  let s := (s.wrN Reg.TRV_GLOBAL_band_passed 0).guardEarly (n % 2 ^ 32)
  let s := { s with mem := { s.mem with eccErrs := [] } }
  (s.readHeader (s.rdN Reg.FT_COMMIT_current)).readHeader (s.rdN Reg.FT_COMMIT_next)

/-- The engines, ingest and the links at the start of period `n` (R189, R241, R310, R435, R454, R490). Ingest closes its target
after the FRAME values have taken effect, so the closing set has the section's new size (DESIGN CHOICE, log 80). -/
def State.newWork (s : State) (n : Nat) : State :=
  let cs := List.range s.par.clusters
  let s := cs.foldl (fun s c => (s.trvPeriodStart (n % 2 ^ 32) c).encPeriodStart c) (s.newCounts n)
  let s := (List.range s.par.tileLinks).foldl (fun s i => s.takeBack i) s.closeTarget.settleQuads
  let s := ((List.range s.par.tileLinks).foldl (fun s i => s.openWindow i) s).retryAll
  (List.range s.par.channels).foldl (fun s ch => s.trimBoundary ch) s

/-- R511: e0 in every sequencer, with vector 3. -/
def State.e0 (s : State) : State :=
  ((List.range (s.par.clusters + 1)).foldl (fun s k => s.setEvents k (flag 0)) s).irq 3

/-- A period starts (R509 to R517): `show_` is the show time of its SYNC, `modeOf` what it asks of each tile, `rest` whether
rest follows. -/
def State.startPeriod (s : State) (show_ : Nat) (modeOf : Nat → SyncMode) (rest : Bool) : State :=
  let n := s.rdN Reg.FRAME_COUNT_count + 1
  let modes := (List.range s.tileCount).map modeOf
  let s := s.newValues
  let s := (s.wrN Reg.FRAME_COUNT_count n).wrN Reg.FT_START_time s.activeWord
  let s := s.setFrame { s.frame with startAt := s.active, readyAt := none, afterRest := false }
  let s := ((s.newWork n).wrN Reg.FT_STATE_state (if rest then 3 else 1)).shiftProgram.e0
  let s := s.wrN Reg.FT_STATE_locked_now (b2n s.showUsable)
  let s := s.syncAll show_ ((n - 1) % 2 ^ 32) (fun k => modes.getD k ⟨1, 0⟩) rest
  (s.setFrame { s.frame with showDue := some show_, lastFrame := (n - 1) % 2 ^ 32 }).dropHolds (n - 1)

/-- R513: a period of locked mode that had no usable show time is counted. -/
def State.countMiss (s : State) : State :=
  if s.ef Reg.FT_PERIOD_mode == 1 && !s.showUsable then s.bump Reg.FT_CNT_lock_miss 1 else s

/-- The period that follows the running one starts (R361, R367, R463, R512, R513, R520). -/
def State.nextPeriod (s : State) : State :=
  let show_ := if s.showUsable then s.showNow else s.leadShow
  let shown := s.rdN Reg.FRAME_COUNT_count
  let s := s.countMiss.guardCloseAll
  if s.frame.restDecided then s.startPeriod show_ (fun _ => ⟨1, 0⟩) true
  else s.startPeriod show_ (fun k => s.tileMode shown k) false

/-- R509: the conditions of a period start but for T_min and the latch point. -/
def State.workOver (s : State) : Bool :=
  ((List.range s.par.clusters).all fun c => !s.encHolds c) &&
  (s.links.all fun (_, l) => l.unsent == 0 && !l.changing) && s.on Reg.ING_STATE_assembled &&
  (s.rd Reg.FT_COMMIT_next == 0 || s.setAssembled (s.rdN Reg.FT_COMMIT_next))

/-- R509: the next period may start before T_max. -/
def State.startDue (s : State) : Bool :=
  decide (nsUnits (s.efN Reg.FT_PERIOD_t_min_ns) ≤ s.elapsed) && s.latched && s.workOver

/-- A period runs, and nothing has stopped it. -/
def State.inPeriod (s : State) : Bool := !s.stopped && (s.ftState == 1 || s.ftState == 2)

/-- A period that is to end has had its latch point. -/
def State.latchedBy (s : State) : State := if s.latched then s else s.forceLatch

/-- PERIOD_START (R509, R511): `dt` ticks pass; the next period starts when its conditions hold. -/
def execPeriodStart (dt : Nat) (s : State) : Host.Outcome State Fault Refusal :=
  let s := s.advance dt
  if s.inPeriod && !s.showUsable && s.startDue then .next s.nextPeriod else .next s

/-- R510, R512: the next period starts at T_max, or at the fixed end that takes its place, whatever else is true. -/
def State.endAtMax (s : State) : State :=
  let t := s.latchedBy
  (if s.startDue then t else t.bump Reg.FT_CNT_tmax_starts 1).nextPeriod

/-- PERIOD_START_TMAX (R509, R510): `dt` ticks pass; the next period starts at T_max. -/
def execPeriodStartTmax (dt : Nat) (s : State) : Host.Outcome State Fault Refusal :=
  let s := s.advance dt
  if s.inPeriod && !s.showUsable && decide (nsUnits (s.efN Reg.FT_PERIOD_t_max_ns) ≤ s.elapsed) then .next s.endAtMax
  else .next s

/-- PERIOD_START_LOCKED (R512): `dt` ticks pass; the next period starts at the fixed end. -/
def execPeriodStartLocked (dt : Nat) (s : State) : Host.Outcome State Fault Refusal :=
  let s := s.advance dt
  if s.inPeriod && s.showUsable && decide (s.periodEnd ≤ s.active) then .next s.endAtMax else .next s

/-! ### The first period (R514) -/

/-- R514: in locked mode, the start that the target's show time asks for, if it lay ahead at `ready`. -/
def State.firstAt (s : State) (ready : Int) : Option Int :=
  match s.ing.cur.head with
  | some h =>
    let at_ := s.startFor h.show_ - nsUnits (s.efN Reg.FT_PERIOD_nominal_ns)
    if s.ef Reg.FT_PERIOD_mode = 1 ∧ h.show_ ≠ 0 ∧ ready < at_ then some at_ else none
  | none => none

/-- R514: the first period starts: a HOLD SYNC on every tile. -/
def State.firstPeriod (s : State) : State :=
  let s := if s.rd Reg.FRAME_COUNT_count == 0 then
      let (v, s) := s.fresh
      s.wrN Reg.RST_TIME_ready_us (v.toNat % 2 ^ 32)
    else s
  s.guardReleaseAll.startPeriod s.leadShow (fun _ => ⟨1, 0⟩) false

/-- FIRST_PERIOD_START (R514): `dt` ticks pass; the first period after reset or rest starts when its conditions hold. -/
def execFirstPeriodStart (dt : Nat) (s : State) : Host.Outcome State Fault Refusal :=
  let s := s.advance dt
  match s.frame.readyAt with
  | none => .next s
  | some r =>
    if !s.noPeriod || s.stopped then .next s
    else match s.firstAt r with
      | some at_ => if at_ ≤ s.active then .next s.firstPeriod else .next s
      | none =>
        if s.on Reg.ING_STATE_assembled || decide (nsUnits (s.efN Reg.FT_PERIOD_t_max_ns) ≤ s.active - r) then
          .next (s.bump Reg.FT_CNT_lock_miss (b2n (s.ef Reg.FT_PERIOD_mode == 1))).firstPeriod
        else .next s

/-- SHOW_TIME_REACHED (R518): `dt` ticks pass; the active datum reaches the show time of the latest SYNC. -/
def execShowTimeReached (dt : Nat) (s : State) : Host.Outcome State Fault Refusal :=
  let s := s.advance dt
  match s.frame.showDue with
  | none => .next s
  | some w =>
    if s.wordUnits w ≤ s.active then .next ((s.setFrame { s.frame with showDue := none }).wrN Reg.LAST_FLIP_time w)
    else .next s

/-! ### Rest (R520, R521) -/

/-- REST_ENTRY (R301, R435, R520): after the closing SYNC's show time. -/
def execRestEntry (s : State) : Host.Outcome State Fault Refusal :=
  if s.ftState != 3 || s.stopped || s.frame.showDue.isSome then .next s
  else
    let s := s.restLinks.selfRefreshAll.powerOffDram
    .next (((s.wrN Reg.FT_STATE_state 4).bump Reg.FT_CNT_rests 1).setEventsAll (flag 3) |>.irq 7)

/-- REST_EXIT (R301, R437, R521): a trigger ends rest: DRAM, link quads and clusters are powered. -/
def execRestExit (s : State) : Host.Outcome State Fault Refusal :=
  if s.ftState != 4 || s.stopped || !s.frame.restTrigger then .next s
  else
    let s := s.setFrame { s.frame with restTrigger := false, restDecided := false, afterRest := true, readyAt := none }
    .next (s.wrN Reg.FT_STATE_state 5).wakeDram.wakeLinks

/-- REST_EXIT_COMPLETE (R13, R276, R301, R409, R521): the DRAM has retrained, and every lane is aligned or has timed out. -/
def execRestExitComplete (s : State) : Host.Outcome State Fault Refusal :=
  if s.ftState != 5 || s.stopped || s.frame.readyAt.isSome || !s.lanesSettled then .next s
  else
    let s := (((s.retrainDram).applyAt .rest).gaitRestExit).setEventsAll (flag 4)
    .next ((s.setFrame { s.frame with readyAt := some s.active }).irq 8)

end Sys2Proof.Machine
end

