-- ==== Sys2Proof/Machine/Trust.lean ====
section
/-! DEFINITION. The trust engine: images and their signature blocks, verification, floors, loading, owner records and
attestation (R106 to R109, R260, R572 to R586). -/
namespace Sys2Proof.Machine
open Sys2Proof

/-- The trust engine's queue (R138). -/
def trustKey : Nat := qKey 6 0 0

/-! ### The owner's data (R593, R598) -/

/-- Owner policy: vendor images are admitted; and enrolled owner slots. -/
def State.vendorImages (s : State) : Bool := s.nvmByte 0x24000 == 1
def State.ownerSlots (s : State) : Nat := (s.nvmByte 0x24001).toNat % 16

/-- R577: the key hash of a named slot: the fuse hash for signer 0, the OWNER slot for signer 1; none when it is revoked
or not enrolled. -/
def State.slotHash (s : State) (signer slot : Nat) : Option Bytes :=
  if 4 ≤ slot then none
  else match signer with
    | 0 => if s.trust.revoked.getLsbD slot then none else s.trust.vendorHashes[slot]?
    | 1 => if bit s.ownerSlots slot then some (s.nvmBytes (0x24040 + 64 * slot) 64) else none
    | _ => none

/-! ### Images and signature blocks (R106, R107, R575) -/

/-- The offset of the signature block (R575). -/
def blockOffset (h : Bytes) : Nat := (128 + fieldLe h 0x18 8 + 7) / 8 * 8

/-- Bytes of a signature block. -/
def blockSize : Nat := 5376

/-- R576: the signed message of a header and a block. -/
def signedMessage (h b : Bytes) : Bytes := h ++ b.take 2000

/-- R576: the key hash of a block. -/
def keyHash (b : Bytes) : Bytes := (Config.sha512 ((b.drop 16).take 1984)).toList

/-- R575: the zero fields of a block and its magic. -/
def blockFormed (b : Bytes) : Bool :=
  fieldLe b 0 4 == 0x4E474953 && decide (fieldLe b 6 2 < 2) && fieldLe b 8 8 == 0 && fieldLe b 5373 3 == 0

/-- Checks 3 to 6 of R577 that a block fails over a header or a record body. -/
def State.blockFails (s : State) (h b : Bytes) : List Nat :=
  let m := signedMessage h b
  (if blockFormed b then [] else [3]) ++
  (if s.slotHash (fieldLe b 4 1) (fieldLe b 5 1) = some (keyHash b) then [] else [4]) ++
  (if Config.ed25519Verify ((b.drop 16).take 32) m ((b.drop 2000).take 64) then [] else [5]) ++
  (if Config.mlDsaVerify ((b.drop 48).take 1952) m ((b.drop 2064).take 3309) then [] else [6])

/-- R107: the sections that a header and its payload list. -/
def sectionsOf (h payload : Bytes) : List ImageSection :=
  (List.range (fieldLe h 0x0C 2)).map fun i =>
    let e := (payload.drop (24 * i)).take 24
    ⟨fieldLe e 0 2, fieldLe e 4 4, fieldLe e 8 8, fieldLe e 16 8⟩

/-- R260: a section lies in the lower half of one mirrored zone. -/
def State.inLowerHalf (s : State) (a n : Nat) : Bool :=
  s.region a == .common && s.region (a + max 1 n - 1) == .common &&
    match s.zoneOf (commonWord a) with
    | some z => decide (z.1 ≤ commonWord a) && decide (commonWord (a + max 1 n - 1) < z.1 + z.2 / 2)
    | none => false

/-- R106: the fixed fields of a header. -/
def headerFormed (h : Bytes) : Bool :=
  fieldLe h 0 4 == 0x4C454843 && fieldLe h 4 2 == 1 && (fieldLe h 6 2 == 1 || fieldLe h 6 2 == 2) &&
  fieldLe h 0x0B 1 == 0 && decide (1 ≤ fieldLe h 0x0C 2) && decide (fieldLe h 0x0C 2 ≤ 16) && fieldLe h 0x0E 2 == 0 &&
  fieldLe h 0x14 4 == 0 && fieldLe h 0x28 24 == 0

/-- R107, R108, R260: one section of an image of a payload of `n` bytes. R108 names neither a type outside 1 to 5, which the
model rejects with the checks of the header, nor a non-zero halfword at offset 2 of an entry, which it ignores (DESIGN CHOICE,
log 61). -/
def State.sectionOk (s : State) (n : Nat) (x : ImageSection) : Bool :=
  decide (1 ≤ x.type) && decide (x.type ≤ 5) && decide (x.offset + x.size ≤ n) &&
  (decide (2 < x.type) || x.size % 8 == 0) && s.inLowerHalf x.load x.size

/-- R108: an entry point lies within the first section of its type, on a multiple of 8. -/
def entryOk (l : List ImageSection) (ty e : Nat) : Bool :=
  match l.find? fun x => x.type == ty with
  | some x => e % 8 == 0 && decide (e < x.size)
  | none => false

/-- R108: the controller does not reject the image. -/
def State.headerOk (s : State) (h payload : Bytes) : Bool :=
  let l := sectionsOf h payload
  headerFormed h && bit (fieldLe h 8 2) s.par.code && decide (fieldLe h 0x0A 1 ≤ s.rdN Reg.FAMILY_stepping) &&
  l.all (s.sectionOk payload.length) &&
  (if fieldLe h 6 2 = 1 then entryOk l 1 (fieldLe h 0x20 4) && entryOk l 2 (fieldLe h 0x24 4)
   else l.all fun x => x.type != 1 && x.type != 2)

/-- Two byte ranges overlap. -/
def overlap (a n b m : Nat) : Bool := decide (a < b + m) && decide (b < a + n)

/-- R577 check 10: a section overlaps one of the active or pending frame program. -/
def State.overlapsProgram (s : State) (l : List ImageSection) : Bool :=
  let ps := [s.rdN Reg.MSH_PROG_active, s.rdN Reg.MSH_PROG_pending].filterMap s.imageAt
  l.any fun x => ps.any fun i => i.sections.any fun y => overlap x.load x.size y.load y.size

/-- R578: the tally counter that holds the floor of a signer. -/
def floorCounter (signer : Nat) : Nat := if signer = 0 then 4 else 5

/-! ### Verification (R577) -/

/-- An image in memory: header, payload and signature block. -/
structure ImageBytes where
  header : Bytes
  payload : Bytes
  block : Bytes
  deriving DecidableEq, Repr

/-- The image at an address, as memory holds it. -/
def State.imageBytes (s : State) (a : Nat) : ImageBytes :=
  let h := s.bytes a 128
  ⟨h, s.bytes (a + 128) (fieldLe h 0x18 8), s.bytes (a + blockOffset h) blockSize⟩

/-- R577 check 9: the source of `n` bytes. -/
def State.sourceOk (s : State) (a n : Nat) : Bool × State :=
  if !s.paddockRange a n && !s.dramRange a n then (false, s)
  else match s.readMem .trust a n with
    | (some _, s) => (true, s)
    | (none, s) => (false, s)

/-- R577: the checks that an image of `len` bytes at `a` fails, in rising order; `load` says that its sections are to be
loaded. -/
def State.imageFails (s : State) (a len : Nat) (load : Bool) : List Nat × State :=
  let (src, s) := s.sourceOk a len
  let i := s.imageBytes a
  let signer := fieldLe i.block 4 1
  let l1 := if s.headerOk i.header i.payload && decide (blockOffset i.header + blockSize ≤ len) then [] else [1]
  let l2 := if (Config.sha512 i.payload).toList = (i.header.drop 0x40).take 64 then [] else [2]
  let l7 := if fieldLe i.header 0x10 4 < (s.tally (floorCounter signer)).1 then [7] else []
  let l8 := if signer = 0 && !s.vendorImages then [8] else []
  let l9 := if src then [] else [9]
  let l10 := if load && s.overlapsProgram (sectionsOf i.header i.payload) then [10] else []
  (l1 ++ l2 ++ s.blockFails i.header i.block ++ l7 ++ l8 ++ l9 ++ l10, s)

/-- R577: the outcome of failed checks. -/
def outcomeOf (fails : List Nat) : Nat := fails.foldl (fun m c => if m = 0 ∨ c < m then c else m) 0

/-- R577: the failed checks as a mask. -/
def failMask (fails : List Nat) : Nat := (List.range 16).foldl (fun m i => if fails.contains (i + 1) then m + 2 ^ i else m) 0

/-- R578: `n` increments of a floor, each a page write that commits. -/
def State.raiseFloor (s : State) (i : Nat) : Nat → State
  | 0 => s
  | n + 1 => ((s.tallyInc i).settleBank 1).raiseFloor i n

/-- R578: an accepted image with set_floor raises its signer's floor. -/
def State.floorFor (s : State) (i : ImageBytes) : State :=
  let c := floorCounter (fieldLe i.block 4 1)
  if bit (fieldLe i.block 6 2) 0 then s.raiseFloor c (min 1024 (fieldLe i.header 0x10 4 - (s.tally c).1)) else s

/-- R109, R579: every section of an image is loaded, and its header and block go to `dst`. -/
def State.loadImage (s : State) (dst : Nat) (i : ImageBytes) : State :=
  let l := sectionsOf i.header i.payload
  let s := l.foldl (fun s x => s.writeMem .trust x.load ((i.payload.drop x.offset).take x.size)) s
  let blob := i.header ++ i.block
  let s := s.writeMem .trust dst blob
  let im : LoadedImage := ⟨dst, l, blob, fieldLe i.header 6 2⟩
  { s with trust := { s.trust with
      images := (s.trust.images.filter fun x => x.header != dst) ++ [im]
      fieldTable := if im.kind = 2 then blob else s.trust.fieldTable } }

/-! ### Descriptors (R580) -/

/-- Word 4 is written, TRUST_STATUS shows the outcome, and the descriptor's work is done. -/
def State.trustDone (s : State) (d : QEntry) (fails : List Nat) (written : Nat) : State :=
  let o := outcomeOf fails
  let m := failMask fails
  let s := (s.wrN Reg.TRUST_STATUS_last_outcome o).wrN Reg.TRUST_STATUS_last_failed m
  (s.putWord .trust d 4 (o + m * 2 ^ 16 + written * 2 ^ 32)).finishHead trustKey d

/-- TRUST_CNT counts an image or a record. -/
def State.countTrust (s : State) (fails : List Nat) : State :=
  if fails.isEmpty then s.bump Reg.TRUST_CNT_accepted 1 else s.bump Reg.TRUST_CNT_rejected 1

/-- The descriptor in hand when its op is `op`, read and executed. -/
def State.trustRun (s : State) (op : Nat) (f : QEntry → State → State) : Host.Outcome State Fault Refusal :=
  s.withDesc .trust trustKey 6 0 5 (fun d => bits (s.dword d 0) 5 3 == op) (·.engineFault 6 0) f

/-- Source, source length and destination of a descriptor. -/
def trustSrc (d : QEntry) : Nat := bits (d.w 1) 0 40
def trustLen (d : QEntry) : Nat := bits (d.w 2) 0 32
def trustDst (d : QEntry) : Nat := bits (d.w 3) 0 40

/-- An outcome for a destination that R579 and R580 do not admit: the spec states none (log 20). -/
def State.freeFail (s : State) : List Nat × State :=
  let (v, s) := s.fresh
  ([1 + v.toNat % 12], s)

/-- VERIFY_LOAD (R577 to R579). -/
def State.verifyLoad (s : State) (d : QEntry) : State :=
  let dst := trustDst d
  let (fails, s) := s.imageFails (trustSrc d) (trustLen d) true
  let i := s.imageBytes (trustSrc d)
  if !fails.isEmpty then (s.countTrust fails).trustDone d fails 0
  else if dst % 128 ≠ 0 ∨ s.inLowerHalf dst (128 + blockSize) = false then
    let (fails, s) := s.freeFail
    (s.countTrust fails).trustDone d fails 0
  else
    let s := (s.loadImage dst i).floorFor i
    let n := ((sectionsOf i.header i.payload).map (·.size)).sum + 128 + blockSize
    (s.countTrust []).trustDone d [] (n % 2 ^ 32)

/-- VERIFY (R577, R578). -/
def State.verifyOnly (s : State) (d : QEntry) : State :=
  let (fails, s) := s.imageFails (trustSrc d) (trustLen d) false
  let i := s.imageBytes (trustSrc d)
  let s := if fails.isEmpty then s.floorFor i else s
  (s.countTrust fails).trustDone d fails 0

/-! ### Owner records (R582 to R584) -/

/-- R582: the fixed fields of a body. -/
def bodyFormed (b : Bytes) : Bool :=
  let op := fieldLe b 4 1
  fieldLe b 0 4 == 0x4C524E45 && (op == 3 || fieldLe b 6 1 == 0) && fieldLe b 7 1 == 0 && fieldLe b 24 40 == 0 &&
    (op == 1 || fieldLe b 64 64 == 0)

/-- R584: vendor slots that are not revoked. -/
def State.unrevoked (s : State) : Nat := ((List.range 4).filter fun i => !s.trust.revoked.getLsbD i).length

/-- R582, R584: the op is refused. -/
def State.opRefused (s : State) (body block : Bytes) : Bool :=
  let op := fieldLe body 4 1
  let slot := fieldLe body 5 1
  op == 0 || decide (4 < op) || decide (4 ≤ slot) || (op == 3 && decide (1 < fieldLe body 6 1)) ||
    (op == 4 && ((fieldLe block 4 1 == 0 && fieldLe block 5 1 == slot) ||
      (!s.trust.revoked.getLsbD slot && decide (s.unrevoked ≤ 1))))

/-- The checks that a record fails. -/
def State.recordFails (s : State) (a len : Nat) : List Nat × State :=
  let (src, s) := s.sourceOk a len
  let body := s.bytes a 128
  let block := s.bytes (a + 128) blockSize
  let l1 := if bodyFormed body && decide (128 + blockSize ≤ len) then [] else [1]
  let l9 := if src then [] else [9]
  let l11 := if fieldLe body 8 8 = s.trust.serial.toNat ∧ fieldLe body 16 8 = (s.tally 3).1 + 1 then [] else [11]
  let l12 := if s.opRefused body block then [12] else []
  (l1 ++ s.blockFails body block ++ l9 ++ l11 ++ l12, s)

/-- The OWNER partition's first page with a policy and a mask of slots, and page 1 + slot with a hash. -/
def State.writeOwner (s : State) (policy mask : Nat) (page : Option (Nat × Bytes)) : State :=
  let head := leBytes 1 policy ++ leBytes 1 mask ++ (s.nvmBytes 0x24000 64).drop 2
  let s := match page with
    | some (slot, h) => s.beginPage (0x24040 / 64 + slot) h
    | none => s
  s.beginPage (0x24000 / 64) head

/-- R582, R584: the op of a record is carried out. -/
def State.carryOut (s : State) (body : Bytes) : State :=
  let slot := fieldLe body 5 1
  let mask := s.ownerSlots
  let policy := b2n s.vendorImages
  match fieldLe body 4 1 with
  | 1 => s.writeOwner policy (if bit mask slot then mask else mask + 2 ^ slot) (some (slot, (body.drop 64).take 64))
  | 2 =>
    let m := if bit mask slot then mask - 2 ^ slot else mask
    s.writeOwner (if m = 0 ∧ bit mask slot = true then 1 else policy) m (some (slot, List.replicate 64 0))
  | 3 => s.writeOwner (fieldLe body 6 1) mask none
  | 4 => { s with trust := { s.trust with revoked := s.trust.revoked ||| BitVec.ofNat 4 (2 ^ slot) } }
  | _ => s

/-- RECORD (R583, R584). -/
def State.ownerRecord (s : State) (d : QEntry) : State :=
  let (fails, s) := s.recordFails (trustSrc d) (trustLen d)
  if !fails.isEmpty then (s.countTrust fails).trustDone d fails 0
  else
    let s := ((s.carryOut (s.bytes (trustSrc d) 128)).tallyInc 3).settleBank 1
    (s.countTrust []).trustDone d [] 0

/-! ### Attestation and the certificate (R574, R585, R586) -/

/-- R586: a measurement; nothing measures as 64 zero bytes. -/
def measure_ (b : Bytes) : Bytes := if b.isEmpty then List.replicate 64 0 else (Config.sha512 b).toList

/-- The header and block of the image at an address, if one is loaded there. -/
def State.blobAt (s : State) (a : Nat) : Bytes := match s.imageAt a with | some i => i.blob | none => []

/-- R586: the bytes that measurement m measures. -/
def State.measured (s : State) (m : Nat) : Bytes :=
  match m with
  | 0 => s.trust.boot
  | 1 => s.blobAt (s.rdN Reg.MSH_PROG_active)
  | 2 => s.blobAt (s.rdN Reg.MSH_PROG_pending)
  | 3 => s.trust.fieldTable
  | 4 => s.nvm.board
  | 5 => s.nvmBytes 0x24000 512
  | 6 => leBytes 8 s.trust.serial.toNat ++ s.trust.vendorHashes.flatten ++ leBytes 1 s.trust.revoked.toNat
  | _ => leBytes 8 (s.tally 3).1 ++ leBytes 8 (s.tally 4).1 ++ leBytes 8 (s.tally 5).1

/-- R585: bytes 0 to 575 of the report. -/
def State.reportBody (s : State) (nonce : Bytes) : Bytes :=
  leBytes 4 0x54535441 ++ leBytes 2 1 ++ leBytes 2 0 ++ leBytes 8 s.trust.serial.toNat ++ nonce ++ leBytes 8 s.activeWord ++
  leBytes 8 (s.rdN Reg.FRAME_COUNT_count) ++ (List.range 8).flatMap fun m => measure_ (s.measured m)

/-- R585: the report; `n` signings came before it. -/
def State.report (s : State) (nonce : Bytes) : Bytes :=
  let b := s.reportBody nonce
  b ++ (Config.ed25519Sign b).toList ++ (Config.mlDsaSign s.trust.signings b).toList ++ [0, 0, 0]

/-- R580: a destination of `n` bytes. -/
def State.dstOk (s : State) (a n : Nat) : Bool := a % 8 == 0 && s.paddockRange a n

/-- ATTEST (R585). -/
def State.attest (s : State) (d : QEntry) : State :=
  let (src, s) := s.sourceOk (trustSrc d) 32
  if !src then s.trustDone d [9] 0
  else if !s.dstOk (trustDst d) 3952 then
    let (fails, s) := s.freeFail
    s.trustDone d fails 0
  else
    let b := s.report (s.bytes (trustSrc d) 32)
    let s := { s with trust := { s.trust with signings := s.trust.signings + 1 } }
    (s.writeMem .trust (trustDst d) b).trustDone d [] 3952

/-- CERT (R574, R580). -/
def State.certificate (s : State) (d : QEntry) : State :=
  let b := s.nvm.cert
  if !s.dstOk (trustDst d) b.length then
    let (fails, s) := s.freeFail
    s.trustDone d fails 0
  else (s.writeMem .trust (trustDst d) b).trustDone d [] b.length

/-- VERIFY_LOAD. -/
def execVerifyLoad (s : State) : Host.Outcome State Fault Refusal := s.trustRun 0 fun d s => s.verifyLoad d

/-- VERIFY. -/
def execVerify (s : State) : Host.Outcome State Fault Refusal := s.trustRun 1 fun d s => s.verifyOnly d

/-- ATTEST. -/
def execAttest (s : State) : Host.Outcome State Fault Refusal := s.trustRun 2 fun d s => s.attest d

/-- RECORD. -/
def execRecord (s : State) : Host.Outcome State Fault Refusal := s.trustRun 3 fun d s => s.ownerRecord d

/-- CERT. -/
def execCert (s : State) : Host.Outcome State Fault Refusal := s.trustRun 4 fun d s => s.certificate d

end Sys2Proof.Machine
end

