-- ==== Sys2Proof/Machine/Boot.lean ====
section
/-! DEFINITION. Power, the reset sources and boot (R261, R277, R301, R395, R531, R533, R591, R600 to R616). -/
namespace Sys2Proof.Machine
open Sys2Proof

/-! ### What a reset keeps -/

/-- Registers of the always-on domain (R608, R617): the reset and reference registers, what the thermal sampler shows, and the
NVM block (log 21). -/
def alwaysOnReg (h : Nat) : Bool :=
  (decide (hdl 0x00 0 0x30 ≤ h) && decide (h ≤ hdl 0x00 0 0x46)) ||
  (decide (hdl 0x05 0 0x1 ≤ h) && decide (h ≤ hdl 0x05 0 0x16)) || h / 2 ^ 24 == 0x07

/-- Registers that a warm reset leaves as they are beside those (R610, R646): the host registers but the window base, the clock
status, the block of the time counters, and the self-refresh of the ranks. -/
def warmReg (h : Nat) : Bool :=
  alwaysOnReg h || (decide (hdl 0x00 0 0x47 ≤ h) && decide (h ≤ hdl 0x00 0 0x49)) ||
  (decide (hdl 0x00 0 0x61 ≤ h) && decide (h ≤ hdl 0x00 0 0x6B)) ||
  (decide (hdl 0x04 0 0x1 ≤ h) && decide (h ≤ hdl 0x04 0 0x26)) ||
  (h / 2 ^ 24 == 0x40 && (h % 2 ^ 12 == 2 || h % 2 ^ 12 == 3))

/-- R19: a BOOT field with a value written since the last reset. -/
def State.bootPending (s : State) (h : Nat) (c : Cell) : Bool :=
  c.nxt.isSome && (match fieldOf s.par h with | some f => f.row.apply == .boot | none => false)

/-- R19: a BOOT value written before a warm reset is set apart from those that are written after it. -/
def State.setApart (s : State) (h : Nat) (c : Cell) : Cell :=
  if s.bootPending h c then { c with nxt := none, aft := c.nxt } else c

/-- R19: a BOOT field with a value written before the warm reset. -/
def State.bootKept (s : State) (h : Nat) (c : Cell) : Bool :=
  c.aft.isSome && (match fieldOf s.par h with | some f => f.row.apply == .boot | none => false)

/-- The registers that a filter keeps. -/
def State.keepRegs (s : State) (keep : Nat → Cell → Bool) : Tab Cell := s.regs.filter fun (h, c) => keep h c

/-- R595: what any reset does to the NVM block: unlocks and mismatches end. -/
def State.clearLocks (s : State) : State := (s.wrN Reg.NVM_LOCKS_open 0).wrN Reg.NVM_LOCKS_fails 0

/-- R600: registers that reset to what the board record gives: the MAC addresses, the rank size and the usable DRAM (R278). -/
def State.boardValues (s : State) : State :=
  let r := s.boardField 0x40 2
  let u := if 0 < s.par.groups then 14 * r * s.par.groups else 2 * r * s.par.channels
  let s := (s.wrN Reg.DRAM_CFG_rank_mib r).wrN Reg.DRAM_CFG_usable_mib u
  let s := { s with mem := { s.mem with timing :=
    if s.hasBoard then (List.range 12).map fun i => s.boardField (0x44 + 4 * i) 4 else [] } }
  (List.range s.par.ports).foldl (fun s p =>
    (s.wrN (Reg.PORT_MAC_low p) (s.boardMac p % 2 ^ 32)).wrN (Reg.PORT_MAC_high p) (s.boardMac p / 2 ^ 32)) s

/-- R608, R612: a boot begins: its cause, and no image admitted yet. -/
def State.bootFrom (s : State) (cause stage : Nat) : State :=
  let s := (s.wrN Reg.RST_STATUS_cause cause).wrN Reg.RST_STATUS_slot 3
  ((s.wrN Reg.RST_STATUS_fail0 0).wrN Reg.RST_STATUS_fail1 0).toStage stage

/-- Power is lost: what is left is the NVM, in which a page write in progress reads its old value (R591), and the fuses. -/
def State.unpowered (s : State) : State :=
  { State.reset with
    part := s.part
    pending := s.pending
    nvm := { s.nvm with writes := [], host := none, board := [] }
    trust := { s.trust with images := [], boot := [], fieldTable := [] }
    out := s.out
    nfree := s.nfree }

/-- R608: a cold reset restarts everything; NVM writes in progress complete (R591). -/
def State.coldState (s : State) : State :=
  let s := s.commitAll
  let t := s.unpowered
  { t with pins := { t.pins with pwrOkAon := true, testEn := s.pins.testEn } }

/-- R531, R608: the main rails are gone: only the always-on domain keeps its state. -/
def State.mainLost (s : State) : State :=
  { State.reset with
    part := s.part
    pending := s.pending
    regs := s.keepRegs fun h _ => alwaysOnReg h
    health := { State.reset.health with
      samples := s.health.samples
      above := s.health.above
      below := s.health.below
      flags := s.health.flags
      invalid := s.health.invalid
      calm := s.health.calm
      shutdown := s.health.shutdown }
    nvm := s.nvm
    trust := { s.trust with images := [], boot := [], fieldTable := [] }
    pins := { State.reset.pins with
      pwrOkAon := s.pins.pwrOkAon
      thermAlert := s.pins.thermAlert
      testEn := s.pins.testEn
      holdover := s.pins.holdover }
    out := s.out
    nfree := s.nfree }

/-! ### Always-on start and the main rails (R607, R608, R612) -/

/-- Boot stage 1 (R600, R602, R612, R650), and with it PWR_EN_MAIN. Both references are present (log 22). -/
def State.alwaysOnStart (s : State) (cause : Nat) : State :=
  let s := s.bootFrom cause 1
  let s := (s.wrN Reg.REF_STATUS_a_present 1).wrN Reg.REF_STATUS_b_present 1
  let s := { s with nvm := { s.nvm with board := s.boardRecord } }
  let s := s.boardValues.benchPhases.benchTrims.reportShutdown.tallyInc 0
  if s.pins.testEn then s else { s with pins := { s.pins with pwrEnMain := true } }.toStage 2

/-- POWER_ON (R605, R608, R612): PWR_OK_AON rises. -/
def execPowerOn (s : State) : Host.Outcome State Fault Refusal :=
  if s.pins.pwrOkAon then .next s
  else
    let t := s.unpowered
    .next ({ t with pins := { t.pins with pwrOkAon := true, testEn := s.pins.testEn } }.alwaysOnStart 1)

/-- POWER_LOSS (R591). -/
def execPowerLoss (s : State) : Host.Outcome State Fault Refusal := .next s.unpowered

/-- RESET_N_RELEASE (R608, R609). -/
def execResetNRelease (s : State) : Host.Outcome State Fault Refusal :=
  if !s.pins.pwrOkAon || s.health.shutdown then .next s else .next (s.coldState.alwaysOnStart 2)

/-- THERMAL_RELEASE (R533, R608). -/
def execThermalRelease (s : State) : Host.Outcome State Fault Refusal :=
  if s.health.shutdown && s.coolEnough then .next (s.coldState.alwaysOnStart 3) else .next s

/-- PWR_OK_MAIN_RISE (R612, R664). -/
def execPwrOkMainRise (s : State) : Host.Outcome State Fault Refusal :=
  if !s.pins.pwrEnMain then .next s
  else
    let s := { s with pins := { s.pins with pwrOkMain := true } }
    .next (if s.bootAt 2 then s.toStage 3 else s)

/-- MAIN_POWER_TIMEOUT (R607): 100 ms have passed without PWR_OK_MAIN. -/
def execMainPowerTimeout (s : State) : Host.Outcome State Fault Refusal :=
  if s.stage = 2 ∧ s.pins.pwrEnMain = true ∧ s.pins.pwrOkMain = false then
    .next ({ s with pins := { s.pins with pwrEnMain := false } }.toStage 15)
  else .next s

/-- PWR_OK_MAIN_FALL (R608, R609): with PWR_EN_MAIN high it is a cold reset of the main domains. -/
def execPwrOkMainFall (s : State) : Host.Outcome State Fault Refusal :=
  if !s.pins.pwrOkMain then .next s
  else if !s.pins.pwrEnMain || s.health.shutdown then .next { s with pins := { s.pins with pwrOkMain := false } }
  else
    let t := s.mainLost.clearLocks.boardValues.benchPhases.benchTrims
    .next ({ t with pins := { t.pins with pwrEnMain := true } }.bootFrom 7 2)

/-- R531: the show time of the last SYNC has come. -/
def State.shownLast (s : State) : Bool :=
  match s.frame.showDue with
  | some w => decide (s.wordUnits w ≤ s.active)
  | none => true

/-- SHUTDOWN_RAIL_CUT (R531, R606): every rail but the always-on rails is cut. -/
def execShutdownRailCut (s : State) : Host.Outcome State Fault Refusal :=
  if s.health.shutdown && s.pins.pwrEnMain && s.shownLast then .next s.mainLost else .next s

/-! ### Warm reset (R610, R611, R629) -/

/-- R628, R629, R646: the host interface is reset. -/
def State.hostReset (s : State) : State := { s with host := State.reset.host }.wrN Reg.HOST_BAR2_base 0

/-- R645: the host link goes down. -/
def State.hostLinkDown (s : State) : State :=
  let s := if s.rd Reg.HOST_LINK_speed == 0 then s else s.bump Reg.HOST_LINK_downs 1
  (s.wrN Reg.HOST_LINK_speed 0).wrN Reg.HOST_LINK_width 0

/-- R610, steps 1 to 4: everything stops, the tiles hold, DRAM is put into self-refresh, and NVM writes commit. -/
def State.quiesce (s : State) : State :=
  (s.stopSequencers.safeSync false 0 s.frame.lastFrame true s.leadShow).selfRefreshAll.commitAll

/-- R610, step 5, with R19 and R611: every domain restarts but always-on, M0, CK_DAT and the counters. -/
def State.warmState (s : State) : State :=
  { State.reset with
    part := s.part
    pending := s.pending
    clk := s.clk
    regs := (s.keepRegs fun h c => warmReg h || s.bootPending h c).map fun (h, c) => (h, s.setApart h c)
    sq := { State.reset.sq with debugHalt := s.sq.debugHalt }
    mem := { State.reset.mem with
      cells := s.mem.cells.filter fun c => dramBase ≤ c.1
      bad := s.mem.bad.filter fun g => dramBase / 8 ≤ g
      soft := s.mem.soft.filter fun g => dramBase / 8 ≤ g
      parity := s.mem.parity
      badPar := s.mem.badPar }
    ing := { State.reset.ing with quietAt := s.clk.free.units }
    health := { State.reset.health with
      samples := s.health.samples
      above := s.health.above
      below := s.health.below
      flags := s.health.flags
      invalid := s.health.invalid
      calm := s.health.calm
      shutdown := s.health.shutdown }
    nvm := s.nvm
    trust := { s.trust with images := [], boot := [], fieldTable := [] }
    pins := { s.pins with
      stageAddr := 0
      stageLen := 0
      oldMap := some (s.efN Reg.DRAM_MAP_grain_log2, s.efN Reg.DRAM_MAP_order)
      warmDue := 0 }
    out := s.out
    nfree := s.nfree }

/-- WARM_RESET (R608 to R611): the warm reset that a source has asked for. -/
def execWarmReset (s : State) : Host.Outcome State Fault Refusal :=
  if s.pins.warmDue = 0 ∨ s.health.shutdown = true then .next s
  else .next (s.quiesce.warmState.hostLinkDown.clearLocks.boardValues.benchPhases.benchTrims.bootFrom s.pins.warmDue 4)

/-! ### Clocks and the image (R612 to R614) -/

/-- M0_LOCK (R612, R617): M0 locks in stage 3; CK_DAT runs, and the host interface leaves reset. -/
def execM0Lock (s : State) : Host.Outcome State Fault Refusal :=
  if s.stage ≠ 3 then .next s
  else
    let s := s.wrN Reg.CLK_STATUS_m0_lock 1
    .next (if s.bootAt 3 then s.toStage 4 else s)

/-- The boot staging area, and the most that an image fetch reads (R612). -/
def stagingBase : Nat := 0x15000000
def stagingSize : Nat := 0xC00000

/-- IMAGE_FETCH_COMPLETE (R612): the image of the flash slot in hand stands in the staging area. -/
def execImageFetchComplete (image : Bytes) (s : State) : Host.Outcome State Fault Refusal :=
  if !s.bootAt 4 then .next s
  else
    let b := image.take stagingSize
    let s := s.writeMem .trust stagingBase b
    .next ({ s with pins := { s.pins with stageAddr := stagingBase, stageLen := b.length } }.toStage 5)

/-- R613, R614: the slot that is being verified: 0 and 1 are flash slots, 2 the host's image. -/
def State.slotInHand (s : State) : Nat :=
  if s.rd Reg.RST_STATUS_fail0 == 0 then 0 else if s.rd Reg.RST_STATUS_fail1 == 0 then 1 else 2

/-- R612: the bytes of mirror zone `z` meet the staging area of the image in hand. -/
def State.meetsStaging (s : State) (base size : Nat) : Bool :=
  overlap (commonBase + 65536 * base) (65536 * size) s.pins.stageAddr s.pins.stageLen

/-- R261, R612: zones are enabled in ascending order; the size of one that is not reads 0 in effect, and a zone of size 0 holds
no word that another could overlap. -/
def State.enableZones (s : State) : State :=
  let i := s.par.clusters
  let zone := fun (s : State) z => (s.efN (Reg.PAD_MIRZ_base i z), s.efN (Reg.PAD_MIRZ_size i z))
  let s := (List.range 4).foldl (fun s z =>
    let (b, n) := zone s z
    let taken := (List.range z).any fun y => decide (0 < n) && decide (0 < (zone s y).2) && overlap b n (zone s y).1 (zone s y).2
    if taken || s.meetsStaging b n then
      s.setCell (Reg.PAD_MIRZ_size i z) { s.cell (Reg.PAD_MIRZ_size i z) with eff := 0 }
    else s) s
  { s with mem := { s.mem with zonesOn := true } }

/-- R107: the entries of the field tables of a type in an image. -/
def ImageBytes.entries (i : ImageBytes) (ty : Nat) : List (Nat × Int) :=
  ((sectionsOf i.header i.payload).filter fun x => x.type == ty).flatMap fun x =>
    tableEntries ((i.payload.drop x.offset).take x.size)

/-- R13, R19: a BOOT field after the boot field table: a value written before the warm reset takes effect, and one written since
waits for the next. -/
def State.bootCell (s : State) (h : Nat) (c : Cell) : State :=
  s.setCell h ⟨c.acc, c.aft.getD (s.cell h).eff, c.nxt, none⟩

/-- Boot stage 6 (R13, R19, R110, R612): BOOT fields take their reset values, then those of the image's boot field table, then
those written before a warm reset. A value written in this boot stays pending. -/
def State.bootStage6 (s : State) (i : ImageBytes) : State :=
  let pends := fun h c => s.bootPending h c || s.bootKept h c
  let kept := s.keepRegs pends
  let s := { s with regs := s.keepRegs fun h c => !pends h c }
  let s := (s.checkTable srcLoader (i.entries 5)).2.applyAt .boot
  (kept.foldl (fun s (h, c) => s.bootCell h c) s).enableZones

/-- Boot stage 7 (R344, R349, R612, R667): the field dies leave reset; every logical index has its cluster, and the spares
stand idle. -/
def State.bootStage7 (s : State) : State :=
  let s := (List.range s.par.active).foldl (fun s l => s.wrN (Reg.SEQ_STATUS_logical (homeOf s.par l)) l) s
  ((sparesOf s.par).foldl (fun s c => s.wrN (Reg.SEQ_STATUS_state c) 2) s).countUnlinked

/-- R613: the checks that the image in hand fails at boot, judged with the zones that it will have (R260). -/
def State.bootFails (s : State) : List Nat :=
  let i := s.imageBytes s.pins.stageAddr
  let fails := ((s.bootStage6 i).imageFails s.pins.stageAddr s.pins.stageLen true).1
  if fieldLe i.header 6 2 = 1 ∨ fails.contains 1 = true then fails else 1 :: fails

/-- R577, R613, R614: the image in hand is refused: the next flash slot, or stage 12. -/
def State.refuseImage (s : State) (fails : List Nat) : State :=
  let s := ((s.sourceOk s.pins.stageAddr s.pins.stageLen).2.countTrust fails).wrN Reg.TRUST_STATUS_last_failed (failMask fails)
  match s.slotInHand with
  | 0 => (s.wrN Reg.RST_STATUS_fail0 (outcomeOf fails)).toStage 4
  | 1 => ((s.wrN Reg.RST_STATUS_fail1 (outcomeOf fails)).toStage 12).irq 12
  | _ => (s.toStage 12).irq 12

/-- R578, R612, R613: the image in hand is admitted; stages 6 and 7 follow. -/
def State.admitImage (s : State) : State :=
  let i := s.imageBytes s.pins.stageAddr
  let t := (((s.countTrust []).floorFor i).bootStage6 i).bootStage7
  ((t.wrN Reg.TRUST_STATUS_last_failed 0).wrN Reg.RST_STATUS_slot s.slotInHand).toStage 8

/-- BOOT_IMAGE_VERIFIED (R577, R612 to R614): the verification of the image in hand ends. -/
def execBootImageVerified (s : State) : Host.Outcome State Fault Refusal :=
  if !s.bootAt 5 then .next s
  else if s.bootFails.isEmpty then .next s.admitImage
  else .next (s.refuseImage s.bootFails)

/-! ### DRAM, the program and the links (R612) -/

/-- R611: a warm reset that changed DRAM_MAP keeps no DRAM content. -/
def State.settleDram (s : State) : State :=
  match s.pins.oldMap with
  | none => s
  | some m =>
    let s := { s with pins := { s.pins with oldMap := none } }
    if m = (s.efN Reg.DRAM_MAP_grain_log2, s.efN Reg.DRAM_MAP_order) then s
    else { s with mem := { s.mem with
      cells := s.mem.cells.filter fun c => c.1 < dramBase
      bad := s.mem.bad.filter fun g => g < dramBase / 8
      soft := s.mem.soft.filter fun g => g < dramBase / 8
      parity := []
      badPar := [] } }

/-- R276, R277, R545: every channel is trained, and those that fail are failed channels from the start. -/
def State.trainAll (s : State) (failed : BitVec 24) : State :=
  let s := (List.range s.par.channels).foldl (fun s ch => s.trainChannel (some s.benchmark) ch) s.wakeDram
  (List.range s.par.channels).foldl (fun s ch => if failed.getLsbD ch then s.failChannel ch 3 else s) s

/-- R346, R612: the initial progress records: period 0, nothing swept; the plot is open (log 5). -/
def State.firstProgress (s : State) : State :=
  (List.range s.par.active).foldl (fun s l =>
    let (v, s) := s.fresh
    s.writeMem .traverse (64 * s.efN Reg.TRV_GLOBAL_progress_base + 16 * l)
      (leBytes 8 0 ++ leBytes 2 0 ++ leBytes 2 v.toNat ++ leBytes 4 0)) s

/-- DRAM_TRAINING_COMPLETE (R277, R395, R612, R616): stage 8 ends; `failed` has a bit for each channel that did not train. -/
def execDramTrainingComplete (failed : BitVec 24) (s : State) : Host.Outcome State Fault Refusal :=
  if !s.bootAt 8 then .next s
  else
    let s := s.settleDram
    let s := if s.hasBoard then s.trainAll failed else s
    .next (s.gaitInit.firstProgress.toStage 9)

/-- R107, R109: the sections of the boot image are loaded, and its header and block stay where it was staged. -/
def State.loadBoot (s : State) : State :=
  let a := s.pins.stageAddr
  let i := s.imageBytes a
  let l := sectionsOf i.header i.payload
  let s := l.foldl (fun s x => s.writeMem .trust x.load ((i.payload.drop x.offset).take x.size)) s
  let blob := i.header ++ i.block
  { s with trust := { s.trust with
      images := s.trust.images ++ [⟨a, l, blob, fieldLe i.header 6 2⟩]
      boot := blob } }

/-- BOOT_SECTIONS_LOADED (R66, R107, R109, R110, R422, R586, R612): stage 9 ends and stage 10 begins. -/
def execBootSectionsLoaded (s : State) : Host.Outcome State Fault Refusal :=
  if !s.bootAt 9 then .next s
  else
    let s := s.loadBoot
    let s := ((s.activate s.pins.stageAddr).toStage 10).bootLinks
    .next ({ s with ing := { s.ing with quietAt := s.clk.free.units } }.settleBoot)

end Sys2Proof.Machine
end

