-- ==== Sys2Proof/Machine/CheulCompute.lean ====
section
/-! DEFINITION. Compute, flow and control instructions (R125 to R129, R136, R137). -/
namespace Sys2Proof.Machine
open Sys2Proof

/-- R125, R126: a compute instruction on g[a] and the second operand; `u` admits sub bit 1. -/
def State.compute (s : State) (f : KFmt) (u : Bool) (op : Word → Word → Word) (k : Nat) : Result :=
  if subReserved f u then .trap 0x02 s
  else s.writes k f.d (op (s.greg k f.a) (s.operand2 k f))

/-- R126: the high 64 bits of the product. -/
def mulHigh (u : Bool) (x y : Word) : Word :=
  if u then BitVec.ofNat 64 (x.toNat * y.toNat / 2 ^ 64) else BitVec.ofInt 64 (sar (x.toInt * y.toInt) 64)

/-- R126: the smaller operand. -/
def minOf (u : Bool) (x y : Word) : Word :=
  if u then (if y.ult x then y else x) else if y.slt x then y else x

/-- R126: the larger operand. -/
def maxOf (u : Bool) (x y : Word) : Word :=
  if u then (if x.ult y then y else x) else if x.slt y then y else x

/-- R126: a shift distance, y & 63. -/
def shiftBy (y : Word) : Nat := y.toNat % 64

/-- ADD (R126). -/
def execAdd (q : SeqId) (f : KFmt) (s : State) : Host.Outcome State Fault Refusal :=
  s.cheul q (s.compute f false fun x y => x + y)

/-- SUB (R126). -/
def execSub (q : SeqId) (f : KFmt) (s : State) : Host.Outcome State Fault Refusal :=
  s.cheul q (s.compute f false fun x y => x - y)

/-- MUL (R126). -/
def execMul (q : SeqId) (f : KFmt) (s : State) : Host.Outcome State Fault Refusal :=
  s.cheul q (s.compute f false fun x y => x * y)

/-- MULH (R126). -/
def execMulh (q : SeqId) (f : KFmt) (s : State) : Host.Outcome State Fault Refusal :=
  s.cheul q (s.compute f true (mulHigh (unsignedOp f)))

/-- AND (R126). -/
def execAnd (q : SeqId) (f : KFmt) (s : State) : Host.Outcome State Fault Refusal :=
  s.cheul q (s.compute f false fun x y => x &&& y)

/-- OR (R126). -/
def execOr (q : SeqId) (f : KFmt) (s : State) : Host.Outcome State Fault Refusal :=
  s.cheul q (s.compute f false fun x y => x ||| y)

/-- XOR (R126). -/
def execXor (q : SeqId) (f : KFmt) (s : State) : Host.Outcome State Fault Refusal :=
  s.cheul q (s.compute f false fun x y => x ^^^ y)

/-- SHL (R126). -/
def execShl (q : SeqId) (f : KFmt) (s : State) : Host.Outcome State Fault Refusal :=
  s.cheul q (s.compute f false fun x y => x <<< shiftBy y)

/-- SHR (R126). -/
def execShr (q : SeqId) (f : KFmt) (s : State) : Host.Outcome State Fault Refusal :=
  s.cheul q (s.compute f false fun x y => x >>> shiftBy y)

/-- SAR (R126). -/
def execSar (q : SeqId) (f : KFmt) (s : State) : Host.Outcome State Fault Refusal :=
  s.cheul q (s.compute f false fun x y => x.sshiftRight (shiftBy y))

/-- MIN (R126). -/
def execMin (q : SeqId) (f : KFmt) (s : State) : Host.Outcome State Fault Refusal :=
  s.cheul q (s.compute f true (minOf (unsignedOp f)))

/-- MAX (R126). -/
def execMax (q : SeqId) (f : KFmt) (s : State) : Host.Outcome State Fault Refusal :=
  s.cheul q (s.compute f true (maxOf (unsignedOp f)))

/-- ADDI (R127). -/
def execAddi (q : SeqId) (f : JFmt) (s : State) : Host.Outcome State Fault Refusal :=
  s.cheul q fun k => s.writes k f.d (s.greg k f.a + f.imm.signExtend 64)

/-- LDI (R127). -/
def execLdi (q : SeqId) (f : JFmt) (s : State) : Host.Outcome State Fault Refusal :=
  s.cheul q fun k => s.writes k f.d (f.imm.signExtend 64)

/-- R127: the low 43 bits of g[a] with the low 21 bits of the immediate above them. -/
def highImmediate (x : Word) (imm : BitVec 43) : Word := imm.setWidth 21 ++ x.setWidth 43

/-- LDHI (R127). -/
def execLdhi (q : SeqId) (f : JFmt) (s : State) : Host.Outcome State Fault Refusal :=
  s.cheul q fun k => s.writes k f.d (highImmediate (s.greg k f.a) f.imm)

/-- CMP (R128). -/
def execCmp (q : SeqId) (f : KFmt) (s : State) : Host.Outcome State Fault Refusal :=
  s.cheul q fun k =>
    if 16 ≤ f.sub.toNat then .trap 0x02 s
    else match cmpHolds (f.sub.toNat / 2) (s.greg k f.a) (s.operand2 k f) with
      | none => .trap 0x02 s
      | some b => s.writes k f.d (if b then 1 else 0)

/-- SEL (R129). -/
def execSel (q : SeqId) (f : KFmt) (s : State) : Host.Outcome State Fault Refusal :=
  s.cheul q fun k =>
    if 32 ≤ f.sub.toNat then .trap 0x02 s
    else s.writes k f.d (if s.greg k (f.sub.setWidth 5) ≠ 0 then s.greg k f.a else s.greg k f.b)

/-! ### Flow (R136) -/

/-- BR. -/
def execBr (q : SeqId) (f : JFmt) (s : State) : Host.Outcome State Fault Refusal :=
  s.cheul q fun k => .ok s (branchTarget (s.pc k) f)

/-- BC. -/
def execBc (q : SeqId) (f : JFmt) (s : State) : Host.Outcome State Fault Refusal :=
  s.cheul q fun k => .ok s (if s.greg k f.a ≠ 0 then branchTarget (s.pc k) f else s.nextPc k)

/-- CALL. -/
def execCall (q : SeqId) (f : JFmt) (s : State) : Host.Outcome State Fault Refusal :=
  s.cheul q fun k => .ok (s.setGreg k 31 (BitVec.ofInt 64 (s.nextPc k))) (branchTarget (s.pc k) f)

/-- RET. -/
def execRet (q : SeqId) (_f : JFmt) (s : State) : Host.Outcome State Fault Refusal :=
  s.cheul q fun k =>
    let v := s.greg k 31
    if v = 0 then .trap 0x07 s
    else if v.toNat % 8 ≠ 0 then .trap 0x03 s
    else .ok s v.toNat

/-- LOOP. -/
def execLoop (q : SeqId) (f : JFmt) (s : State) : Host.Outcome State Fault Refusal :=
  s.cheul q fun k =>
    if f.a = 0 then .trap 0x0C s
    else
      let v := s.greg k f.a - 1
      .ok (s.setGreg k f.a v) (if v ≠ 0 then branchTarget (s.pc k) f else s.nextPc k)

/-! ### Control (R117, R119, R137) -/

/-- NOP. -/
def execNop (q : SeqId) (_f : JFmt) (s : State) : Host.Outcome State Fault Refusal :=
  s.cheul q fun k => .ok s (s.nextPc k)

/-- HALT. -/
def execHalt (q : SeqId) (_f : JFmt) (s : State) : Host.Outcome State Fault Refusal :=
  s.cheul q fun _ => .trap 0x0F s

/-- TRAP. -/
def execTrap (q : SeqId) (f : JFmt) (s : State) : Host.Outcome State Fault Refusal :=
  s.cheul q fun _ => .trap (0x80 + f.imm.toNat % 0x80) s

/-- FENCE: it completes once every earlier store is visible (R81). -/
def execFence (q : SeqId) (_f : JFmt) (s : State) : Host.Outcome State Fault Refusal :=
  s.cheul q fun k =>
    let t := s.drainAll k
    if t.drained k then .ok t (s.nextPc k) else .stay t

/-- ILLEGAL_OPCODE (R117, R118). A word whose opcode the table names is none of these, and changes nothing. -/
def execIllegalOpcode (q : SeqId) (op : BitVec 6) (s : State) : Host.Outcome State Fault Refusal :=
  let n := op.toNat
  let illegal := (0x15 ≤ n && n ≤ 0x17) || n == 0x1E || n == 0x1F || (0x25 ≤ n && n ≤ 0x27) || n == 0x2F ||
    (0x33 ≤ n && n ≤ 0x37) || 0x3C ≤ n
  if illegal then s.cheul q fun _ => .trap 0x01 s else .next s

/-- INSTRUCTION_FETCH_FAULT (R84, R119, R120, R256, R258, R259): the address that could not be fetched stands in the program
counter. `uncorrectable` says that the code of the word at the address cannot correct it: a word whose copy is good is
served and repaired from there (R109, R258), and nothing traps. -/
def execInstructionFetchFault (q : SeqId) (addr : BitVec 40) (uncorrectable : Bool) (s : State) :
    Host.Outcome State Fault Refusal :=
  if !s.hasSeq q then .refused .noSuchUnit
  else if !s.running (keyOf q) then .next s
  else
    let a := addr.toNat
    let trap (s : State) (c : Nat) : State := ((s.fetchError a c).setPc (keyOf q) a).takeTrap (keyOf q) c
    match s.fetchCause a with
    | some c => .next (trap s c)
    | none =>
      if !uncorrectable then .next s
      else
        let t := { s with mem := { s.mem with bad := s.mem.bad ++ [a / 8] } }
        if t.serve (a / 8 * 8) = .lost then .next (trap t 0x0D) else .next (t.serveGroup (a / 8 * 8)).2

end Sys2Proof.Machine
end

