-- ==== Sys2Proof/Machine/CheulEvent.lean ====
section
/-! DEFINITION. Engine issue, events, time and the program log (R138 to R154, R167, R168). -/
namespace Sys2Proof.Machine
open Sys2Proof

/-! ### ISSUE and POLL -/

/-- R138: the instance that an engine class has for a sequencer and whether the queue is one of its own; none for cause
0x09. -/
def State.engineInst (s : State) (k : Nat) (f : PFmt) : Option Nat :=
  let inst := f.inst.toNat
  let q := f.queue.toNat
  match f.cls.toNat with
  | 0 => if k ≠ 0 ∧ inst = 0xFFF then some (k - 1) else none
  | 1 => if k ≠ 0 ∧ inst = 0xFFF ∧ q ≤ 1 then some (k - 1) else none
  | 2 => if k ≠ 0 ∧ inst = 0xFFF ∧ q = 0 then some (k - 1) else none
  | 3 => if k = 0 ∧ inst < s.par.decoders ∧ q = 0 then some inst else none
  | 4 => if k = 0 ∧ inst = 0 ∧ q ≤ 1 then some inst else none
  | 5 => if k = 0 ∧ inst = 0 ∧ q = 0 then some inst else none
  | 6 => if k = 0 ∧ inst = 0 ∧ q = 0 then some inst else none
  | 7 => if k = 0 ∧ inst < 4 ∧ q = 0 then some inst else none
  | _ => none

/-- R118, R138: a reserved class or non-zero reserved bits. -/
def issueReserved (f : PFmt) : Bool := decide (8 ≤ f.cls.toNat) || f.rsv != 0

/-- R142: descriptors that a queue holds: accepted and not counted done. -/
def EngQ.held (q : EngQ) : Nat := (q.accepted + 2 ^ 32 - q.done) % 2 ^ 32

/-- R140: a descriptor enters a queue; the ticket is the count of descriptors accepted. -/
def State.enqueue (s : State) (key addr src : Nat) : Nat × State :=
  let q := s.engQ key
  let t := (q.accepted + 1) % 2 ^ 32
  (t, s.setEngQ key { q with accepted := t, entries := q.entries ++ [⟨addr, t, src, [], false, false⟩] })

/-- ISSUE (R139, R140, R82). -/
def execIssue (q : SeqId) (f : PFmt) (s : State) : Host.Outcome State Fault Refusal :=
  s.cheul q fun k =>
    if issueReserved f then .trap 0x02 s
    else match s.engineInst k f with
      | none => .trap 0x09 s
      | some inst =>
        let a := (s.greg k f.a).toNat
        if a % 8 ≠ 0 then .trap 0x03 s
        else if !s.inPaddock a then .trap 0x04 s
        else
          let t := s.drainAll k
          if !t.drained k then .stay t
          else
            let key := qKey f.cls.toNat inst f.queue.toNat
            if 16 ≤ (t.engQ key).held then t.writes k f.d (BitVec.allOnes 64)
            else
              let (n, t) := t.enqueue key a k
              t.writes k f.d (BitVec.ofNat 64 n)

/-- R143: the engine state of a queue's engine: 0 idle, 1 running, 2 stopped and resumable, which is the encoder's alone, 3
faulted. A block engine that waits (TRV_STATUS.state 2, R348) is running. -/
def State.engineState (s : State) (cls inst key : Nat) : Nat :=
  if s.engineDown cls inst then 3
  else match cls with
    | 0 => if s.rd (Reg.TRV_STATUS_state inst) = 2 then 1 else s.rdN (Reg.TRV_STATUS_state inst)
    | 1 => if (s.clu inst).loaderLost then 3 else b2n (!(s.engQ key).entries.isEmpty)
    | 2 => s.rdN (Reg.ENC_STATUS_state inst)
    | 3 => s.rdN (Reg.DEC_STATUS_state inst)
    | _ => if (s.engQ key).entries.isEmpty then 0 else 1

/-- R143: the status word of a queue. -/
def State.queueStatus (s : State) (cls inst key : Nat) : Nat :=
  let q := s.engQ key
  q.done + q.held * 2 ^ 32 + s.engineState cls inst key * 2 ^ 40

/-- POLL (R143). -/
def execPoll (q : SeqId) (f : PFmt) (s : State) : Host.Outcome State Fault Refusal :=
  s.cheul q fun k =>
    if issueReserved f then .trap 0x02 s
    else match s.engineInst k f with
      | none => .trap 0x09 s
      | some inst =>
        s.writes k f.d (BitVec.ofNat 64 (s.queueStatus f.cls.toNat inst (qKey f.cls.toNat inst f.queue.toNat)))

/-! ### Events -/

/-- WAIT (R75, R76, R144, R145). -/
def execWait (q : SeqId) (f : TFmt) (s : State) : Host.Outcome State Fault Refusal :=
  s.cheul q fun k =>
    let mode := f.mode.toNat
    let mask := s.greg k f.a
    if 4 ≤ mode ∨ f.rsv ≠ 0 then .trap 0x02 s
    else if mode % 2 = 0 ∧ mask = 0 ∧ s.greg k f.b = 0 then .trap 0x0B s
    else if waitMet (s.seq k).events mask mode then .ok (s.waitDone k mask mode f.d) (s.nextPc k)
    else .stay (s.sleep k (.flags mask mode f.d (s.greg k f.b != 0)))

/-- WAIT_COMPLETE (R75): a pending WAIT whose condition is met. -/
def execWaitComplete (q : SeqId) (s : State) : Host.Outcome State Fault Refusal :=
  if !s.hasSeq q then .refused .noSuchUnit
  else
    let k := keyOf q
    match s.asleep k with
    | some (.flags mask mode d _) =>
      if waitMet (s.seq k).events mask mode then
        .next (s.settle k (.ok (s.waitDone k mask mode d) (s.nextPc k)))
      else .next s
    | _ => .next s

/-- WAIT_TIMEOUT (R75): the timeout of a pending WAIT runs out. A WAIT whose condition is met by then completes on it, as R75
and R76 have it complete at once; any other writes 0 to d, and takes no checkpoint (R112): in mode ALL it may hold e0 set,
and the model reads R112's "completes with e0 set" as a completion on the condition (DEDUCED, log 11). -/
def execWaitTimeout (q : SeqId) (s : State) : Host.Outcome State Fault Refusal :=
  if !s.hasSeq q then .refused .noSuchUnit
  else
    let k := keyOf q
    match s.asleep k with
    | some (.flags mask mode d true) =>
      let t := if waitMet (s.seq k).events mask mode then s.waitDone k mask mode d else s.waitOver k d
      .next (s.settle k (.ok t (s.nextPc k)))
    | _ => .next s

/-- SIGNAL (R77, R82, R146, R147): the flags are on their way to each target. -/
def execSignal (q : SeqId) (f : TFmt) (s : State) : Host.Outcome State Fault Refusal :=
  s.cheul q fun k =>
    let m := s.greg k f.a
    if f.mode ≠ 0 ∨ f.rsv ≠ 0 then .trap 0x02 s
    else if m &&& ~~~softMask ≠ 0 then .trap 0x08 s
    else match s.signalTargets k (s.greg k f.b) with
      | none => .trap 0x0B s
      | some ts =>
        let t := s.drainAll k
        if !t.drained k then .stay t
        else .ok { t with sq := { t.sq with signals := t.sq.signals ++ ts.map fun i => ⟨i, m⟩ } } (s.nextPc k)

/-- SIGNAL_DELIVERY (R77, R147, R639): the oldest flags on their way to a sequencer reach it. -/
def execSignalDelivery (target : SeqId) (s : State) : Host.Outcome State Fault Refusal :=
  if !s.hasSeq target then .refused .noSuchUnit
  else
    let k := keyOf target
    match s.sq.signals.find? (fun x => x.target == k) with
    | none => .next s
    | some x =>
      let s := { s with sq := { s.sq with signals := s.sq.signals.erase x } }
      let s := s.setSoft k x.flags
      .next (if k = 0 then s.signalIrqs x.flags else s)

/-- CLEAR (R148). -/
def execClear (q : SeqId) (f : TFmt) (s : State) : Host.Outcome State Fault Refusal :=
  s.cheul q fun k =>
    if f.mode ≠ 0 ∨ f.rsv ≠ 0 then .trap 0x02 s
    else
      let m := s.greg k f.a
      let was := (s.seq k).events &&& m
      (s.clearEvents k m).writes k f.d was

/-! ### Time -/

/-- R149, R151: the domain's datum word is at or above the target. -/
def State.atMet (s : State) (domain target : Nat) : Bool := decide (target ≤ s.domainWord domain)

/-- R151: an AT completes with the domain's datum word in g[d]. -/
def State.atDone (s : State) (k domain : Nat) (d : BitVec 5) : State :=
  let q := s.seq k
  (s.setSeq k { q with waiting := none }).setGreg k d (BitVec.ofNat 64 (s.domainWord domain))

/-- AT (R150, R151). -/
def execAtTime (q : SeqId) (f : TFmt) (s : State) : Host.Outcome State Fault Refusal :=
  s.cheul q fun k =>
    let mode := f.mode.toNat
    let target := (s.greg k f.a).toNat
    if 4 ≤ mode ∨ f.rsv ≠ 0 then .trap 0x02 s
    else if 999999999 < target % 2 ^ 30 then .trap 0x0B s
    else if s.atMet mode target then .ok (s.atDone k mode f.d) (s.nextPc k)
    else .stay (s.sleep k (.time mode target f.d (s.greg k f.b != 0)))

/-- AT_COMPLETE (R151 to R153): after `dt` ticks, a pending AT whose domain has reached its target completes. -/
def execAtComplete (dt : Nat) (q : SeqId) (s : State) : Host.Outcome State Fault Refusal :=
  if !s.hasSeq q then .refused .noSuchUnit
  else
    let k := keyOf q
    let s := s.advance dt
    match s.asleep k with
    | some (.time domain target d _) =>
      if s.atMet domain target then .next (s.settle k (.ok (s.atDone k domain d) (s.nextPc k))) else .next s
    | _ => .next s

/-- AT_TIMEOUT (R151): the timeout of a pending AT runs out. An AT whose domain is at or past its target has completed on it. -/
def execAtTimeout (q : SeqId) (s : State) : Host.Outcome State Fault Refusal :=
  if !s.hasSeq q then .refused .noSuchUnit
  else
    let k := keyOf q
    match s.asleep k with
    | some (.time domain target d true) =>
      let t := if s.atMet domain target then s.atDone k domain d else s.waitOver k d
      .next (s.settle k (.ok t (s.nextPc k)))
    | _ => .next s

/-- STAMP (R150, R154). -/
def execStamp (q : SeqId) (f : TFmt) (s : State) : Host.Outcome State Fault Refusal :=
  s.cheul q fun k =>
    if 5 ≤ f.mode.toNat ∨ f.rsv ≠ 0 then .trap 0x02 s
    else s.writes k f.d (BitVec.ofNat 64 (s.domainWord f.mode.toNat))

/-! ### The program log -/

/-- LOG (R167, R168, R569). -/
def execLog (q : SeqId) (f : KFmt) (s : State) : Host.Outcome State Fault Refusal :=
  s.cheul q fun k =>
    let n := s.rdN Reg.FM_LOG_head
    if 3 ≤ f.sub.toNat ∨ 2 ^ 32 ≤ f.imm.toNat then .trap 0x02 s
    else
      let t := s.record (0x80 + f.sub.toNat) (seqUnit k) (seqInst k) 0xFFFF 0 0 f.imm.toNat (s.greg k f.a).toNat
        s.stampWord
      t.writes k f.d (BitVec.ofNat 64 n)

end Sys2Proof.Machine
end

