-- ==== Sys2Proof/Machine/RegMap.lean ====
section
/-! DEFINITION. The register map as the host and LD read it (R8, R12, R80, R495, R615, R630, R642). -/
namespace Sys2Proof.Machine
open Sys2Proof

/-- Units whose register blocks lie on the field dies (R29, R667): encoders, clusters, paddock slices, DRAM channels and
tile links. -/
def onFieldDie (u : Nat) : Bool := u == 0x13 || u == 0x20 || u == 0x30 || u == 0x40 || u == 0x80

/-- R615: before stage 7 the blocks of the field dies are out of the host's reach. -/
def State.blockOut (s : State) (off : Nat) : Bool := decide (s.stage < 7) && onFieldDie (locate off).1

/-- The bits that a field at bit position `p` gives a 32-bit word. -/
def wordBits (width : Nat) (v p : Int) : Nat :=
  let n := unsigned width v
  (if 0 ≤ p then n * 2 ^ p.toNat else n / 2 ^ (-p).toNat) % 2 ^ 32

/-- The 32-bit word that fields make. -/
def State.fieldWord (s : State) (fs : List (Field × Int)) : Nat :=
  (fs.map fun (f, p) => wordBits f.row.width (s.readField f) p).sum

/-- Bytes of the windows that hold no fields: the clamp log ring (R105), the fault log ring (R567), the MSI-X table and
its pending bits (R639), and the correction window (R376). -/
def State.windowByte (s : State) (off : Nat) : Option Byte :=
  if 0x21000 ≤ off ∧ off < 0x23000 then some (Tab.get 0 s.sq.clog (off - 0x21000))
  else if 0x38000 ≤ off ∧ off < 0x40000 then some (Tab.get 0 s.fm.ring (off - 0x38000))
  else if 0x8000 ≤ off ∧ off < 0x8400 then
    some (BitVec.ofNat 8 (Tab.get (if off / 4 % 4 = 3 then 1 else 0) s.host.table (off / 4 * 4) / 256 ^ (off % 4)))
  else if 0x9000 ≤ off ∧ off < 0x9008 then some (BitVec.ofNat 8 (s.host.pba / 256 ^ (off - 0x9000)))
  else if 0x1000000 ≤ off ∧ off < 0x2000000 then some (s.corrRead (off - 0x1000000))
  else none

/-- The 32-bit word at a 4-aligned BAR0 offset, R495 aside. -/
def State.word32 (s : State) (off : Nat) : Nat :=
  match s.windowByte off with
  | some _ => leNat ((List.range 4).map fun i => (s.windowByte (off + i)).getD 0)
  | none => s.fieldWord (wordFields s.par off)

/-- R8: the RC fields that a read of a word returns are cleared. -/
def State.afterWord (s : State) (off : Nat) : State :=
  match s.windowByte off with
  | some _ => s
  | none => (wordFields s.par off).foldl (fun s (f, _) => s.afterRead f) s

/-- R495: the 64-bit read-only time and count registers of the datum block. -/
def latchesHigh (off : Nat) : Bool :=
  [0x40010, 0x40018, 0x40020, 0x40060, 0x40068, 0x400A0, 0x400A8, 0x40118, 0x40120, 0x40128, 0x40130].contains off

/-- A read of a 4-byte word, with the latch of R495. -/
def State.read4 (s : State) (off : Nat) : Nat × State :=
  if latchesHigh off then
    (s.word32 off, { s with clk := { s.clk with hiLatch := Tab.set s.clk.hiLatch off (s.word32 (off + 4)) } })
  else if off % 8 = 4 ∧ latchesHigh (off - 4) = true then
    match Tab.find s.clk.hiLatch (off - 4) with
    | some v => (v, { s with clk := { s.clk with hiLatch := Tab.del s.clk.hiLatch (off - 4) } })
    | none => (s.word32 off, s)
  else (s.word32 off, s.afterWord off)

/-- R630: a read of 8 bytes returns both words as they stood at one moment. -/
def State.read8 (s : State) (off : Nat) : Nat × State :=
  (s.word32 off + 2 ^ 32 * s.word32 (off + 4), (s.afterWord off).afterWord (off + 4))

/-- A read of the register region at a BAR0 offset, 4 or 8 bytes, aligned. -/
def State.regRead (s : State) (off : Nat) (eight : Bool) : Nat × State :=
  if s.blockOut off then (0, s) else if eight then s.read8 off else s.read4 off

end Sys2Proof.Machine
end

