-- ==== Sys2Proof/Machine/CheulFabric.lean ====
section
/-! DEFINITION. Fabric loads, stores and atomics (R79 to R83, R122, R130 to R135). -/
namespace Sys2Proof.Machine
open Sys2Proof

/-- A load of `n` bytes by sequencer `k` at a checked address: memory, or the register map (R80). -/
def State.fabricLoad (s : State) (k a n : Nat) : Option Nat × State :=
  if s.region a == .regs then
    let (v, s) := s.regRead (a - regBase) (n == 8)
    (some v, s)
  else s.loadOwn k a n

/-- R130 to R133: a load of `n` bytes; `x` admits sub bit 0, and `fit` makes the register value. -/
def State.load (s : State) (f : KFmt) (n : Nat) (x : Bool) (fit : Nat → Word) (k : Nat) : Result :=
  if fabricReserved f x then .trap 0x02 s
  else
    let ea := s.effAddr k f
    match s.fabricCheck k ea n false (lockBit f) (unlockBit f) with
    | some c => .trap c s
    | none =>
      let a := ea.toNat
      if s.lockedOut k a || s.lockRefused k a (lockBit f) then .stay s
      else match s.fabricLoad k a n with
        | (none, t) => .trap 0x0D t
        | (some v, t) => .ok ((t.lockAfter k a (lockBit f) (unlockBit f)).setGreg k f.d (fit v)) (s.nextPc k)

/-- R122: a store enters the store buffer of 8; it waits while the buffer is full. A store of a locked sequence holds its
resource until it is performed (R133). -/
def State.bufferStore (s : State) (k a : Nat) (b : Bytes) (locked : Bool) : Option State :=
  let s := if 8 ≤ (s.seq k).stores.length then s.drainOne k else s
  if 8 ≤ (s.seq k).stores.length then none
  else
    let q := s.seq k
    some (s.setSeq k { q with stores := q.stores ++ [⟨a, b, if locked then s.resourceOf a else none⟩] })

/-- R130 to R133: a store of the low `n` bytes of g[d]. -/
def State.store (s : State) (f : KFmt) (n : Nat) (k : Nat) : Result :=
  if fabricReserved f false then .trap 0x02 s
  else
    let ea := s.effAddr k f
    match s.fabricCheck k ea n true (lockBit f) (unlockBit f) with
    | some c => .trap c s
    | none =>
      let a := ea.toNat
      if s.lockRefused k a (lockBit f) then .stay s
      else match s.bufferStore k a (leBytes n (s.greg k f.d).toNat) (lockBit f || unlockBit f) with
        | none => .stay s
        | some t => .ok (t.lockAfter k a (lockBit f) (unlockBit f)) (s.nextPc k)

/-- R83, R131: an atomic: earlier stores of the sequencer first, then the word, its new value by `upd`, and the old one
in g[d]. -/
def State.atomic (s : State) (f : KFmt) (upd : Word → Option Word) (k : Nat) : Result :=
  if fabricReserved f false then .trap 0x02 s
  else
    let ea := s.effAddr k f
    match s.fabricCheck k ea 8 true (lockBit f) (unlockBit f) with
    | some c => .trap c s
    | none =>
      let a := ea.toNat
      let t := s.drainAll k
      if t.writeLockedOut k a || t.lockedOut k a || t.lockRefused k a (lockBit f) || !t.drained k then .stay t
      else match t.loadOwn k a 8 with
        | (none, t) => .trap 0x0D t
        | (some old, t) =>
          let w : Word := BitVec.ofNat 64 old
          let t := match upd w with
            | some v => t.writeMem (.seq k) a (leBytes 8 v.toNat)
            | none => t
          .ok ((t.lockAfter k a (lockBit f) (unlockBit f)).setGreg k f.d w) (s.nextPc k)

/-- R131: a 4-byte word, zero-extended, or sign-extended when sub bit 0 is 1. -/
def extend32 (f : KFmt) (v : Nat) : Word :=
  if f.sub.getLsbD 0 then (BitVec.ofNat 32 v).signExtend 64 else BitVec.ofNat 64 v

/-- LD (R131). -/
def execLd (q : SeqId) (f : KFmt) (s : State) : Host.Outcome State Fault Refusal :=
  s.cheul q (s.load f 8 false (BitVec.ofNat 64))

/-- ST (R131). -/
def execSt (q : SeqId) (f : KFmt) (s : State) : Host.Outcome State Fault Refusal :=
  s.cheul q (s.store f 8)

/-- LDW32 (R131). -/
def execLdw32 (q : SeqId) (f : KFmt) (s : State) : Host.Outcome State Fault Refusal :=
  s.cheul q (s.load f 4 true (extend32 f))

/-- STW32 (R131). -/
def execStw32 (q : SeqId) (f : KFmt) (s : State) : Host.Outcome State Fault Refusal :=
  s.cheul q (s.store f 4)

/-- CAS (R131). -/
def execCas (q : SeqId) (f : KFmt) (s : State) : Host.Outcome State Fault Refusal :=
  s.cheul q fun k => s.atomic f (fun w => if w = s.greg k f.d then some (s.greg k f.b) else none) k

/-- FADD (R131). -/
def execFadd (q : SeqId) (f : KFmt) (s : State) : Host.Outcome State Fault Refusal :=
  s.cheul q fun k => s.atomic f (fun w => some (w + s.greg k f.b)) k

end Sys2Proof.Machine
end

