-- ==== Sys2Proof/Machine/Host.lean ====
section
/-! DEFINITION. The host interface (R8, R93, R495, R613 to R646): register reads and writes, the BAR2 window, MSI-X, and the
resets of the interface. -/
namespace Sys2Proof.Machine
open Sys2Proof

/-! ### Register writes (R93, R615, R630 to R632) -/

/-- CHK_HOST after a host write: the highest status, and the first field with one. -/
def State.chkHost (s : State) (r : Nat × Nat) : State := (s.wrN Reg.CHK_HOST_status r.1).wrN Reg.CHK_HOST_handle r.2

/-- R615, R631: a write that reaches no field. -/
def State.hostNoField (s : State) (val : Int) : State := (s.clogEntry 0 5 srcHost val 0).chkHost (5, 0)

/-- R93: the fields that a write at an offset meets, in ascending bit order, each with its place in the written data. -/
def State.fieldsAt (s : State) (off : Nat) (eight : Bool) : List (Field × Int) :=
  let lo := wordFields s.par off
  if eight then lo ++ ((wordFields s.par (off + 4)).filter fun x => 0 ≤ x.2).map fun (f, p) => (f, p + 32) else lo

/-- The bits of a field of a width, at place `p` of data of `n` bits: the first one in the data, and their count. -/
def visible (width : Nat) (p : Int) (n : Nat) : Nat × Nat :=
  let lo := (max p 0).toNat
  (lo, (min (p + (width : Nat)) (n : Nat)).toNat - lo)

/-- R90: the bits that a write gives a field, as the checker takes them. -/
def writtenValue (f : Field) (p : Int) (n val : Nat) : Int :=
  let (lo, w) := visible f.row.width p n
  let v := bits val lo w
  if f.row.signed then signed f.row.width v else v

/-- R93: the written bits equal those that a read would return, and the field is not W1C. -/
def State.unchanged (s : State) (f : Field) (p : Int) (n val : Nat) : Bool :=
  let (lo, w) := visible f.row.width p n
  f.row.access != .w1c && bits val lo w == bits (unsigned f.row.width (s.readField f)) ((lo : Int) - p).toNat w

/-- R93: the fields of a host write, one after another: the highest status, and the first handle with one. -/
def State.writeFields (s : State) (n val : Nat) (acc : Nat × Nat) : List (Field × Int) → (Nat × Nat) × State
  | [] => (acc, s)
  | (f, p) :: t =>
    if s.unchanged f p n val then s.writeFields n val acc t
    else
      let (r, s) := s.checkValue srcHost f.handle (writtenValue f p n val)
      s.writeFields n val (max acc.1 r.status, if acc.1 = 0 ∧ r.status ≠ 0 then f.handle else acc.2) t

/-- R639: the MSI-X table and its pending bits, as BAR0 offsets. -/
def msixOffset (off : Nat) : Bool := decide (0x8000 ≤ off) && decide (off < 0x8400)
def pbaOffset (off : Nat) : Bool := decide (0x9000 ≤ off) && decide (off < 0x9008)

/-- R641: the entry of vector v is unmasked. -/
def State.unmasked (s : State) (v : Nat) : Bool := Tab.get 1 s.host.table (0x8000 + 16 * v + 12) % 2 == 0

/-- R627, R641: the message of vector v may go. -/
def State.mayPend (s : State) (v : Nat) : Bool := s.host.functionMask || !s.unmasked v
def State.maySend (s : State) (v : Nat) : Bool :=
  s.host.enable && !s.mayPend v && s.host.power == .d0 && s.hostRuns

/-- A message leaves. -/
def State.sendMsix (s : State) (v : Nat) : State := (s.emit (.msix v)).bump Reg.HOST_CNT_msix_sent 1

/-- R641: every pending message that may go is sent once. -/
def State.sendPending (s : State) : State :=
  (List.range 64).foldl (fun s v =>
    if bit s.host.pba v && s.maySend v then
      ({ s with host := { s.host with pba := s.host.pba - 2 ^ v } }).sendMsix v
    else s) s

/-- R632: a word of the MSI-X table. -/
def State.msixPut (s : State) (off val : Nat) : State :=
  let d := if off / 4 % 4 = 3 then 1 else 0
  { s with host := { s.host with table := Tab.put d s.host.table off (val % 2 ^ 32) } }

/-- R93, R615, R630 to R632: a host write of 4 or 8 bytes at a BAR0 offset. -/
def State.hostWrite (s : State) (off : Nat) (eight : Bool) (val : Nat) : State :=
  let n := if eight then 8 else 4
  if !s.hostUp || decide (0x4000000 ≤ off) then s
  else if off % n ≠ 0 then s.bump Reg.HOST_CNT_bar0_bad 1
  else if msixOffset off then
    (if eight then (s.msixPut off val).msixPut (off + 4) (val / 2 ^ 32) else s.msixPut off val).sendPending
  else if pbaOffset off then s
  else if 0x1000000 ≤ off ∧ off < 0x2000000 then s.corrWindowPut (off - 0x1000000) (leBytes n val)
  else if s.blockOut off || (s.fieldsAt off eight).isEmpty then s.hostNoField (val % 2 ^ (8 * n) : Nat)
  else
    let (r, s) := s.writeFields (8 * n) (val % 2 ^ (8 * n)) (0, 0) (s.fieldsAt off eight)
    s.chkHost r

/-- FIELD_WRITE (R93, R630, R631). -/
def execFieldWrite (off : Nat) (eight : Bool) (val : BitVec 64) (s : State) : Host.Outcome State Fault Refusal :=
  .next (s.hostWrite off eight val.toNat)

/-- R93: a host write that changes one field: a value other than what a read returns goes through the checker. -/
def State.hostField (s : State) (h v : Nat) : State :=
  if !s.hostUp then s
  else match fieldOf s.par h with
    | none => s.hostNoField v
    | some f =>
      if s.blockOut f.offset then s.hostNoField v
      else if s.unchanged f 0 f.row.width v then s.chkHost (0, 0)
      else
        let (r, s) := s.checkValue srcHost h (if f.row.signed then signed f.row.width v else v)
        s.chkHost (r.status, if r.status = 0 then 0 else h)

/-- MSH_DOORBELL_WRITE (R78). -/
def execMshDoorbellWrite (val : BitVec 16) (s : State) : Host.Outcome State Fault Refusal :=
  .next (s.hostField Reg.MSH_DOORBELL_events val.toNat)

/-- CLOG_IDX_TAIL_WRITE (R102). -/
def execClogIdxTailWrite (val : BitVec 16) (s : State) : Host.Outcome State Fault Refusal :=
  .next (s.hostField Reg.CLOG_IDX_tail val.toNat)

/-- CLOG_CLEAR_OVF (R105). -/
def execClogClearOvf (val : Bool) (s : State) : Host.Outcome State Fault Refusal :=
  .next (s.hostField Reg.CLOG_CTRL_clear_ovf (b2n val))

/-- PORT_ENABLE_WRITE (R208). -/
def execPortEnableWrite (p : Nat) (val : Bool) (s : State) : Host.Outcome State Fault Refusal :=
  .next (s.hostField (Reg.PORT_CTRL_enable p) (b2n val))

/-- PORT_SPLIT_WRITE (R208). -/
def execPortSplitWrite (p : Nat) (val : Bool) (s : State) : Host.Outcome State Fault Refusal :=
  .next (s.hostField (Reg.PORT_CTRL_split p) (b2n val))

/-- CLIP_STOP (R204). -/
def execClipStop (val : BitVec 2) (s : State) : Host.Outcome State Fault Refusal :=
  .next (s.hostField Reg.CLIP_CTRL_stop val.toNat)

/-- ARB_HOLD_LIMIT_WRITE (R272). -/
def execArbHoldLimitWrite (val : BitVec 16) (s : State) : Host.Outcome State Fault Refusal :=
  .next (s.hostField Reg.ARB_HOLD_limit val.toNat)

/-- DRAM_GRP_RESTORE (R295): a host write of 1 to DRAM_GRP[g].restore; `trainOk` says whether the training passes. -/
def execDramGrpRestore (g : Nat) (trainOk : Bool) (s : State) : Host.Outcome State Fault Refusal :=
  if !s.hostUp then .next s
  else if s.par.groups ≤ g || decide (s.stage < 7) then .next (s.hostNoField 1)
  else .next ((s.restoreGroup g trainOk).chkHost (0, 0))

/-- TRV_CTRL_RELEASE (R330). -/
def execTrvCtrlRelease (c : Nat) (mask : BitVec 16) (s : State) : Host.Outcome State Fault Refusal :=
  .next (s.hostField (Reg.TRV_CTRL_release c) mask.toNat)

/-- GUARD_CTRL_RELEASE (R367). -/
def execGuardCtrlRelease (mask : BitVec 32) (s : State) : Host.Outcome State Fault Refusal :=
  .next (s.hostField Reg.GUARD_CTRL_release mask.toNat)

/-- CORR_CTRL_SWAP (R378). -/
def execCorrCtrlSwap (val : Bool) (s : State) : Host.Outcome State Fault Refusal :=
  .next (s.hostField Reg.CORR_CTRL_swap (b2n val))

/-- LANE_ADAPT_RETRY (R430). -/
def execLaneAdaptRetry (n : Nat) (val : Bool) (s : State) : Host.Outcome State Fault Refusal :=
  .next (s.hostField (Reg.LANE_ADAPT_retry n) (b2n val))

/-- SVC_SLOTS_TABLE_HI_WRITE (R469). -/
def execSvcSlotsTableHiWrite (n : Nat) (val : BitVec 32) (s : State) : Host.Outcome State Fault Refusal :=
  .next (s.hostField (Reg.SVC_SLOTS_table_hi n) val.toNat)

/-- DATUM_SELECT_WRITE (R498). -/
def execDatumSelectWrite (val : Bool) (s : State) : Host.Outcome State Fault Refusal :=
  .next (s.hostField Reg.DATUM_CTRL_select (b2n val))

/-- DATUM_STEP_GO (R496). -/
def execDatumStepGo (d : Nat) (val : Bool) (s : State) : Host.Outcome State Fault Refusal :=
  if d < 2 then .next (s.hostField (Reg.DATUM_step_go d) (b2n val)) else .refused .noSuchUnit

/-- PTP_RX_TAIL_WRITE (R102, R505). -/
def execPtpRxTailWrite (p : Nat) (val : BitVec 16) (s : State) : Host.Outcome State Fault Refusal :=
  .next (s.hostField (Reg.PTP_RX_tail p) val.toNat)

/-- PTP_TX_SEND (R506). -/
def execPtpTxSend (p : Nat) (val : BitVec 16) (s : State) : Host.Outcome State Fault Refusal :=
  .next (s.hostField (Reg.PTP_TX_send p) val.toNat)

/-- TSQ_POP (R507). -/
def execTsqPop (p : Nat) (val : Bool) (s : State) : Host.Outcome State Fault Refusal :=
  .next (s.hostField (Reg.TSQ_pop p) (b2n val))

/-- FT_REST_ENTER (R519). -/
def execFtRestEnter (val : Bool) (s : State) : Host.Outcome State Fault Refusal :=
  .next (s.hostField Reg.FT_REST_enter (b2n val))

/-- FT_REST_EXIT (R521). -/
def execFtRestExit (val : Bool) (s : State) : Host.Outcome State Fault Refusal :=
  .next (s.hostField Reg.FT_REST_exit (b2n val))

/-- FM_LOG_TAIL_WRITE (R567). -/
def execFmLogTailWrite (val : BitVec 32) (s : State) : Host.Outcome State Fault Refusal :=
  .next (s.hostField Reg.FM_LOG_tail val.toNat)

/-- FM_LOG_CLEAR_OVF (R571). -/
def execFmLogClearOvf (val : Bool) (s : State) : Host.Outcome State Fault Refusal :=
  .next (s.hostField Reg.FM_LOG_clear_ovf (b2n val))

/-- FM_CTRL_WARM_RESET (R566). -/
def execFmCtrlWarmReset (val : Bool) (s : State) : Host.Outcome State Fault Refusal :=
  .next (s.hostField Reg.FM_CTRL_warm_reset (b2n val))

/-- FM_ENGINE_TARGET (R554). -/
def execFmEngineTarget (val : BitVec 17) (s : State) : Host.Outcome State Fault Refusal :=
  .next (s.hostField Reg.FM_ENGINE_target val.toNat)

/-- FM_FIRST_CLEAR (R570). -/
def execFmFirstClear (val : Bool) (s : State) : Host.Outcome State Fault Refusal :=
  .next (s.hostField Reg.FM_FIRST_clear (b2n val))

/-- NVM_HOST_READ (R604). -/
def execNvmHostRead (s : State) : Host.Outcome State Fault Refusal := .next (s.hostField Reg.NVM_CMD_op 1)

/-- NVM_HOST_WRITE (R604). -/
def execNvmHostWrite (s : State) : Host.Outcome State Fault Refusal := .next (s.hostField Reg.NVM_CMD_op 2)

/-- NVM_HOST_TALLY_INC (R604). -/
def execNvmHostTallyInc (s : State) : Host.Outcome State Fault Refusal := .next (s.hostField Reg.NVM_CMD_op 3)

/-- NVM_HOST_TALLY_READ (R604). -/
def execNvmHostTallyRead (s : State) : Host.Outcome State Fault Refusal := .next (s.hostField Reg.NVM_CMD_op 4)

/-- NVM_HOST_UNLOCK (R595). -/
def execNvmHostUnlock (val : Bool) (s : State) : Host.Outcome State Fault Refusal :=
  .next (s.hostField Reg.NVM_UNLOCK_go (b2n val))

/-- NVM_HOST_LOCK (R604). -/
def execNvmHostLock (val : Bool) (s : State) : Host.Outcome State Fault Refusal :=
  .next (s.hostField Reg.NVM_UNLOCK_lock (b2n val))

/-- RST_CTRL_WARM (R608). -/
def execRstCtrlWarm (val : Bool) (s : State) : Host.Outcome State Fault Refusal :=
  .next (s.hostField Reg.RST_CTRL_warm (b2n val))

/-- RST_BOOT_GO (R614). -/
def execRstBootGo (val : Bool) (s : State) : Host.Outcome State Fault Refusal :=
  .next (s.hostField Reg.RST_BOOT_go (b2n val))

/-- REF_CTRL_SELECT_WRITE (R622). -/
def execRefCtrlSelectWrite (val : Bool) (s : State) : Host.Outcome State Fault Refusal :=
  .next (s.hostField Reg.REF_CTRL_select (b2n val))

/-- HOST_BAR2_BASE_WRITE (R634). -/
def execHostBar2BaseWrite (val : BitVec 10) (s : State) : Host.Outcome State Fault Refusal :=
  .next (s.hostField Reg.HOST_BAR2_base val.toNat)

/-- MSIX_TABLE_WRITE (R632, R641): a word of the table, or the function's enable and mask bits in configuration space. -/
def execMsixTableWrite (w : MsixWrite) (s : State) : Host.Outcome State Fault Refusal :=
  match w with
  | .table off val =>
    if !s.hostUp || decide (1024 ≤ off) || off % 4 != 0 then .next s
    else .next (s.msixPut (0x8000 + off) val.toNat).sendPending
  | .control enable functionMask =>
    if !s.hostRuns then .next s
    else .next { s with host := { s.host with enable := enable, functionMask := functionMask } }.sendPending

/-! ### Register reads (R8, R495, R615, R630) -/

/-- A read of 4 or 8 bytes through BAR0 completes. -/
def State.hostRead (s : State) (off : Nat) (eight : Bool) : State :=
  let n := if eight then 8 else 4
  if !s.hostUp || decide (0x4000000 ≤ off) then s
  else if off % n ≠ 0 then (s.bump Reg.HOST_CNT_bar0_bad 1).emit (.completion (List.replicate n 0) false)
  else
    let (v, s) := s.regRead off eight
    s.emit (.completion (leBytes n v) false)

/-- RC_FIELD_READ (R8, R10, R630). -/
def execRcFieldRead (off : Nat) (eight : Bool) (s : State) : Host.Outcome State Fault Refusal :=
  .next (s.hostRead off eight)

/-- DATUM_LOW_WORD_READ (R495): a 4-byte read. -/
def execDatumLowWordRead (off : Nat) (s : State) : Host.Outcome State Fault Refusal := .next (s.hostRead off false)

/-- BAR0_BAD_ACCESS (R630): a BAR0 access of `len` bytes of a wrong size or alignment. -/
def execBar0BadAccess (write : Bool) (len : Nat) (s : State) : Host.Outcome State Fault Refusal :=
  if !s.hostUp then .next s
  else
    let s := s.bump Reg.HOST_CNT_bar0_bad 1
    .next (if write then s else s.emit (.completion (List.replicate len 0) false))

/-! ### BAR2 (R634 to R638) -/

/-- R634: the fabric address of a BAR2 offset. -/
def State.bar2Addr (s : State) (off : Nat) : Nat := 2 ^ 30 * s.efN Reg.HOST_BAR2_base + off

/-- R615, R636: the host reaches `n` bytes at a fabric address. Before stage 7 only common paddock answers. -/
def State.bar2Maps (s : State) (a n : Nat) : Bool :=
  (s.paddockRange a n || s.dramRange a n) && (decide (7 ≤ s.stage) || s.region a == .common)

/-- R265: the resources at which a BAR2 read and a BAR2 write take a grant, one for each transaction. -/
def State.bar2ReadGrants (s : State) (a n : Nat) : List Nat := s.readGrants (burstsOf a n)
def State.bar2WriteGrants (s : State) (a : Nat) (b : List (Option Byte)) : List Nat :=
  s.writeGrants (burstsHit (cutGroups b.length a b))

/-- The host's request waits for a resource that a locked sequence or debug halt holds (R267, R268). -/
def State.hostWaits (s : State) (rs : List Nat) : Bool := rs.any (s.heldFrom noSeq)

/-- BAR2_READ (R634 to R637). -/
def execBar2Read (off len : Nat) (s : State) : Host.Outcome State Fault Refusal :=
  let a := s.bar2Addr off
  if !s.hostUp then .next s
  else if !s.bar2Maps a len then
    .next ((s.bump Reg.HOST_CNT_bar2_unmapped 1).emit (.completion (List.replicate len 0) false))
  else if s.hostWaits (s.bar2ReadGrants a len) then .next s
  else match s.readMem .host a len with
    | (some b, s) => .next (s.emit (.completion b false))
    | (none, s) => .next ((s.bump Reg.HOST_CNT_poisoned 1).emit (.completion [] true))

/-- BAR2_WRITE (R634 to R636): bytes whose enables are set. -/
def execBar2Write (off : Nat) (data : List (Option Byte)) (s : State) : Host.Outcome State Fault Refusal :=
  let a := s.bar2Addr off
  if !s.hostUp then .next s
  else if !s.bar2Maps a data.length then .next (s.bump Reg.HOST_CNT_bar2_unmapped 1)
  else if s.hostWaits (s.bar2WriteGrants a data) then .next s
  else .next (s.writeEnabled .host a data)

/-- BAR2_WAIT_TIMEOUT (R638): a request has waited HOST_CTRL.bar2_wait_us for a grant. -/
def execBar2WaitTimeout (write : Bool) (s : State) : Host.Outcome State Fault Refusal :=
  if !s.hostUp then .next s
  else
    let s := s.bump Reg.HOST_CNT_bar2_timeout 1
    .next (if write then s else s.emit .abort)

/-! ### Messages (R627, R641) -/

/-- MSIX_MESSAGE (R641): the oldest vector raised is sent, or its pending bit is set. -/
def execMsixMessage (s : State) : Host.Outcome State Fault Refusal :=
  match s.host.raised with
  | [] => .next s
  | v :: t =>
    let s := { s with host := { s.host with raised := t } }
    if s.maySend v then .next (s.sendMsix v)
    else if s.mayPend v && !bit s.host.pba v then
      .next { s with host := { s.host with pba := s.host.pba + 2 ^ v } }
    else .next s

/-! ### The link, the power state and the resets (R624, R627, R628, R645) -/

/-- What the configuration space of the function holds (R625, R627, R639): the identifiers, the power state, and the MSI-X
enable and mask bits. -/
structure ConfigSpace where
  vendorId : Nat
  deviceId : Nat
  subsystemVendorId : Nat
  subsystemId : Nat
  revisionId : Nat
  classCode : Nat
  serialNumber : Nat
  power : PowerState
  msixEnable : Bool
  msixMask : Bool
  deriving DecidableEq, Repr

/-- R625: the configuration space. Revision and Device Serial Number are those of FAMILY.stepping and TRUST_ID.serial; no row
of the table reads it (log 84). -/
def State.configSpace (s : State) : ConfigSpace where
  vendorId := 0x1F8C
  deviceId := s.par.deviceId
  subsystemVendorId := 0x1F8C
  subsystemId := s.par.deviceId
  revisionId := s.rdN Reg.FAMILY_stepping
  classCode := 0x048000
  serialNumber := s.trust.serial.toNat
  power := s.host.power
  msixEnable := s.host.enable
  msixMask := s.host.functionMask

/-- HOST_LINK_CHANGE (R645): the link trains to a speed and a width, or goes down. -/
def execHostLinkChange (speed width : Nat) (s : State) : Host.Outcome State Fault Refusal :=
  if !s.hostRuns then .next s
  else if speed = 0 ∧ width = 0 then .next s.hostLinkDown
  else if 1 ≤ speed ∧ speed ≤ 5 ∧ [1, 2, 4, 8].contains width = true ∧ width ≤ 2 ^ s.par.pcieWidth then
    .next ((s.wrN Reg.HOST_LINK_speed speed).wrN Reg.HOST_LINK_width width)
  else .next s

/-- POWER_STATE_CHANGE (R627). -/
def execPowerStateChange (p : PowerState) (s : State) : Host.Outcome State Fault Refusal :=
  if !s.hostRuns then .next s else .next { s with host := { s.host with power := p } }.sendPending

/-- PCIE_PERST (R608, R628). -/
def execPciePerst (s : State) : Host.Outcome State Fault Refusal :=
  if s.on Reg.RST_CTRL_perst_warm then .next (s.askWarm 6) else .next s.hostReset

/-- PCIE_HOT_RESET (R628): a hot reset or a Function Level Reset. -/
def execPcieHotReset (s : State) : Host.Outcome State Fault Refusal := .next s.hostReset

end Sys2Proof.Machine
end

