-- ==== Sys2Proof/Machine/Ports.lean ====
section
/-! DEFINITION. The scene ports (R172 to R175, R504): filters, counts, links, and the answers a port gives in hardware. The
formats of the answers are those of the standards that R175 names (log 13). -/
namespace Sys2Proof.Machine
open Sys2Proof

/-! ### Addresses (R174, R208) -/

/-- The MAC address of a port. -/
def State.portMac (s : State) (p : Nat) : Nat := s.efN (Reg.PORT_MAC_low p) + s.efN (Reg.PORT_MAC_high p) * 2 ^ 32

/-- The IPv4 address of a port, and its group; 0 for none. -/
def State.port4 (s : State) (p : Nat) : Nat := s.efN (Reg.PORT_ADDR_ipv4 p)
def State.group4 (s : State) (p : Nat) : Nat := s.efN (Reg.PORT_GROUP_ipv4 p)

/-- The IPv6 address of a port, and its group; 0 for none. -/
def State.port6 (s : State) (p : Nat) : Nat :=
  s.efN (Reg.PORT_IPV6_w0 p) + s.efN (Reg.PORT_IPV6_w1 p) * 2 ^ 32 + s.efN (Reg.PORT_IPV6_w2 p) * 2 ^ 64 +
    s.efN (Reg.PORT_IPV6_w3 p) * 2 ^ 96
def State.group6 (s : State) (p : Nat) : Nat :=
  s.efN (Reg.PORT_GROUP_v6w0 p) + s.efN (Reg.PORT_GROUP_v6w1 p) * 2 ^ 32 + s.efN (Reg.PORT_GROUP_v6w2 p) * 2 ^ 64 +
    s.efN (Reg.PORT_GROUP_v6w3 p) * 2 ^ 96

/-- The multicast MAC addresses that map IPv4 and IPv6 groups. -/
def mac4 (g : Nat) : Nat := 0x01005E000000 + g % 2 ^ 23
def mac6 (g : Nat) : Nat := 0x333300000000 + g % 2 ^ 32

/-- R174: the VLAN tag matches when vlan_en is 1. -/
def State.vlanOk (s : State) (p : Nat) (b : Bytes) : Bool :=
  !s.on (Reg.PORT_CTRL_vlan_en p) || vlanOf b == some (s.efN (Reg.PORT_CTRL_vlan_id p))

/-- Offset of the IP header. -/
def ipOffset (b : Bytes) : Nat := typeOffset b + 2

/-- Offset of what follows an IPv4 header. -/
def ip4Body (b : Bytes) : Nat := ipOffset b + 4 * (fieldBe b (ipOffset b) 1 % 16)

/-- R174: the frame (without FCS) is scene traffic for port p. -/
def State.sceneAccepts (s : State) (p : Nat) (b : Bytes) : Bool :=
  let o := ipOffset b
  let mac := fieldBe b 0 6
  let four := etherType b == 0x0800 && fieldBe b (o + 9) 1 == 17 &&
    fieldBe b (ip4Body b + 2) 2 == s.efN (Reg.PORT_ADDR_udp_scene p) &&
    (let d := fieldBe b (o + 16) 4
     d != 0 && (d == s.port4 p || d == s.group4 p))
  let six := etherType b == 0x86DD && fieldBe b (o + 6) 1 == 17 &&
    fieldBe b (o + 42) 2 == s.efN (Reg.PORT_ADDR_udp_scene p) &&
    (let d := fieldBe b (o + 24) 16
     d != 0 && (d == s.port6 p || d == s.group6 p))
  s.vlanOk p b && (four || six) &&
    (mac == s.portMac p || (s.group4 p != 0 && mac == mac4 (s.group4 p)) || (s.group6 p != 0 && mac == mac6 (s.group6 p)))

/-- The link of a sub-port is up (R173). -/
def State.subUp (s : State) (p sub : Nat) : Bool := bit (s.rdN (Reg.PORT_STATUS_link p)) sub

/-- SCENE_FRAME_RX (R172 to R174): a frame with its FCS arrives. Scene traffic goes on as FRAME_HEAD, CELL_HEAD, CHUNK or
GUARD, and PTP traffic as PTP_RX_FRAME. -/
def execSceneFrameRx (p sub : Nat) (frame : Bytes) (s : State) : Host.Outcome State Fault Refusal :=
  if s.par.ports ≤ p ∨ 4 ≤ sub then .refused .noSuchUnit
  else if !s.subUp p sub then .next s
  else if !fcsGood frame then .next (s.bump (Reg.PORT_CNT_bad_fcs p) 1)
  else
    let b := withoutFcs frame
    let s := s.bump (Reg.PORT_CNT_frames p) 1
    if s.sceneAccepts p b || s.ptpDatum p b 0 || s.ptpDatum p b 1 then .next s
    else .next (s.bump (Reg.PORT_CNT_filtered p) 1)

/-- PTP_RX_FRAME (R502 to R505): a PTP frame with its FCS reaches the datum logic. -/
def execPtpRxFrame (p sub : Nat) (frame : Bytes) (s : State) : Host.Outcome State Fault Refusal :=
  if s.par.ports ≤ p ∨ 4 ≤ sub then .refused .noSuchUnit
  else if !s.subUp p sub || !fcsGood frame then .next s
  else .next (s.orWait (s.ptpReceive p sub (withoutFcs frame)))

/-- PORT_LINK_CHANGE (R173, R208): the links and FEC locks of an enabled port, one bit each; bit 0 alone in 100 Gb/s mode. -/
def execPortLinkChange (p : Nat) (link fec : BitVec 4) (s : State) : Host.Outcome State Fault Refusal :=
  if s.par.ports ≤ p then .refused .noSuchUnit
  else if !s.on (Reg.PORT_CTRL_enable p) then .next s
  else
    let m := if s.on (Reg.PORT_CTRL_split p) then 16 else 2
    let s := if link.toNat % m = 0 then s else s.ethLock p true
    .next ((s.wrN (Reg.PORT_STATUS_link p) (link.toNat % m)).wrN (Reg.PORT_STATUS_fec_lock p) (fec.toNat % m))

/-! ### Answers (R175) -/

/-- A frame of a port with the VLAN tag of the frame it answers, padded to 60 bytes, with its FCS. -/
def State.answerFrame (s : State) (p : Nat) (to_ : Bytes) (dst ty : Nat) (body : Bytes) : Bytes :=
  let f := beBytes 6 dst ++ beBytes 6 (s.portMac p) ++ (to_.drop 12).take (typeOffset to_ - 12) ++ beBytes 2 ty ++ body
  withFcs (f ++ List.replicate (60 - f.length) 0)

/-- An IPv4 header with its checksum; `opts` in whole words. -/
def ip4Header (ident proto ttl src dst len : Nat) (opts : Bytes) : Bytes :=
  let words := 5 + opts.length / 4
  let h (c : Nat) : Bytes := beBytes 1 (64 + words) ++ beBytes 1 0 ++ beBytes 2 (4 * words + len) ++ beBytes 2 ident ++
    beBytes 2 0 ++ beBytes 1 ttl ++ beBytes 1 proto ++ beBytes 2 c ++ beBytes 4 src ++ beBytes 4 dst ++ opts
  h (inetSum (h 0))

/-- An IPv6 header. -/
def ip6Header (next hops src dst len : Nat) : Bytes :=
  beBytes 4 0x60000000 ++ beBytes 2 len ++ beBytes 1 next ++ beBytes 1 hops ++ beBytes 16 src ++ beBytes 16 dst

/-- An ICMPv6 message, its checksum put at bytes 2 and 3. -/
def icmp6 (src dst : Nat) (m : Bytes) : Bytes :=
  let pseudo := beBytes 16 src ++ beBytes 16 dst ++ beBytes 4 m.length ++ beBytes 4 58
  let z := m.take 2 ++ beBytes 2 0 ++ m.drop 4
  m.take 2 ++ beBytes 2 (inetSum (pseudo ++ z)) ++ m.drop 4

/-- An ICMP or IGMP message, its checksum put at bytes 2 and 3. -/
def icmp4 (m : Bytes) : Bytes := m.take 2 ++ beBytes 2 (inetSum (m.take 2 ++ beBytes 2 0 ++ m.drop 4)) ++ m.drop 4

/-- The port takes a frame for an answer: link up, good FCS, and the VLAN it requires. -/
def State.answers (s : State) (p sub : Nat) (frame : Bytes) : Bool :=
  s.subUp p sub && fcsGood frame && s.vlanOk p (withoutFcs frame)

/-- ARP_REQUEST (R175). -/
def execArpRequest (p sub : Nat) (frame : Bytes) (s : State) : Host.Outcome State Fault Refusal :=
  if s.par.ports ≤ p ∨ 4 ≤ sub then .refused .noSuchUnit
  else
    let b := withoutFcs frame
    let o := ipOffset b
    let mine := s.port4 p != 0 && fieldBe b (o + 24) 4 == s.port4 p && etherType b == 0x0806 && fieldBe b (o + 6) 2 == 1
    if !s.answers p sub frame || !mine then .next s
    else
      let who := fieldBe b (o + 8) 6
      let body := beBytes 8 0x0001080006040002 ++ beBytes 6 (s.portMac p) ++ beBytes 4 (s.port4 p) ++ beBytes 6 who ++
        beBytes 4 (fieldBe b (o + 14) 4)
      .next (s.emit (.ethernet p (s.answerFrame p b who 0x0806 body)))

/-- NEIGHBOR_SOLICITATION (R175). -/
def execNeighborSolicitation (p sub : Nat) (frame : Bytes) (s : State) : Host.Outcome State Fault Refusal :=
  if s.par.ports ≤ p ∨ 4 ≤ sub then .refused .noSuchUnit
  else
    let b := withoutFcs frame
    let o := ipOffset b
    let mine := s.port6 p != 0 && fieldBe b (o + 48) 16 == s.port6 p && etherType b == 0x86DD &&
      fieldBe b (o + 6) 1 == 58 && fieldBe b (o + 40) 1 == 135
    if !s.answers p sub frame || !mine then .next s
    else
      let src := fieldBe b (o + 8) 16
      let dst := if src = 0 then 0xFF02 * 2 ^ 112 + 1 else src
      let mac := if src = 0 then mac6 1 else fieldBe b 6 6
      let flags := if src = 0 then 0x20000000 else 0x60000000
      let m := beBytes 4 0x88000000 ++ beBytes 4 flags ++ beBytes 16 (s.port6 p) ++ beBytes 2 0x0201 ++ beBytes 6 (s.portMac p)
      let m := icmp6 (s.port6 p) dst m
      .next (s.emit (.ethernet p (s.answerFrame p b mac 0x86DD (ip6Header 58 255 (s.port6 p) dst m.length ++ m))))

/-- ECHO_REQUEST (R175). -/
def execEchoRequest (p sub : Nat) (frame : Bytes) (s : State) : Host.Outcome State Fault Refusal :=
  if s.par.ports ≤ p ∨ 4 ≤ sub then .refused .noSuchUnit
  else
    let b := withoutFcs frame
    let o := ipOffset b
    let four := s.port4 p != 0 && etherType b == 0x0800 && fieldBe b (o + 16) 4 == s.port4 p && fieldBe b (o + 9) 1 == 1 &&
      fieldBe b (ip4Body b) 2 == 0x0800
    let six := s.port6 p != 0 && etherType b == 0x86DD && fieldBe b (o + 24) 16 == s.port6 p && fieldBe b (o + 6) 1 == 58 &&
      fieldBe b (o + 40) 2 == 0x8000
    if !s.answers p sub frame then .next s
    else if four then
      let n := fieldBe b (o + 2) 2 - (ip4Body b - o)
      let m := icmp4 (beBytes 2 0 ++ (b.drop (ip4Body b + 2)).take (n - 2))
      let h := ip4Header (fieldBe b (o + 4) 2) 1 64 (s.port4 p) (fieldBe b (o + 12) 4) m.length []
      .next (s.emit (.ethernet p (s.answerFrame p b (fieldBe b 6 6) 0x0800 (h ++ m))))
    else if six then
      let src := fieldBe b (o + 8) 16
      let m := icmp6 (s.port6 p) src (beBytes 2 0x8100 ++ (b.drop (o + 42)).take (fieldBe b (o + 4) 2 - 2))
      .next (s.emit (.ethernet p (s.answerFrame p b (fieldBe b 6 6) 0x86DD (ip6Header 58 64 (s.port6 p) src m.length ++ m))))
    else .next s

/-- The frame holds an IGMPv3 query, general or for the group: type 0x11, and long enough for version 3. -/
def State.igmpQuery (s : State) (p : Nat) (b : Bytes) : Bool :=
  let o := ipOffset b
  let q := fieldBe b (ip4Body b + 4) 4
  s.group4 p != 0 && etherType b == 0x0800 && fieldBe b (o + 9) 1 == 2 && fieldBe b (ip4Body b) 1 == 0x11 &&
    decide (ip4Body b - o + 12 ≤ fieldBe b (o + 2) 2) && (q == 0 || q == s.group4 p)

/-- Offset of the ICMPv6 message of an IPv6 frame, past a hop-by-hop header; none where something else follows. -/
def icmp6Body (b : Bytes) : Option Nat :=
  let o := ipOffset b
  if fieldBe b (o + 6) 1 = 58 then some (o + 40)
  else if fieldBe b (o + 6) 1 = 0 ∧ fieldBe b (o + 40) 1 = 58 then some (o + 40 + 8 * (fieldBe b (o + 41) 1 + 1))
  else none

/-- The frame holds an MLDv2 query, general or for the group: type 130, and long enough for version 2. -/
def State.mldQuery (s : State) (p : Nat) (b : Bytes) : Bool :=
  s.group6 p != 0 && etherType b == 0x86DD && match icmp6Body b with
    | none => false
    | some i =>
      let q := fieldBe b (i + 8) 16
      fieldBe b i 1 == 130 && decide (i - (ipOffset b + 40) + 28 ≤ fieldBe b (ipOffset b + 4) 2) &&
        (q == 0 || q == s.group6 p)

/-- GROUP_QUERY (R175): an IGMPv3 or MLDv2 query, general or for the configured group. -/
def execGroupQuery (p sub : Nat) (frame : Bytes) (s : State) : Host.Outcome State Fault Refusal :=
  if s.par.ports ≤ p ∨ 4 ≤ sub then .refused .noSuchUnit
  else
    let b := withoutFcs frame
    if !s.answers p sub frame then .next s
    else if s.igmpQuery p b then
      let m := icmp4 (beBytes 8 0x2200000000000001 ++ beBytes 4 0x02000000 ++ beBytes 4 (s.group4 p))
      let h := ip4Header 0 2 1 (s.port4 p) 0xE0000016 m.length (beBytes 4 0x94040000)
      .next (s.emit (.ethernet p (s.answerFrame p b (mac4 0xE0000016) 0x0800 (h ++ m))))
    else if s.mldQuery p b then
      let dst := 0xFF02 * 2 ^ 112 + 0x16
      let m := icmp6 (s.port6 p) dst (beBytes 8 0x8F00000000000001 ++ beBytes 4 0x02000000 ++ beBytes 16 (s.group6 p))
      let h := ip6Header 0 1 (s.port6 p) dst (8 + m.length) ++ beBytes 8 0x3A00050200000100
      .next (s.emit (.ethernet p (s.answerFrame p b (mac6 dst) 0x86DD (h ++ m))))
    else .next s

end Sys2Proof.Machine
end

