-- ==== Sys2Proof/Machine/Rect.lean ====
section
/-! DEFINITION. COPY, FILL and BLEND (R334 to R339). -/
namespace Sys2Proof.Machine
open Sys2Proof

/-- R334: the element size in bytes of an esize code; 7 is reserved. -/
def elementSize (e : Nat) : Nat := [1, 2, 4, 6, 8, 10, 16, 0].getD e 0

/-- R335: what addresses and strides are multiples of. -/
def elementAlign (e : Nat) : Nat := [1, 2, 4, 2, 8, 2, 8, 1].getD e 1

/-- R334: the fields of word 0 that the three commands share. -/
structure RectCmd where
  esize : Nat
  xDesc : Bool
  yDesc : Bool
  width : Nat
  height : Nat
  alphaSrc : Nat
  alpha : Nat
  format : Nat
  deriving DecidableEq, Repr

/-- R334. -/
def rectOf (w : Nat) : RectCmd :=
  ⟨bits w 8 3, bit w 11, bit w 12, bits w 13 12, bits w 25 12, bits w 37 2, bits w 39 10, bits w 49 1⟩

/-- R334: a base address and a row stride. -/
structure RectAt where
  base : Nat
  stride : Nat
  deriving DecidableEq, Repr

/-- R334: words 1 to 3 as a base and a stride. -/
def rectAt (w : Nat) : RectAt := ⟨bits w 0 40, bits w 40 24⟩

/-- R335: the address of element (x, y). -/
def RectAt.elem (r : RectAt) (size x y : Nat) : Nat := r.base + r.stride * y + size * x

/-- R335: the rectangle lies wholly in paddock, row by row. A reserved element size is taken as 1 byte (log 75). -/
def State.rectInside (s : State) (c : RectCmd) (r : RectAt) (size : Nat) : Bool :=
  (List.range c.height).all fun y => s.paddockRange (r.elem size 0 y) (max 1 size * c.width)

/-- R335: base and stride suit an alignment. -/
def RectAt.aligned (r : RectAt) (n : Nat) : Bool := r.base % n == 0 && r.stride % n == 0

/-- R336: the elements in the order in which the command acts on them. -/
def RectCmd.order (c : RectCmd) : List (Nat × Nat) :=
  let xs := if c.xDesc then (List.range c.width).reverse else List.range c.width
  let ys := if c.yDesc then (List.range c.height).reverse else List.range c.height
  ys.flatMap fun y => xs.map fun x => (x, y)

/-- R336: one element at a time; a read that cannot be corrected ends it with the engine in state 3. -/
def State.eachElement (s : State) (c : Nat) (f : State → Nat → Nat → Option State × State) : List (Nat × Nat) → State × Bool
  | [] => (s, true)
  | (x, y) :: t =>
    match f s x y with
    | (some s, _) => s.eachElement c f t
    | (none, s) => (s.engineLost c, false)

/-- A rectangle command runs, and its list goes on. -/
def State.runRect (s : State) (c : Nat) (r : ListRun) (k : RectCmd) (f : State → Nat → Nat → Option State × State) : State :=
  match s.eachElement c f k.order with
  | (s, true) => s.commandDone c r
  | (s, false) => s

/-! ### COPY and FILL -/

/-- R313: the first error of a COPY, 0 for none. -/
def State.copyBad (s : State) (w : Nat → Nat) : Nat :=
  let k := rectOf (w 0)
  let n := elementSize k.esize
  if w 0 / 2 ^ 37 ≠ 0 ∨ w 3 ≠ 0 then 2
  else if !(rectAt (w 1)).aligned (elementAlign k.esize) || !(rectAt (w 2)).aligned (elementAlign k.esize) then 3
  else if !s.rectInside k (rectAt (w 1)) n || !s.rectInside k (rectAt (w 2)) n then 4
  else if k.esize = 7 then 9 else 0

/-- R336: an element is copied. -/
def copyElement (src dst : RectAt) (n : Nat) (s : State) (x y : Nat) : Option State × State :=
  match s.readMem .traverse (src.elem n x y) n with
  | (some b, s) => (some (s.writeMem .traverse (dst.elem n x y) b), s)
  | (none, s) => (none, s)

/-- COPY (R334 to R337). -/
def execCopy (c : Nat) (s : State) : Host.Outcome State Fault Refusal :=
  s.withCommand c 2 fun s r =>
    match s.copyBad r.w with
    | 0 => s.runRect c r (rectOf (r.w 0))
        (copyElement (rectAt (r.w 1)) (rectAt (r.w 2)) (elementSize (rectOf (r.w 0)).esize))
    | n => s.listError c r n

/-- R313: the first error of a FILL, 0 for none. -/
def State.fillBad (s : State) (w : Nat → Nat) : Nat :=
  let k := rectOf (w 0)
  if w 0 / 2 ^ 37 ≠ 0 then 2
  else if !(rectAt (w 2)).aligned (elementAlign k.esize) then 3
  else if !s.rectInside k (rectAt (w 2)) (elementSize k.esize) then 4
  else if k.esize = 7 then 9 else 0

/-- R338: an element takes the pattern. -/
def fillElement (dst : RectAt) (b : Bytes) (s : State) (x y : Nat) : Option State × State :=
  (some (s.writeMem .traverse (dst.elem b.length x y) b), s)

/-- FILL (R338). -/
def execFill (c : Nat) (s : State) : Host.Outcome State Fault Refusal :=
  s.withCommand c 3 fun s r =>
    match s.fillBad r.w with
    | 0 =>
      let b := (leBytes 8 (r.w 1) ++ leBytes 8 (r.w 3)).take (elementSize (rectOf (r.w 0)).esize)
      s.runRect c r (rectOf (r.w 0)) (fillElement (rectAt (r.w 2)) b)
    | n => s.listError c r n

/-! ### BLEND -/

/-- R313, R339: the first error of a BLEND, 0 for none. -/
def State.blendBad (s : State) (w : Nat → Nat) : Nat :=
  let k := rectOf (w 0)
  let n := elementSize k.esize
  if w 0 / 2 ^ 50 ≠ 0 ∨ (k.alphaSrc ≠ 0 ∧ k.alpha ≠ 0) ∨ (k.alphaSrc ≠ 2 ∧ w 3 ≠ 0) then 2
  else if !(rectAt (w 1)).aligned (elementAlign k.esize) || !(rectAt (w 2)).aligned (elementAlign k.esize) ||
      (k.alphaSrc == 2 && !(rectAt (w 3)).aligned 2) then 3
  else if !s.rectInside k (rectAt (w 1)) n || !s.rectInside k (rectAt (w 2)) n ||
      (k.alphaSrc == 2 && !s.rectInside k (rectAt (w 3)) 2) then 4
  else if k.esize = 7 ∨ k.alphaSrc = 3 ∨ (k.format = 0 ∧ k.esize ≠ 5) ∨ (k.format = 1 ∧ k.esize ≠ 3) ∨
      (k.alphaSrc = 1 ∧ k.format = 1) then 9
  else 0

/-- R339: a layer pixel blended over another. -/
def blendPixel (a s d : Nat) : Nat :=
  let f := fun lo => blendOver a (bits s lo 12) (bits d lo 12) * 2 ^ lo
  f 0 + f 12 + f 24 + blendOver a 1023 (bits d 36 10) * 2 ^ 36 + bits (if 512 ≤ a then s else d) 46 26 * 2 ^ 46

/-- R339: a drive triple blended over another. -/
def blendTriple (a s d : Nat) : Nat :=
  let f := fun lo => blendOver a (bits s lo 16) (bits d lo 16) * 2 ^ lo
  f 0 + f 16 + f 32

/-- R339: the alpha of an element. -/
def State.blendAlpha (s : State) (k : RectCmd) (map : RectAt) (src x y : Nat) : Option Nat × State :=
  match k.alphaSrc with
  | 0 => (some k.alpha, s)
  | 1 => (some (bits src 36 10), s)
  | _ =>
    match s.readMem .traverse (map.elem 2 x y) 2 with
    | (some b, s) => (some (leNat b % 1024), s)
    | (none, s) => (none, s)

/-- R339: an element is blended. -/
def blendElement (k : RectCmd) (src dst map : RectAt) (s : State) (x y : Nat) : Option State × State :=
  let n := elementSize k.esize
  match s.readMem .traverse (src.elem n x y) n with
  | (none, s) => (none, s)
  | (some b, s) =>
    match s.readMem .traverse (dst.elem n x y) n with
    | (none, s) => (none, s)
    | (some d, s) =>
      match s.blendAlpha k map (leNat b) x y with
      | (none, s) => (none, s)
      | (some a, s) =>
        let v := if k.format = 0 then blendPixel a (leNat b) (leNat d) else blendTriple a (leNat b) (leNat d)
        (some (s.writeMem .traverse (dst.elem n x y) (leBytes n v)), s)

/-- BLEND (R339). -/
def execBlend (c : Nat) (s : State) : Host.Outcome State Fault Refusal :=
  s.withCommand c 4 fun s r =>
    match s.blendBad r.w with
    | 0 => s.runRect c r (rectOf (r.w 0))
        (blendElement (rectOf (r.w 0)) (rectAt (r.w 1)) (rectAt (r.w 2)) (rectAt (r.w 3)))
    | n => s.listError c r n

end Sys2Proof.Machine
end

