-- ==== Sys2Proof/Machine/Tap.lean ====
section
/-! DEFINITION. Test access (R268, R662 to R665). What the lands carry under a test instruction is not held: `pins.tap` and
`pins.tapHolds` say which instruction has them. -/
namespace Sys2Proof.Machine
open Sys2Proof

/-- The TAP runs from boot stage 2 onward, while the main rails are not cut in thermal shutdown. -/
def State.tapRuns (s : State) : Bool := decide (2 ≤ s.stage) && (s.pins.pwrEnMain || !s.health.shutdown)

/-- R663, R664: an instruction is loaded; a test instruction comes into effect in the stages that admit it. -/
def State.loadTap (s : State) (i : TapInstr) : State :=
  if !s.tapRuns then s
  else { s with pins := { s.pins with tap := i, tapHolds := s.pins.tapHolds || (i.tests && tapStage s.stage) } }

/-- R664: the instruction that the TAP acts on: a test instruction outside its stages acts as BYPASS. -/
def State.tapActs (s : State) : TapInstr :=
  if s.pins.tap.tests && !s.pins.tapHolds then .bypass else s.pins.tap

/-- R662: the identification register. -/
def State.idCode (s : State) : BitVec 32 :=
  BitVec.ofNat 32 (s.rdN Reg.FAMILY_stepping % 16 * 2 ^ 28 + s.par.deviceId * 2 ^ 12 + 0x4B6 * 2 + 1)

/-- R268, R665: debug halt is released. -/
def State.debugOff (s : State) : State := { s with sq := { s.sq with debugHalt := false } }

/-- R268, R665: debug halt is asserted; spur-debug takes every grant that is held. -/
def State.debugOn (s : State) : State :=
  let s := s.bump Reg.ARB_SPUR_debug
    (s.sq.seqs.filter fun (_, q) => q.lock.isSome || q.stores.any (·.lock.isSome)).length
  { s with sq := { s.sq with debugHalt := true } }

/-- EXTEST. -/
def execExtest (s : State) : Host.Outcome State Fault Refusal := .next (s.loadTap .extest)

/-- IDCODE (R662, R663). -/
def execIdcode (s : State) : Host.Outcome State Fault Refusal :=
  if !s.tapRuns then .next s
  else .next ({ s with pins := { s.pins with idReg := s.idCode } }.loadTap .idcode)

/-- SAMPLE/PRELOAD. -/
def execSamplePreload (s : State) : Host.Outcome State Fault Refusal := .next (s.loadTap .samplePreload)

/-- EXTEST_PULSE. -/
def execExtestPulse (s : State) : Host.Outcome State Fault Refusal := .next (s.loadTap .extestPulse)

/-- EXTEST_TRAIN. -/
def execExtestTrain (s : State) : Host.Outcome State Fault Refusal := .next (s.loadTap .extestTrain)

/-- CLAMP. -/
def execClamp (s : State) : Host.Outcome State Fault Refusal := .next (s.loadTap .clamp)

/-- HIGHZ. -/
def execHighz (s : State) : Host.Outcome State Fault Refusal := .next (s.loadTap .highz)

/-- BYPASS, and every code that the TAP does not decode (R663). -/
def execBypass (s : State) : Host.Outcome State Fault Refusal := .next (s.loadTap .bypass)

/-- DEBUG_HALT (R665). -/
def execDebugHalt (s : State) : Host.Outcome State Fault Refusal :=
  if !s.tapRuns then .next s
  else .next ((if s.sq.debugHalt then s else s.debugOn).loadTap .debugHalt)

/-- DEBUG_RELEASE (R665). -/
def execDebugRelease (s : State) : Host.Outcome State Fault Refusal :=
  if !s.tapRuns then .next s else .next (s.debugOff.loadTap .debugRelease)

/-- R612, R664: boot advances past a stage whose event came while the TAP held the lands. -/
def State.bootOn (s : State) : State :=
  if s.stage = 2 ∧ s.pins.pwrOkMain = true then s.toStage 3
  else if s.stage = 3 ∧ s.on Reg.CLK_STATUS_m0_lock = true then s.toStage 4
  else s

/-- TEST_LOGIC_RESET (R663 to R665): the TAP releases the lands and debug halt, and boot may advance. IDCODE is the
instruction there (log 23). -/
def execTestLogicReset (s : State) : Host.Outcome State Fault Refusal :=
  if !s.tapRuns then .next s
  else
    let s := { s with pins := { s.pins with tap := .idcode, tapHolds := false, idReg := s.idCode } }.debugOff
    .next s.bootOn

end Sys2Proof.Machine
end

