-- ==== Sys2Proof/Machine/Dispatch.lean ====
section
/-! DEFINITION. The dispatch: one arm per command, each one direct call of the command's meaning. -/
namespace Sys2Proof.Machine
open Sys2Proof

def exec (i : Instr) (s : State) : Host.Outcome State Fault Refusal :=
  match i with
  | .nop q f => Sys2Proof.Machine.execNop q f s
  | .halt q f => Sys2Proof.Machine.execHalt q f s
  | .trap q f => Sys2Proof.Machine.execTrap q f s
  | .fence q f => Sys2Proof.Machine.execFence q f s
  | .add q f => Sys2Proof.Machine.execAdd q f s
  | .sub q f => Sys2Proof.Machine.execSub q f s
  | .mul q f => Sys2Proof.Machine.execMul q f s
  | .mulh q f => Sys2Proof.Machine.execMulh q f s
  | .and q f => Sys2Proof.Machine.execAnd q f s
  | .or q f => Sys2Proof.Machine.execOr q f s
  | .xor q f => Sys2Proof.Machine.execXor q f s
  | .shl q f => Sys2Proof.Machine.execShl q f s
  | .shr q f => Sys2Proof.Machine.execShr q f s
  | .sar q f => Sys2Proof.Machine.execSar q f s
  | .min q f => Sys2Proof.Machine.execMin q f s
  | .max q f => Sys2Proof.Machine.execMax q f s
  | .addi q f => Sys2Proof.Machine.execAddi q f s
  | .ldi q f => Sys2Proof.Machine.execLdi q f s
  | .ldhi q f => Sys2Proof.Machine.execLdhi q f s
  | .cmp q f => Sys2Proof.Machine.execCmp q f s
  | .sel q f => Sys2Proof.Machine.execSel q f s
  | .ld q f => Sys2Proof.Machine.execLd q f s
  | .st q f => Sys2Proof.Machine.execSt q f s
  | .ldw32 q f => Sys2Proof.Machine.execLdw32 q f s
  | .stw32 q f => Sys2Proof.Machine.execStw32 q f s
  | .cas q f => Sys2Proof.Machine.execCas q f s
  | .fadd q f => Sys2Proof.Machine.execFadd q f s
  | .br q f => Sys2Proof.Machine.execBr q f s
  | .bc q f => Sys2Proof.Machine.execBc q f s
  | .call q f => Sys2Proof.Machine.execCall q f s
  | .ret q f => Sys2Proof.Machine.execRet q f s
  | .loop q f => Sys2Proof.Machine.execLoop q f s
  | .issue q f => Sys2Proof.Machine.execIssue q f s
  | .poll q f => Sys2Proof.Machine.execPoll q f s
  | .wait q f => Sys2Proof.Machine.execWait q f s
  | .waitComplete q => Sys2Proof.Machine.execWaitComplete q s
  | .waitTimeout q => Sys2Proof.Machine.execWaitTimeout q s
  | .signal q f => Sys2Proof.Machine.execSignal q f s
  | .signalDelivery target => Sys2Proof.Machine.execSignalDelivery target s
  | .clear q f => Sys2Proof.Machine.execClear q f s
  | .atTime q f => Sys2Proof.Machine.execAtTime q f s
  | .atComplete dt q => Sys2Proof.Machine.execAtComplete dt q s
  | .atTimeout q => Sys2Proof.Machine.execAtTimeout q s
  | .stamp q f => Sys2Proof.Machine.execStamp q f s
  | .setf q f => Sys2Proof.Machine.execSetf q f s
  | .getf q f => Sys2Proof.Machine.execGetf q f s
  | .setfv q f => Sys2Proof.Machine.execSetfv q f s
  | .svc q f => Sys2Proof.Machine.execSvc q f s
  | .commitLayerSet q f => Sys2Proof.Machine.execCommitLayerSet q f s
  | .commitFrameProgram q f => Sys2Proof.Machine.execCommitFrameProgram q f s
  | .log q f => Sys2Proof.Machine.execLog q f s
  | .gearQueryLink q f => Sys2Proof.Machine.execGearQueryLink q f s
  | .gearRequest q f => Sys2Proof.Machine.execGearRequest q f s
  | .gearQueryCluster q f => Sys2Proof.Machine.execGearQueryCluster q f s
  | .lockstepError => Sys2Proof.Machine.execLockstepError s
  | .marshalResume => Sys2Proof.Machine.execMarshalResume s
  | .fieldWrite off eight val => Sys2Proof.Machine.execFieldWrite off eight val s
  | .rcFieldRead off eight => Sys2Proof.Machine.execRcFieldRead off eight s
  | .datumLowWordRead off => Sys2Proof.Machine.execDatumLowWordRead off s
  | .mshDoorbellWrite val => Sys2Proof.Machine.execMshDoorbellWrite val s
  | .clogIdxTailWrite val => Sys2Proof.Machine.execClogIdxTailWrite val s
  | .clogClearOvf val => Sys2Proof.Machine.execClogClearOvf val s
  | .portEnableWrite p val => Sys2Proof.Machine.execPortEnableWrite p val s
  | .portSplitWrite p val => Sys2Proof.Machine.execPortSplitWrite p val s
  | .clipStop val => Sys2Proof.Machine.execClipStop val s
  | .arbHoldLimitWrite val => Sys2Proof.Machine.execArbHoldLimitWrite val s
  | .dramGrpRestore g trainOk => Sys2Proof.Machine.execDramGrpRestore g trainOk s
  | .dramRestoreComplete g => Sys2Proof.Machine.execDramRestoreComplete g s
  | .trvCtrlRelease c mask => Sys2Proof.Machine.execTrvCtrlRelease c mask s
  | .guardCtrlRelease mask => Sys2Proof.Machine.execGuardCtrlRelease mask s
  | .corrCtrlSwap val => Sys2Proof.Machine.execCorrCtrlSwap val s
  | .laneAdaptRetry n val => Sys2Proof.Machine.execLaneAdaptRetry n val s
  | .svcSlotsTableHiWrite n val => Sys2Proof.Machine.execSvcSlotsTableHiWrite n val s
  | .datumSelectWrite val => Sys2Proof.Machine.execDatumSelectWrite val s
  | .datumStepGo d val => Sys2Proof.Machine.execDatumStepGo d val s
  | .ptpRxTailWrite p val => Sys2Proof.Machine.execPtpRxTailWrite p val s
  | .ptpTxSend p val => Sys2Proof.Machine.execPtpTxSend p val s
  | .ptpFrameSent p => Sys2Proof.Machine.execPtpFrameSent p s
  | .tsqPop p val => Sys2Proof.Machine.execTsqPop p val s
  | .ftRestEnter val => Sys2Proof.Machine.execFtRestEnter val s
  | .ftRestExit val => Sys2Proof.Machine.execFtRestExit val s
  | .fmLogTailWrite val => Sys2Proof.Machine.execFmLogTailWrite val s
  | .fmLogClearOvf val => Sys2Proof.Machine.execFmLogClearOvf val s
  | .fmCtrlWarmReset val => Sys2Proof.Machine.execFmCtrlWarmReset val s
  | .fmEngineTarget val => Sys2Proof.Machine.execFmEngineTarget val s
  | .fmFirstClear val => Sys2Proof.Machine.execFmFirstClear val s
  | .nvmHostRead => Sys2Proof.Machine.execNvmHostRead s
  | .nvmHostWrite => Sys2Proof.Machine.execNvmHostWrite s
  | .nvmHostTallyInc => Sys2Proof.Machine.execNvmHostTallyInc s
  | .nvmHostTallyRead => Sys2Proof.Machine.execNvmHostTallyRead s
  | .nvmHostUnlock val => Sys2Proof.Machine.execNvmHostUnlock val s
  | .nvmHostLock val => Sys2Proof.Machine.execNvmHostLock val s
  | .nvmHostCommandDone => Sys2Proof.Machine.execNvmHostCommandDone s
  | .rstCtrlWarm val => Sys2Proof.Machine.execRstCtrlWarm val s
  | .rstBootGo val => Sys2Proof.Machine.execRstBootGo val s
  | .refCtrlSelectWrite val => Sys2Proof.Machine.execRefCtrlSelectWrite val s
  | .hostBar2BaseWrite val => Sys2Proof.Machine.execHostBar2BaseWrite val s
  | .msixTableWrite w => Sys2Proof.Machine.execMsixTableWrite w s
  | .corrWindowWrite off eight val => Sys2Proof.Machine.execCorrWindowWrite off eight val s
  | .bar0BadAccess write len => Sys2Proof.Machine.execBar0BadAccess write len s
  | .bar2Read off len => Sys2Proof.Machine.execBar2Read off len s
  | .bar2Write off data => Sys2Proof.Machine.execBar2Write off data s
  | .bar2WaitTimeout write => Sys2Proof.Machine.execBar2WaitTimeout write s
  | .msixMessage => Sys2Proof.Machine.execMsixMessage s
  | .pciePerst => Sys2Proof.Machine.execPciePerst s
  | .pcieHotReset => Sys2Proof.Machine.execPcieHotReset s
  | .encode c => Sys2Proof.Machine.execEncode c s
  | .encoderBlockRow c => Sys2Proof.Machine.execEncoderBlockRow c s
  | .resume c => Sys2Proof.Machine.execResume c s
  | .park c => Sys2Proof.Machine.execPark c s
  | .abandon c => Sys2Proof.Machine.execAbandon c s
  | .encoderStall c => Sys2Proof.Machine.execEncoderStall c s
  | .decodeLayer k => Sys2Proof.Machine.execDecodeLayer k s
  | .decodeComplete k => Sys2Proof.Machine.execDecodeComplete k s
  | .listStart c => Sys2Proof.Machine.execListStart c s
  | .shear c => Sys2Proof.Machine.execShear c s
  | .shearBearingStart c => Sys2Proof.Machine.execShearBearingStart c s
  | .copy c => Sys2Proof.Machine.execCopy c s
  | .fill c => Sys2Proof.Machine.execFill c s
  | .blend c => Sys2Proof.Machine.execBlend c s
  | .band c => Sys2Proof.Machine.execBand c s
  | .note c => Sys2Proof.Machine.execNote c s
  | .listNop c => Sys2Proof.Machine.execListNop c s
  | .bandBoundary => Sys2Proof.Machine.execBandBoundary s
  | .plotLoad c queue => Sys2Proof.Machine.execPlotLoad c queue s
  | .engineDescriptorComplete cls inst queue => Sys2Proof.Machine.execEngineDescriptorComplete cls inst queue s
  | .clusterFault c kind trapCause => Sys2Proof.Machine.execClusterFault c kind trapCause s
  | .spareStart c => Sys2Proof.Machine.execSpareStart c s
  | .clipRecord => Sys2Proof.Machine.execClipRecord s
  | .clipPlayback => Sys2Proof.Machine.execClipPlayback s
  | .copyIn => Sys2Proof.Machine.execCopyIn s
  | .faultAdd => Sys2Proof.Machine.execFaultAdd s
  | .faultRemove => Sys2Proof.Machine.execFaultRemove s
  | .faultClear => Sys2Proof.Machine.execFaultClear s
  | .corrResyncComplete => Sys2Proof.Machine.execCorrResyncComplete s
  | .verifyLoad => Sys2Proof.Machine.execVerifyLoad s
  | .verify => Sys2Proof.Machine.execVerify s
  | .attest => Sys2Proof.Machine.execAttest s
  | .record => Sys2Proof.Machine.execRecord s
  | .cert => Sys2Proof.Machine.execCert s
  | .nvmRead bank => Sys2Proof.Machine.execNvmRead bank s
  | .nvmWrite bank => Sys2Proof.Machine.execNvmWrite bank s
  | .nvmTallyInc bank => Sys2Proof.Machine.execNvmTallyInc bank s
  | .nvmTallyRead bank => Sys2Proof.Machine.execNvmTallyRead bank s
  | .nvmUnlock bank => Sys2Proof.Machine.execNvmUnlock bank s
  | .nvmLock bank => Sys2Proof.Machine.execNvmLock bank s
  | .nvmSetpw bank => Sys2Proof.Machine.execNvmSetpw bank s
  | .nvmBenchSave bank => Sys2Proof.Machine.execNvmBenchSave bank s
  | .nvmPageCommit bank => Sys2Proof.Machine.execNvmPageCommit bank s
  | .sceneFrameRx p sub frame => Sys2Proof.Machine.execSceneFrameRx p sub frame s
  | .arpRequest p sub frame => Sys2Proof.Machine.execArpRequest p sub frame s
  | .neighborSolicitation p sub frame => Sys2Proof.Machine.execNeighborSolicitation p sub frame s
  | .echoRequest p sub frame => Sys2Proof.Machine.execEchoRequest p sub frame s
  | .groupQuery p sub frame => Sys2Proof.Machine.execGroupQuery p sub frame s
  | .frameHead p packet => Sys2Proof.Machine.execFrameHead p packet s
  | .cellHead p packet => Sys2Proof.Machine.execCellHead p packet s
  | .chunk p packet => Sys2Proof.Machine.execChunk p packet s
  | .guard p packet => Sys2Proof.Machine.execGuard p packet s
  | .layerDispatch => Sys2Proof.Machine.execLayerDispatch s
  | .streamLoss loss => Sys2Proof.Machine.execStreamLoss loss s
  | .assemblyDeadline dt => Sys2Proof.Machine.execAssemblyDeadline dt s
  | .ptpRxFrame p sub frame => Sys2Proof.Machine.execPtpRxFrame p sub frame s
  | .datumLoss loss => Sys2Proof.Machine.execDatumLoss loss s
  | .datumSlewComplete dt => Sys2Proof.Machine.execDatumSlewComplete dt s
  | .periodStart dt => Sys2Proof.Machine.execPeriodStart dt s
  | .periodStartTmax dt => Sys2Proof.Machine.execPeriodStartTmax dt s
  | .periodStartLocked dt => Sys2Proof.Machine.execPeriodStartLocked dt s
  | .firstPeriodStart dt => Sys2Proof.Machine.execFirstPeriodStart dt s
  | .latchPoint dt => Sys2Proof.Machine.execLatchPoint dt s
  | .forcedLatch dt => Sys2Proof.Machine.execForcedLatch dt s
  | .gearChangeComplete n => Sys2Proof.Machine.execGearChangeComplete n s
  | .showTimeReached dt => Sys2Proof.Machine.execShowTimeReached dt s
  | .guardOutcome r => Sys2Proof.Machine.execGuardOutcome r s
  | .restEntry => Sys2Proof.Machine.execRestEntry s
  | .restExit => Sys2Proof.Machine.execRestExit s
  | .restExitComplete => Sys2Proof.Machine.execRestExitComplete s
  | .laneWakeTimeout n => Sys2Proof.Machine.execLaneWakeTimeout n s
  | .markerSend n => Sys2Proof.Machine.execMarkerSend n s
  | .upstreamMarker n cell => Sys2Proof.Machine.execUpstreamMarker n cell s
  | .laneAligned n => Sys2Proof.Machine.execLaneAligned n s
  | .alignmentLoss n => Sys2Proof.Machine.execAlignmentLoss n s
  | .bcLossOfSignal n => Sys2Proof.Machine.execBcLossOfSignal n s
  | .bcSweepComplete n centre fom => Sys2Proof.Machine.execBcSweepComplete n centre fom s
  | .svcPacketSend n => Sys2Proof.Machine.execSvcPacketSend n s
  | .svcAckTimeout n => Sys2Proof.Machine.execSvcAckTimeout n s
  | .status n packet => Sys2Proof.Machine.execStatus n packet s
  | .fault n packet => Sys2Proof.Machine.execFault n packet s
  | .temp n packet => Sys2Proof.Machine.execTemp n packet s
  | .crack n packet => Sys2Proof.Machine.execCrack n packet s
  | .ack n packet => Sys2Proof.Machine.execAck n packet s
  | .eye n packet => Sys2Proof.Machine.execEye n packet s
  | .failoverTrigger n cause => Sys2Proof.Machine.execFailoverTrigger n cause s
  | .failoverRestore n => Sys2Proof.Machine.execFailoverRestore n s
  | .dramWriteGather addr data => Sys2Proof.Machine.execDramWriteGather addr data s
  | .gatherTimeout g line => Sys2Proof.Machine.execGatherTimeout g line s
  | .lineDrainComplete g line => Sys2Proof.Machine.execLineDrainComplete g line s
  | .dramChannelFail ch cause => Sys2Proof.Machine.execDramChannelFail ch cause s
  | .refreshDebtTick ch rank => Sys2Proof.Machine.execRefreshDebtTick ch rank s
  | .mr4Poll ch mult => Sys2Proof.Machine.execMr4Poll ch mult s
  | .powerDownEntry ch rank => Sys2Proof.Machine.execPowerDownEntry ch rank s
  | .selfRefreshEntry ch rank => Sys2Proof.Machine.execSelfRefreshEntry ch rank s
  | .holdTimerBite bite => Sys2Proof.Machine.execHoldTimerBite bite s
  | .commonSliceFail k => Sys2Proof.Machine.execCommonSliceFail k s
  | .thermalSample t r0 r1 r2 => Sys2Proof.Machine.execThermalSample t r0 r1 r2 s
  | .shutdownRailCut => Sys2Proof.Machine.execShutdownRailCut s
  | .thermalRelease => Sys2Proof.Machine.execThermalRelease s
  | .trimMeasurement m => Sys2Proof.Machine.execTrimMeasurement m s
  | .faultDetected => Sys2Proof.Machine.execFaultDetected s
  | .faultHandled => Sys2Proof.Machine.execFaultHandled s
  | .safeStateSync dt => Sys2Proof.Machine.execSafeStateSync dt s
  | .hubEngineFault cls inst => Sys2Proof.Machine.execHubEngineFault cls inst s
  | .powerOn => Sys2Proof.Machine.execPowerOn s
  | .resetNRelease => Sys2Proof.Machine.execResetNRelease s
  | .pwrOkMainRise => Sys2Proof.Machine.execPwrOkMainRise s
  | .mainPowerTimeout => Sys2Proof.Machine.execMainPowerTimeout s
  | .pwrOkMainFall => Sys2Proof.Machine.execPwrOkMainFall s
  | .warmReset => Sys2Proof.Machine.execWarmReset s
  | .bootImageVerified => Sys2Proof.Machine.execBootImageVerified s
  | .dramTrainingComplete failed => Sys2Proof.Machine.execDramTrainingComplete failed s
  | .referenceMissing w => Sys2Proof.Machine.execReferenceMissing w s
  | .holdoverExpiry => Sys2Proof.Machine.execHoldoverExpiry s
  | .referenceReturn w => Sys2Proof.Machine.execReferenceReturn w s
  | .extest => Sys2Proof.Machine.execExtest s
  | .idcode => Sys2Proof.Machine.execIdcode s
  | .samplePreload => Sys2Proof.Machine.execSamplePreload s
  | .extestPulse => Sys2Proof.Machine.execExtestPulse s
  | .extestTrain => Sys2Proof.Machine.execExtestTrain s
  | .clamp => Sys2Proof.Machine.execClamp s
  | .highz => Sys2Proof.Machine.execHighz s
  | .debugHalt => Sys2Proof.Machine.execDebugHalt s
  | .debugRelease => Sys2Proof.Machine.execDebugRelease s
  | .bypass => Sys2Proof.Machine.execBypass s
  | .testLogicReset => Sys2Proof.Machine.execTestLogicReset s
  | .illegalOpcode q op => Sys2Proof.Machine.execIllegalOpcode q op s
  | .instructionFetchFault q addr uncorrectable => Sys2Proof.Machine.execInstructionFetchFault q addr uncorrectable s
  | .portLinkChange p link fec => Sys2Proof.Machine.execPortLinkChange p link fec s
  | .hostLinkChange speed width => Sys2Proof.Machine.execHostLinkChange speed width s
  | .powerStateChange p => Sys2Proof.Machine.execPowerStateChange p s
  | .powerLoss => Sys2Proof.Machine.execPowerLoss s
  | .m0Lock => Sys2Proof.Machine.execM0Lock s
  | .imageFetchComplete image => Sys2Proof.Machine.execImageFetchComplete image s
  | .bootSectionsLoaded => Sys2Proof.Machine.execBootSectionsLoaded s

end Sys2Proof.Machine
end

