-- ==== Sys2Proof/Machine/Step.lean ====
section
/-! DEFINITION. One step of the block: the command at the front of the queue, or one CK_DAT tick when none waits. -/
namespace Sys2Proof.Machine
open Sys2Proof

/-- The command at the front of the queue is taken and executed on the state with the queue's rest. On an empty queue
one CK_DAT tick passes and the oldest store of each store buffer becomes visible (DESIGN CHOICE, log 10). -/
def step (s : State) : Host.Outcome State Fault Refusal :=
  match s.pending with
  | [] => .next s.idle
  | c :: rest => exec c { s with pending := rest }

/-- The state with the command that a word spells by the table's bits at the front of its queue (log 1: no word spells
one). -/
def State.withFetchWord (s : State) (nbits w : Nat) : State :=
  match decodeTableWord nbits w with
  | some c => { s with pending := c :: s.pending }
  | none => s

end Sys2Proof.Machine
end

