-- ==== Sys2Proof/Safety.lean ====
section
/-! DEFINITION. What counts as a safe run, and the words in which the claims are stated: completion, what a sequencer needs to
execute, and what a command leaves alone. -/
namespace Sys2Proof.Machine
open Sys2Proof

/-- The outcome is a next state that has property `P`. -/
def Completes (o : Host.Outcome State Fault Refusal) (P : State → Prop) : Prop := ∃ t, o = .next t ∧ P t

/-- A run of `n` steps from `s` meets no fault and no refusal. -/
def SafeRun : Nat → State → Prop
  | 0, _ => True
  | n + 1, s => Completes (step s) (SafeRun n)

/-- Sequencer `q` exists, executes (R84), can fetch, and no hold timer bite waits for it (R135). -/
def State.ready (s : State) (q : SeqId) : Bool :=
  s.hasSeq q && s.running (keyOf q) && s.fetchable (s.pc (keyOf q)) && !(s.seq (keyOf q)).bitten

/-- Every byte of paddock and DRAM reads in `t` as in `s`. -/
def SameBytes (s t : State) : Prop := ∀ a, t.byte a = s.byte a

/-- Every byte outside the `n` bytes from `a` reads in `t` as in `s`. -/
def SameBytesBut (s t : State) (a n : Nat) : Prop := ∀ b, b < a ∨ a + n ≤ b → t.byte b = s.byte b

/-- Every register but those listed stands in `t` as in `s`, pending values included. -/
def SameRegsBut (s t : State) (l : List Nat) : Prop := ∀ h, h ∉ l → t.cell h = s.cell h

/-- Every sequencer but `k` stands in `t` as in `s`. -/
def SameSeqsBut (s t : State) (k : Nat) : Prop := ∀ j, j ≠ k → t.seq j = s.seq j

/-- Sequencer `k` moves nothing but its general registers and its program counter: every part of the block but the sequencers
and the registers is untouched, every other sequencer, and every register but the program counter. -/
def OnlyGprAndPc (s t : State) (k : Nat) : Prop :=
  t = { s with sq := { s.sq with seqs := t.sq.seqs }, regs := t.regs } ∧
  t.seq k = { s.seq k with gpr := (t.seq k).gpr } ∧ SameSeqsBut s t k ∧ SameRegsBut s t [pcReg k] ∧ SameBytes s t

/-- Sequencer `k` moves, with no register but its program counter; every other part of the block is untouched. -/
def OnlySequencer (s t : State) (k : Nat) : Prop :=
  t = { s with sq := { s.sq with seqs := t.sq.seqs }, regs := t.regs } ∧
  SameSeqsBut s t k ∧ SameRegsBut s t [pcReg k] ∧ SameBytes s t

/-- g[d] takes `v` (g0 discards it), and no other general register of sequencer `k` moves. -/
def Gets (s t : State) (k : Nat) (d : BitVec 5) (v : Word) : Prop :=
  t.greg k d = (if d = 0 then 0 else v) ∧ ∀ r, r ≠ d → t.greg k r = s.greg k r

/-- No locked sequence and no debug halt holds a resource (R267, R268): nothing that an engine, the host or ingest accesses makes
its command wait (log 27). -/
def State.unheld (s : State) : Prop := ∀ r, s.heldFrom noSeq r = false

/-- The bytes from `a` lie in paddock, and every group of them can be read (R252, R258, R259). -/
def State.readable (s : State) (a n : Nat) : Prop := ∀ g ∈ groupsOf a n, s.region g ≠ .dram ∧ s.serve g ≠ .lost

/-- The bytes from `a` lie in cluster slices, in which no group has an uncorrectable error. -/
def State.inSlices (s : State) (a n : Nat) : Prop := a + n ≤ s.par.clusters * 0x300000 ∧ s.mem.bad = []

/-- The entry of a descriptor once its engine has read its `n` words (R141). -/
def State.fetched (s : State) (d : QEntry) (n : Nat) : QEntry :=
  if d.words = [] then { d with words := (List.range n).map (s.dword d) } else d

/-- The engine has read the words of the descriptor, or can read them. -/
def State.canStart (s : State) (d : QEntry) (n : Nat) : Prop := d.words = [] → s.readable d.addr (8 * n)

/-- The registers in which reads of paddock by masters of class `cls` count: its grants (R262) and the corrections of the slices
(R252). -/
def paddockRegs (s : State) (cls : Nat) : List Nat :=
  Reg.ARB_CLS_grants cls :: (List.range (s.par.clusters + 16)).map Reg.PAD_ECC_corrected

/-- The registers in which the waits of the block engines count as ticks pass (R329, R348). -/
def waitRegs (s : State) : List Nat :=
  (List.range s.par.clusters).flatMap fun c => [Reg.TRV_CNT_held_wait c, Reg.TRV_CNT_band_wait c]

/-- The line bits of cells that the endpoint of link `n` sends, its line code in step with the receiver (R414 to R416). -/
def State.lineOf (s : State) (n : Nat) (marker : Bool) (cells : Bytes) : Line := ((s.lnk n).rx.send marker cells).2

/-- The state once the receiver of link `n` has taken those bits, which hold no stuffing error (R417, R418). -/
def State.heard (s : State) (n : Nat) (marker : Bool) (cells : Bytes) : State :=
  let l := s.lnk n
  (s.setLnk n { l with rx := (l.rx.send marker cells).1, since := l.since + cells.length / 32 }).bump (Reg.LANE_CNT_stuff_err n) 0

/-- The work of ticket `n` is finished: no descriptor has entered or left the queue or completed, and every other one stands as
it was. -/
def Finishes (s t : State) (key n : Nat) : Prop :=
  (t.engQ key).accepted = (s.engQ key).accepted ∧ (t.engQ key).done = (s.engQ key).done ∧
  (t.engQ key).entries.map (·.ticket) = (s.engQ key).entries.map (·.ticket) ∧
  (∀ e ∈ (t.engQ key).entries, e.ticket = n → e.fin = true) ∧
  ∀ e ∈ (s.engQ key).entries, e.ticket ≠ n → e ∈ (t.engQ key).entries

/-- The registers of some DRAM channels of group `g` that accesses of them may count in, wake, or fail a channel in (R281, R291 to
R293, R299, R300). -/
def channelRegs (g : Nat) (chs : List Nat) : List Nat :=
  Reg.DRAM_GRP_failed g :: chs.flatMap fun c =>
    [Reg.DRAM_CNT_page_hits c, Reg.DRAM_CNT_activates c, Reg.DRAM_STATUS_rank0 c, Reg.DRAM_STATUS_rank1 c, Reg.DRAM_REF_debt0 c,
     Reg.DRAM_REF_debt1 c, Reg.DRAM_ECC_rebuilt c, Reg.DRAM_ECC_uncorrected c, Reg.DRAM_ECC_corrected c, Reg.DRAM_STATUS_state c,
     Reg.DRAM_FAIL_cause c]

/-- The registers that show the trim quantities of a channel (R548). -/
def trimRegs (c : Nat) : List Nat := [Reg.TRIM_CH_wck c, Reg.TRIM_CH_vref c, Reg.TRIM_CH_drift c]

/-- The registers that an access of memory at `a` may count in, wake or fail a channel in: its program counter, the grants of its
class, and the counts, states and debts of the slice, or of the channels of the line, that serve `a` (R252, R262, R281, R291 to
R293, R299, R300). -/
def accessRegs (s : State) (k a : Nat) : List Nat :=
  let l := s.loc a
  [pcReg k, Reg.ARB_CLS_grants (seqClass k), Reg.PAD_ECC_corrected (s.sliceInst a)] ++
  channelRegs l.grp (l.ch :: (List.range 8).map (8 * l.grp + ·))

/-- The instruction completes: `v` in g[d] (g0 discards it), every other general register as before, the next pc `p`, and
nothing else moves. -/
def WritesReg (o : Host.Outcome State Fault Refusal) (s : State) (k : Nat) (d : BitVec 5) (v : Word) (p : Int) : Prop :=
  Completes o fun t =>
    t.greg k d = (if d = 0 then 0 else v) ∧ (∀ r, r ≠ d → t.greg k r = s.greg k r) ∧ t.pc k = p ∧ OnlyGprAndPc s t k

/-- The instruction traps with a cause (R119, R121): the sequencer stands in state 3 with its pc as it was or at `p`; no
general register, no flag, no buffered store, no byte and no other sequencer moves. -/
def TrapsWith (o : Host.Outcome State Fault Refusal) (s : State) (k c : Nat) (p : Int) : Prop :=
  Completes o fun t =>
    t.rd (stateReg k) = 3 ∧ t.rd (causeReg k) = c ∧ t.pc k = p ∧ (∀ r, t.greg k r = s.greg k r) ∧
    (t.seq k).events = (s.seq k).events ∧ (t.seq k).stores = (s.seq k).stores ∧ SameSeqsBut s t k ∧
    SameRegsBut s t [stateReg k, causeReg k, pcReg k] ∧ SameBytes s t

end Sys2Proof.Machine
end

