-- ==== Sys2Proof/WellFormed.lean ====
section
/-! DEFINITION. Well-formed commands: the ranges that the largest member of the family gives the units a command names,
the sizes of what comes from outside, and the alignment of host accesses. A member with fewer units refuses a command
for a missing one (Refusal.noSuchUnit). -/
namespace Sys2Proof

/-- R63: the marshal, or one of at most 68 physical clusters. -/
def SeqId.wf : SeqId → Bool
  | .marshal => true
  | .cluster c => decide (c < 68)

/-- R630: a BAR0 access of 4 or 8 bytes, aligned to its size, in the 64 MiB of BAR0. -/
def bar0Ok (off : Nat) (eight : Bool) : Bool :=
  decide (off < 0x4000000) && decide (off % (if eight then 8 else 4) = 0)

/-- A tile link of the largest member. -/
def linkOk (n : Nat) : Bool := decide (n < 512)

/-- A physical cluster of the largest member. -/
def clusterOk (c : Nat) : Bool := decide (c < 68)

/-- A scene port of the largest member. -/
def portOk (p : Nat) : Bool := decide (p < 8)

/-- R172: a sub-port of a split port; an Ethernet frame with its FCS of at most 9,216 bytes. -/
def frameOk (p sub : Nat) (frame : Bytes) : Bool :=
  portOk p && decide (sub < 4) && decide (frame.length ≤ 9216)

/-- R414, R445: the bits of one cell of 32 bytes at least, as they stand on the line. -/
def lineOk (line : Line) : Bool := decide (256 ≤ line.length)

/-- A DRAM channel of the largest member. -/
def channelOk (c : Nat) : Bool := decide (c < 24)

/-- R138: an engine class, an instance and a queue. -/
def queueOk (cls inst queue : Nat) : Bool :=
  decide (cls < 8) && decide (inst < 4096) && decide (queue < 8)

/-- What a command may hold. -/
def Instr.wf : Instr → Bool
  | .nop q _ | .halt q _ | .trap q _ | .fence q _ | .addi q _ | .ldi q _ | .ldhi q _ | .br q _ | .bc q _ | .call q _
  | .ret q _ | .loop q _ => q.wf
  | .add q _ | .sub q _ | .mul q _ | .mulh q _ | .and q _ | .or q _ | .xor q _ | .shl q _ | .shr q _ | .sar q _
  | .min q _ | .max q _ | .cmp q _ | .sel q _ | .ld q _ | .st q _ | .ldw32 q _ | .stw32 q _ | .cas q _ | .fadd q _
  | .setf q _ | .getf q _ | .setfv q _ | .svc q _ | .commitLayerSet q _ | .commitFrameProgram q _ | .log q _
  | .gearQueryLink q _ | .gearRequest q _ | .gearQueryCluster q _ => q.wf
  | .issue q _ | .poll q _ => q.wf
  | .wait q _ | .signal q _ | .clear q _ | .atTime q _ | .stamp q _ => q.wf
  | .waitComplete q | .waitTimeout q | .signalDelivery q | .atComplete _ q | .atTimeout q => q.wf
  | .illegalOpcode q _ | .instructionFetchFault q _ _ => q.wf
  | .fieldWrite off eight _ | .rcFieldRead off eight => bar0Ok off eight
  | .datumLowWordRead off => decide (0x40000 ≤ off) && decide (off < 0x50000) && decide (off % 8 = 0)
  | .corrWindowWrite off eight _ => bar0Ok off eight && decide (0x1000000 ≤ off) && decide (off < 0x2000000)
  | .msixTableWrite w =>
    match w with
    | .table off _ => decide (off < 1024) && decide (off % 4 = 0)
    | .control _ _ => true
  | .bar2Read off len => decide (off + len ≤ 2 ^ 32) && decide (1 ≤ len) && decide (len ≤ 4096)
  | .bar2Write off data => decide (off + data.length ≤ 2 ^ 32) && decide (data.length ≤ 512)
  | .portEnableWrite p _ | .portSplitWrite p _ | .ptpRxTailWrite p _ | .ptpTxSend p _ | .ptpFrameSent p | .tsqPop p _
  | .portLinkChange p _ _ | .frameHead p _ | .cellHead p _ | .chunk p _ | .guard p _ => portOk p
  | .sceneFrameRx p k f | .arpRequest p k f | .neighborSolicitation p k f | .echoRequest p k f | .groupQuery p k f
  | .ptpRxFrame p k f => frameOk p k f
  | .dramGrpRestore g _ | .dramRestoreComplete g | .gatherTimeout g _ | .lineDrainComplete g _ => decide (g < 3)
  | .trvCtrlRelease c _ | .encode c | .encoderBlockRow c | .resume c | .park c | .abandon c | .encoderStall c
  | .listStart c | .shear c | .shearBearingStart c | .copy c | .fill c | .blend c | .band c | .note c | .listNop c
  | .clusterFault c _ _ | .spareStart c => clusterOk c
  | .plotLoad c q => clusterOk c && decide (q < 2)
  | .decodeLayer i | .decodeComplete i => decide (i < 32)
  | .engineDescriptorComplete cls inst q => queueOk cls inst q
  | .hubEngineFault cls inst => queueOk cls inst 0
  | .laneAdaptRetry n _ | .svcSlotsTableHiWrite n _ | .gearChangeComplete n | .laneWakeTimeout n | .markerSend n
  | .laneAligned n | .alignmentLoss n | .bcLossOfSignal n | .svcPacketSend n | .svcAckTimeout n
  | .failoverRestore n | .bcSweepComplete n _ _ => linkOk n
  | .upstreamMarker n b | .status n b | .fault n b | .temp n b | .crack n b | .ack n b | .eye n b => linkOk n && lineOk b
  | .failoverTrigger n k => linkOk n && decide (k < 6)
  | .datumStepGo d _ => decide (d < 2)
  | .datumLoss l => decide (l.datum < 2)
  | .nvmRead b | .nvmWrite b | .nvmTallyInc b | .nvmTallyRead b | .nvmUnlock b | .nvmLock b | .nvmSetpw b
  | .nvmBenchSave b | .nvmPageCommit b => decide (b < 4)
  | .streamLoss l => decide (l.stream < 2)
  | .guardOutcome r => decide (r < 32)
  | .dramWriteGather a d => decide (a < 2 ^ 40) && decide (d.length ≤ 64) && decide (a % 64 + d.length ≤ 64)
  | .dramChannelFail c k => channelOk c && decide (k < 16)
  | .refreshDebtTick c r | .powerDownEntry c r | .selfRefreshEntry c r => channelOk c && decide (r < 2)
  | .mr4Poll c m => channelOk c && decide (m < 8)
  | .holdTimerBite b => decide (b.resource < 48)
  | .commonSliceFail k => decide (k < 16)
  | .trimMeasurement m =>
    channelOk m.channel && decide (m.quantity < 34) && decide (m.low ≤ m.high) && decide (m.high < 128)
  | .hostLinkChange sp w => decide (sp ≤ 5) && [0, 1, 2, 4, 8].contains w
  | .lockstepError | .marshalResume | .mshDoorbellWrite _ | .clogIdxTailWrite _ | .clogClearOvf _ | .clipStop _
  | .arbHoldLimitWrite _ | .guardCtrlRelease _ | .corrCtrlSwap _ | .datumSelectWrite _ | .ftRestEnter _
  | .ftRestExit _ | .fmLogTailWrite _ | .fmLogClearOvf _ | .fmCtrlWarmReset _ | .fmEngineTarget _ | .fmFirstClear _
  | .nvmHostRead | .nvmHostWrite | .nvmHostTallyInc | .nvmHostTallyRead | .nvmHostUnlock _ | .nvmHostLock _
  | .nvmHostCommandDone | .rstCtrlWarm _ | .rstBootGo _ | .refCtrlSelectWrite _ | .hostBar2BaseWrite _
  | .bar0BadAccess _ _ | .bar2WaitTimeout _ | .msixMessage | .pciePerst | .pcieHotReset | .bandBoundary | .clipRecord
  | .clipPlayback | .copyIn | .faultAdd | .faultRemove | .faultClear | .corrResyncComplete | .verifyLoad | .verify
  | .attest | .record | .cert | .layerDispatch | .assemblyDeadline _ | .datumSlewComplete _ | .periodStart _
  | .periodStartTmax _ | .periodStartLocked _ | .firstPeriodStart _ | .latchPoint _ | .forcedLatch _
  | .showTimeReached _ | .restEntry | .restExit | .restExitComplete | .thermalSample _ _ _ _ | .shutdownRailCut
  | .thermalRelease | .faultDetected | .faultHandled | .safeStateSync _ | .powerOn | .resetNRelease | .pwrOkMainRise
  | .mainPowerTimeout | .pwrOkMainFall | .warmReset | .bootImageVerified | .dramTrainingComplete _
  | .referenceMissing _ | .holdoverExpiry | .referenceReturn _ | .extest | .idcode | .samplePreload | .extestPulse
  | .extestTrain | .clamp | .highz | .debugHalt | .debugRelease | .bypass | .testLogicReset | .powerStateChange _
  | .powerLoss | .m0Lock | .imageFetchComplete _ | .bootSectionsLoaded => true

end Sys2Proof
end

