-- ==== Sys2Proof/Certificates/Slice0/Obligations.lean ====
section
/-! DEFINITION. The statements for the provers. -/
open Sys2Proof Sys2Proof.Machine

/-! ### The queue of commands -/

/-- A step takes the command at the front of the queue and executes it on the state with the queue's rest. -/
def Obligations.StepRunsFrontCommand : Prop :=
  ∀ (c : Instr) (rest : List Instr) (s : State),
    step { s with pending := c :: rest } = exec c { s with pending := rest }

/-! ### The Cheul instruction word (R115 to R117) -/

/-- Decoding the word of a Cheul command gives the command back, at every value of every operand field. COMMIT and GEAR are
one row for each sub value, which the row's operands carry. -/
def Obligations.CheulDecodeInvertsEncode : Prop :=
  ∀ (i : Instr) (w : BitVec 64), Cheul.encode i = some w → Cheul.rowFits i = true → Cheul.decode (Cheul.seqOf i) w = i

/-! ### Compute instructions (R125 to R129) -/

/-- R125, R126: with sub bits that are not reserved, each of the twelve compute instructions writes its result to g[d], goes
on at pc + 8, and moves nothing else. The products and shifts are stated on integers. With reserved sub bits it traps with
cause 0x02 (R118). -/
def Obligations.ComputeWritesItsResultOrTraps : Prop :=
  (∀ (q : SeqId) (f : KFmt) (s : State), s.ready q = true →
     let k := keyOf q
     let x := s.greg k f.a
     let y := if f.sub.getLsbD 0 then f.imm.signExtend 64 else s.greg k f.b
     let n := y.toNat % 64
     let p := s.pc k + 8
     let signed_ := f.sub.getLsbD 1 = false
     (f.sub.toNat < 2 →
       WritesReg (exec (.add q f) s) s k f.d (BitVec.ofInt 64 (x.toInt + y.toInt)) p ∧
       WritesReg (exec (.sub q f) s) s k f.d (BitVec.ofInt 64 (x.toInt - y.toInt)) p ∧
       WritesReg (exec (.mul q f) s) s k f.d (BitVec.ofInt 64 (x.toInt * y.toInt)) p ∧
       WritesReg (exec (.and q f) s) s k f.d (x &&& y) p ∧
       WritesReg (exec (.or q f) s) s k f.d (x ||| y) p ∧
       WritesReg (exec (.xor q f) s) s k f.d (x ^^^ y) p ∧
       WritesReg (exec (.shl q f) s) s k f.d (BitVec.ofNat 64 (x.toNat * 2 ^ n)) p ∧
       WritesReg (exec (.shr q f) s) s k f.d (BitVec.ofNat 64 (x.toNat / 2 ^ n)) p ∧
       WritesReg (exec (.sar q f) s) s k f.d (BitVec.ofInt 64 (x.toInt / 2 ^ n)) p) ∧
     (f.sub.toNat < 4 →
       WritesReg (exec (.mulh q f) s) s k f.d
         (if signed_ then BitVec.ofInt 64 (x.toInt * y.toInt / 2 ^ 64) else BitVec.ofNat 64 (x.toNat * y.toNat / 2 ^ 64)) p ∧
       WritesReg (exec (.min q f) s) s k f.d
         (if signed_ then BitVec.ofInt 64 (min x.toInt y.toInt) else BitVec.ofNat 64 (min x.toNat y.toNat)) p ∧
       WritesReg (exec (.max q f) s) s k f.d
         (if signed_ then BitVec.ofInt 64 (max x.toInt y.toInt) else BitVec.ofNat 64 (max x.toNat y.toNat)) p)) ∧
  (∀ (q : SeqId) (f : KFmt) (s : State), s.ready q = true →
     let k := keyOf q
     let p := s.pc k
     (2 ≤ f.sub.toNat →
       TrapsWith (exec (.add q f) s) s k 0x02 p ∧ TrapsWith (exec (.sub q f) s) s k 0x02 p ∧
       TrapsWith (exec (.mul q f) s) s k 0x02 p ∧ TrapsWith (exec (.and q f) s) s k 0x02 p ∧
       TrapsWith (exec (.or q f) s) s k 0x02 p ∧ TrapsWith (exec (.xor q f) s) s k 0x02 p ∧
       TrapsWith (exec (.shl q f) s) s k 0x02 p ∧ TrapsWith (exec (.shr q f) s) s k 0x02 p ∧
       TrapsWith (exec (.sar q f) s) s k 0x02 p) ∧
     (4 ≤ f.sub.toNat →
       TrapsWith (exec (.mulh q f) s) s k 0x02 p ∧ TrapsWith (exec (.min q f) s) s k 0x02 p ∧
       TrapsWith (exec (.max q f) s) s k 0x02 p))

/-- R127 to R129: the immediate instructions, the six conditions of CMP, and SEL. A CMP or a SEL with reserved sub bits traps
with cause 0x02 (R118). -/
def Obligations.ImmediateCompareSelectWriteTheirResult : Prop :=
  ∀ (q : SeqId) (j : JFmt) (f : KFmt) (s : State), s.ready q = true →
    let k := keyOf q
    let p := s.pc k + 8
    let x := s.greg k f.a
    let y := if f.sub.getLsbD 0 then f.imm.signExtend 64 else s.greg k f.b
    let holds (c : Bool) : Word := if c then 1 else 0
    WritesReg (exec (.addi q j) s) s k j.d (s.greg k j.a + j.imm.signExtend 64) p ∧
    WritesReg (exec (.ldi q j) s) s k j.d (j.imm.signExtend 64) p ∧
    WritesReg (exec (.ldhi q j) s) s k j.d
      (BitVec.ofNat 64 ((s.greg k j.a).toNat % 2 ^ 43 + j.imm.toNat % 2 ^ 21 * 2 ^ 43)) p ∧
    (f.sub.toNat / 2 = 0 → WritesReg (exec (.cmp q f) s) s k f.d (holds (decide (x = y))) p) ∧
    (f.sub.toNat / 2 = 1 → WritesReg (exec (.cmp q f) s) s k f.d (holds (decide (x ≠ y))) p) ∧
    (f.sub.toNat / 2 = 2 → WritesReg (exec (.cmp q f) s) s k f.d (holds (decide (x.toInt < y.toInt))) p) ∧
    (f.sub.toNat / 2 = 3 → WritesReg (exec (.cmp q f) s) s k f.d (holds (decide (y.toInt ≤ x.toInt))) p) ∧
    (f.sub.toNat / 2 = 4 → WritesReg (exec (.cmp q f) s) s k f.d (holds (decide (x.toNat < y.toNat))) p) ∧
    (f.sub.toNat / 2 = 5 → WritesReg (exec (.cmp q f) s) s k f.d (holds (decide (y.toNat ≤ x.toNat))) p) ∧
    (f.sub.toNat < 32 → WritesReg (exec (.sel q f) s) s k f.d
      (if s.greg k (f.sub.setWidth 5) ≠ 0 then s.greg k f.a else s.greg k f.b) p) ∧
    (12 ≤ f.sub.toNat → TrapsWith (exec (.cmp q f) s) s k 0x02 (s.pc k)) ∧
    (32 ≤ f.sub.toNat → TrapsWith (exec (.sel q f) s) s k 0x02 (s.pc k))

/-! ### Flow and control (R118 to R121, R136, R137) -/

/-- R136, R137: the flow instructions and NOP, with the traps of RET and LOOP. -/
def Obligations.FlowInstructionsMoveThePc : Prop :=
  ∀ (q : SeqId) (f : JFmt) (s : State), s.ready q = true →
    let k := keyOf q
    let next := s.pc k + 8
    let target := s.pc k + 8 * f.imm.toInt
    let back := s.greg k 31
    WritesReg (exec (.nop q f) s) s k 0 0 next ∧
    WritesReg (exec (.br q f) s) s k 0 0 target ∧
    WritesReg (exec (.bc q f) s) s k 0 0 (if s.greg k f.a ≠ 0 then target else next) ∧
    WritesReg (exec (.call q f) s) s k 31 (BitVec.ofInt 64 next) target ∧
    (back ≠ 0 → back.toNat % 8 = 0 → WritesReg (exec (.ret q f) s) s k 0 0 back.toNat) ∧
    (back = 0 → TrapsWith (exec (.ret q f) s) s k 0x07 (s.pc k)) ∧
    (back.toNat % 8 ≠ 0 → TrapsWith (exec (.ret q f) s) s k 0x03 (s.pc k)) ∧
    (f.a ≠ 0 → WritesReg (exec (.loop q f) s) s k f.a (s.greg k f.a - 1)
      (if s.greg k f.a - 1 ≠ 0 then target else next)) ∧
    (f.a = 0 → TrapsWith (exec (.loop q f) s) s k 0x0C (s.pc k))

/-- R118 to R121, R137, R669: HALT, TRAP, an illegal opcode, and an instruction that cannot be fetched, for the causes of R84,
R256 and R259. The fetch fault's pc is the address that could not be fetched; an uncorrectable word is counted at its slice
(R252), and one whose copy is good is repaired from there and does not trap (R258). -/
def Obligations.HaltTrapAndIllegalWordsTrap : Prop :=
  ∀ (q : SeqId) (f : JFmt) (op : BitVec 6) (a : BitVec 40) (u : Bool) (s : State), s.ready q = true →
    let k := keyOf q
    TrapsWith (exec (.halt q f) s) s k 0x0F (s.pc k) ∧
    TrapsWith (exec (.trap q f) s) s k (0x80 + f.imm.toNat % 0x80) (s.pc k) ∧
    (Cheul.decode q (op ++ 0#58) = .illegalOpcode q op → TrapsWith (exec (.illegalOpcode q op) s) s k 0x01 (s.pc k)) ∧
    let o := exec (.instructionFetchFault q a u) s
    let word := a.toNat / 8 * 8
    let inst := s.sliceInst word
    let hit : State := { s with mem := { s.mem with bad := s.mem.bad ++ [a.toNat / 8] } }
    let good := s.region a.toNat = .common ∧ s.upperHalf a.toNat = false
    let lost : Prop := Completes o fun t =>
      t.rd (stateReg k) = 3 ∧ t.rd (causeReg k) = 0x0D ∧ t.pc k = a.toNat ∧ (∀ r, t.greg k r = s.greg k r) ∧
      (t.seq k).events = (s.seq k).events ∧ (t.seq k).stores = (s.seq k).stores ∧ SameSeqsBut s t k ∧
      t.rdN (Reg.PAD_ECC_uncorrected inst) = min 0xFFFFFFFF (s.rdN (Reg.PAD_ECC_uncorrected inst) + 1) ∧
      t.rdN (Reg.PAD_ERR_addr inst) = word ∧
      SameRegsBut s t [stateReg k, causeReg k, pcReg k, Reg.PAD_ECC_uncorrected inst, Reg.PAD_ERR_addr inst] ∧ SameBytes s t
    (s.region a.toNat ≠ .common → TrapsWith o s k 0x06 a.toNat) ∧
    (s.region a.toNat = .common → s.upperHalf a.toNat = true → TrapsWith o s k 0x04 a.toNat) ∧
    (good → s.serve word = .lost → lost) ∧
    (good → s.serve word ≠ .lost → u = false → Completes o fun t => t = s) ∧
    (good → s.serve word ≠ .lost → u = true → hit.serve word = .lost → lost) ∧
    (good → s.serve word ≠ .lost → u = true → hit.serve word ≠ .lost → Completes o fun t =>
      (∀ j, t.seq j = s.seq j) ∧ SameRegsBut s t [Reg.PAD_ECC_corrected inst] ∧ SameBytes s t)

/-! ### Fabric loads, stores and atomics (R79 to R83, R122, R130 to R134) -/

/-- R130, R131, R669: the checks of a fabric access without lock bits, in their order: the range of the effective address,
alignment, population, and the register region for an instruction that stores. -/
def Obligations.FabricAccessChecksTrap : Prop :=
  ∀ (q : SeqId) (f : KFmt) (s : State), s.ready q = true → f.sub = 0 →
    let k := keyOf q
    let p := s.pc k
    let ea : Int := (s.greg k f.a).toNat + f.imm.toInt
    let all (w d : Host.Outcome State Fault Refusal → Prop) (n : Nat) : Prop :=
      (n = 4 → w (exec (.ldw32 q f) s) ∧ d (exec (.stw32 q f) s)) ∧
      (n = 8 → w (exec (.ld q f) s) ∧ d (exec (.st q f) s) ∧ d (exec (.cas q f) s) ∧ d (exec (.fadd q f) s))
    let both (c n : Nat) : Prop := all (TrapsWith · s k c p) (TrapsWith · s k c p) n
    ∀ n, (ea < 0 ∨ 2 ^ 40 ≤ ea → both 0x04 n) ∧
      (0 ≤ ea → ea < 2 ^ 40 → ea.toNat % n ≠ 0 → both 0x03 n) ∧
      (0 ≤ ea → ea < 2 ^ 40 → ea.toNat % n = 0 → s.populated ea.toNat = false → both 0x04 n) ∧
      (0 ≤ ea → ea < 2 ^ 40 → ea.toNat % n = 0 → s.region ea.toNat = .regs →
        all (fun _ => True) (TrapsWith · s k 0x05 p) n)

/-- R81, R130, R131: LD and LDW32 from memory that can be corrected: g[d] takes the bytes as the sequencer sees them, its own
latest store first; nothing is stored. -/
def Obligations.LoadsReadMemory : Prop :=
  ∀ (q : SeqId) (f : KFmt) (s : State), s.ready q = true →
    let k := keyOf q
    let ea : Int := (s.greg k f.a).toNat + f.imm.toInt
    let a := ea.toNat
    let seen (n : Nat) : Nat := leNat ((List.range n).map fun i => s.ownByte k (a + i))
    let fine (n : Nat) : Prop := 0 ≤ ea ∧ ea < 2 ^ 40 ∧ a % n = 0 ∧ s.populated a = true ∧ s.region a ≠ .regs ∧
      s.lockedOut k a = false ∧ s.serve (a / 8 * 8) ≠ .lost
    let reads (o : Host.Outcome State Fault Refusal) (v : Word) : Prop := Completes o fun t =>
      Gets s t k f.d v ∧ t.pc k = s.pc k + 8 ∧ t.seq k = { s.seq k with gpr := (t.seq k).gpr } ∧ SameSeqsBut s t k ∧
      SameRegsBut s t (accessRegs s k (a / 8 * 8)) ∧ SameBytes s t
    (fine 8 → f.sub = 0 → reads (exec (.ld q f) s) (BitVec.ofNat 64 (seen 8))) ∧
    (fine 4 → f.sub = 0 → reads (exec (.ldw32 q f) s) (BitVec.ofNat 64 (seen 4))) ∧
    (fine 4 → f.sub = 1 → reads (exec (.ldw32 q f) s) ((BitVec.ofNat 32 (seen 4)).signExtend 64))

/-- R122, R131: ST and STW32 with room in the store buffer: the bytes of g[d] wait at the effective address, the sequencer
itself reads them there at once, and no byte of memory has changed yet. R81, R137: FENCE, with no lock or halt in its way, leaves
the store buffer empty. Where every buffered store is an aligned word in a cluster slice without errors, every byte then reads for
every master as the sequencer saw it. -/
def Obligations.StoresBufferAndFenceDrains : Prop :=
  (∀ (q : SeqId) (f : KFmt) (s : State), s.ready q = true → f.sub = 0 →
     let k := keyOf q
     let ea : Int := (s.greg k f.a).toNat + f.imm.toInt
     let a := ea.toNat
     let fine (n : Nat) : Prop := 0 ≤ ea ∧ ea < 2 ^ 40 ∧ a % n = 0 ∧ s.populated a = true ∧ s.region a ≠ .regs ∧
       (s.seq k).stores.length < 8
     let stores (o : Host.Outcome State Fault Refusal) (n : Nat) : Prop := Completes o fun t =>
       t.seq k = { s.seq k with stores := (s.seq k).stores ++ [⟨a, leBytes n (s.greg k f.d).toNat, none⟩] } ∧
       (∀ i, i < n → t.ownByte k (a + i) = BitVec.ofNat 8 ((s.greg k f.d).toNat / 256 ^ i)) ∧
       t.pc k = s.pc k + 8 ∧ OnlySequencer s t k
     (fine 8 → stores (exec (.st q f) s) 8) ∧ (fine 4 → stores (exec (.stw32 q f) s) 4)) ∧
  (∀ (q : SeqId) (f : JFmt) (s : State), s.ready q = true →
     let k := keyOf q
     (∀ r, s.heldFrom k r = false) →
     Completes (exec (.fence q f) s) fun t =>
       (t.seq k).stores = [] ∧ t.pc k = s.pc k + 8 ∧ (∀ r, t.greg k r = s.greg k r) ∧ SameSeqsBut s t k ∧
       ((∀ r ∈ (s.seq k).stores, (r.data.length = 4 ∨ r.data.length = 8) ∧ r.addr % r.data.length = 0 ∧
           r.addr < s.par.clusters * 0x300000) → s.mem.bad = [] →
         ∀ a, t.byte a = s.ownByte k a))

/-- R83, R131: CAS and FADD on a word of memory that needs no repair, with an empty store buffer: g[d] takes the old word, the
word at the effective address takes its new value, and no other byte changes. -/
def Obligations.AtomicsReadThenWriteOneWord : Prop :=
  ∀ (q : SeqId) (f : KFmt) (s : State), s.ready q = true → f.sub = 0 →
    let k := keyOf q
    let ea : Int := (s.greg k f.a).toNat + f.imm.toInt
    let a := ea.toNat
    let old : Word := BitVec.ofNat 64 (s.word a 8)
    0 ≤ ea → ea < 2 ^ 40 → a % 8 = 0 → s.populated a = true → s.region a ≠ .regs → s.lockedOut k a = false →
    s.writeLockedOut k a = false → s.serve a = .plain → (s.region a = .dram → s.dramDrops (s.loc a) = false) →
    (s.seq k).stores = [] →
    let atomic (o : Host.Outcome State Fault Refusal) (new : Word) : Prop := Completes o fun t =>
      Gets s t k f.d old ∧ t.word a 8 = new.toNat ∧ SameBytesBut s t a 8 ∧ t.pc k = s.pc k + 8 ∧ SameSeqsBut s t k ∧
      (s.region a ≠ .dram → SameRegsBut s t (accessRegs s k a))
    atomic (exec (.cas q f) s) (if old = s.greg k f.d then s.greg k f.b else old) ∧
    atomic (exec (.fadd q f) s) (old + s.greg k f.b)

/-! ### Engine queues (R138 to R143) -/

/-- R140: ISSUE with no store waiting. With room in the queue the descriptor enters it and g[d] takes its ticket, the count of
descriptors accepted; a full queue writes −1 and takes nothing. A misaligned address and one outside paddock trap. -/
def Obligations.IssueTakesATicket : Prop :=
  ∀ (q : SeqId) (f : PFmt) (s : State) (inst : Nat), s.ready q = true → f.cls.toNat < 8 → f.rsv = 0 →
    let k := keyOf q
    let a := (s.greg k f.a).toNat
    let key := qKey f.cls.toNat inst f.queue.toNat
    let old := s.engQ key
    let ticket := (old.accepted + 1) % 2 ^ 32
    s.engineInst k f = some inst → (s.seq k).stores = [] →
    (a % 8 ≠ 0 → TrapsWith (exec (.issue q f) s) s k 0x03 (s.pc k)) ∧
    (a % 8 = 0 → s.inPaddock a = false → TrapsWith (exec (.issue q f) s) s k 0x04 (s.pc k)) ∧
    (a % 8 = 0 → s.inPaddock a = true → old.held < 16 → Completes (exec (.issue q f) s) fun t =>
      Gets s t k f.d (BitVec.ofNat 64 ticket) ∧ t.pc k = s.pc k + 8 ∧
      t.engQ key = ⟨ticket, old.done, old.entries ++ [⟨a, ticket, k, [], false, false⟩]⟩ ∧
      (∀ j, j ≠ key → t.engQ j = s.engQ j) ∧ SameSeqsBut s t k ∧ SameRegsBut s t [pcReg k] ∧ SameBytes s t) ∧
    (a % 8 = 0 → s.inPaddock a = true → 16 ≤ old.held →
      WritesReg (exec (.issue q f) s) s k f.d (BitVec.allOnes 64) (s.pc k + 8))

/-- R143: POLL writes the queue's done count, the descriptors it holds and its engine's state, at their bits; an engine that
the sequencer may not use traps with cause 0x09 (R138). -/
def Obligations.PollWritesTheStatusWord : Prop :=
  ∀ (q : SeqId) (f : PFmt) (s : State), s.ready q = true → f.cls.toNat < 8 → f.rsv = 0 →
    let k := keyOf q
    (∀ inst, s.engineInst k f = some inst →
      let key := qKey f.cls.toNat inst f.queue.toNat
      WritesReg (exec (.poll q f) s) s k f.d
        (BitVec.ofNat 64 ((s.engQ key).done + (s.engQ key).held * 2 ^ 32 + s.engineState f.cls.toNat inst key * 2 ^ 40))
        (s.pc k + 8)) ∧
    (s.engineInst k f = none → TrapsWith (exec (.poll q f) s) s k 0x09 (s.pc k))

/-! ### Events and time (R72 to R77, R112, R144 to R154) -/

/-- R75, R144, R145: a WAIT whose condition is met completes with the masked flags that are set, and clears them in modes 2
and 3 (e8 of the marshal stays while the clamp log holds unread entries, R102); one whose condition is not met leaves the
sequencer asleep at it; one that nothing could end traps. A WAIT of the marshal on e0 is not this statement's. R75, R151: a
sleeping WAIT completes once its condition is met, and a WAIT or an AT with a timeout ends on it with 0, unless its condition
is met by then, on which it completes (R75, R76). R112: the marshal's
WAIT on e0, with e0 set, takes the frame checkpoint: the address after the WAIT, the general registers and the event flags as
it leaves them, and the period. -/
def Obligations.WaitsCompleteSleepAndWake : Prop :=
  (∀ (q : SeqId) (f : TFmt) (s : State), s.ready q = true → f.mode.toNat < 4 → f.rsv = 0 →
     let k := keyOf q
     let mask := s.greg k f.a
     let ev := (s.seq k).events
     let hit := ev &&& mask
     let met := if f.mode.toNat % 2 = 0 then hit ≠ 0 else hit = mask
     (k = 0 → mask.getLsbD 0 = false) →
     (met → Completes (exec (.wait q f) s) fun t =>
       Gets s t k f.d hit ∧ t.pc k = s.pc k + 8 ∧ OnlySequencer s t k ∧
       (t.seq k).events = (if 2 ≤ f.mode.toNat then (ev &&& ~~~hit) ||| (ev &&& s.heldFlags k) else ev)) ∧
     (¬ met → ¬ (mask = 0 ∧ s.greg k f.b = 0) → Completes (exec (.wait q f) s) fun t =>
       t.seq k = { s.seq k with waiting := some (.flags mask f.mode.toNat f.d (s.greg k f.b != 0)) } ∧ t.pc k = s.pc k ∧
       OnlySequencer s t k) ∧
     (f.mode.toNat % 2 = 0 → mask = 0 → s.greg k f.b = 0 → TrapsWith (exec (.wait q f) s) s k 0x0B (s.pc k))) ∧
  (∀ (q : SeqId) (s : State) (mask : BitVec 64) (mode : Nat) (d : BitVec 5) (dom target : Nat), s.hasSeq q = true →
     let k := keyOf q
     let ev := (s.seq k).events
     let hit := ev &&& mask
     let wakes (o : Host.Outcome State Fault Refusal) (v : Word) : Prop := Completes o fun t =>
       Gets s t k d v ∧ t.pc k = s.pc k + 8 ∧ (t.seq k).waiting = none ∧ OnlySequencer s t k
     (s.seq k).bitten = false →
     (s.asleep k = some (.flags mask mode d true) → waitMet ev mask mode = false → wakes (exec (.waitTimeout q) s) 0) ∧
     (s.asleep k = some (.flags mask mode d true) → waitMet ev mask mode = true → (k = 0 → mask.getLsbD 0 = false) →
       wakes (exec (.waitTimeout q) s) hit) ∧
     (s.asleep k = some (.time dom target d true) → wakes (exec (.atTimeout q) s)
       (if target ≤ s.domainWord dom then BitVec.ofNat 64 (s.domainWord dom) else 0)) ∧
     (∀ timed, s.asleep k = some (.flags mask mode d timed) → waitMet ev mask mode = true → (k = 0 → mask.getLsbD 0 = false) →
       wakes (exec (.waitComplete q) s) hit)) ∧
  (∀ (f : TFmt) (s : State), s.ready .marshal = true → f.mode.toNat < 4 → f.rsv = 0 →
     let mask := s.greg 0 f.a
     let ev := (s.seq 0).events
     mask.getLsbD 0 = true → ev.getLsbD 0 = true → waitMet ev mask f.mode.toNat = true →
     Completes (exec (.wait .marshal f) s) fun t =>
       t.sq.ckpt = some ⟨s.pc 0 + 8, (t.seq 0).gpr, (t.seq 0).events, s.rdN Reg.FRAME_COUNT_count⟩ ∧
       t.rdN Reg.MSH_CKPT_frame = s.rdN Reg.FRAME_COUNT_count ∧ Gets s t 0 f.d (ev &&& mask) ∧ t.pc 0 = s.pc 0 + 8 ∧
       SameSeqsBut s t 0 ∧ SameRegsBut s t [pcReg 0, Reg.MSH_CKPT_frame] ∧ SameBytes s t)

/-- R146 to R148: SIGNAL sends its flags to the sequencer that its target names and moves no flag yet, its delivery sets them
there alone, and CLEAR returns the named flags that were set and clears them (e8 aside, R102). -/
def Obligations.SignalDeliversAndClearClears : Prop :=
  ∀ (q : SeqId) (f : TFmt) (s : State), s.ready q = true → f.mode = 0 → f.rsv = 0 →
    let k := keyOf q
    let m := s.greg k f.a
    let ev := (s.seq k).events
    (∀ ts, m &&& ~~~softMask = 0 → s.signalTargets k (s.greg k f.b) = some ts → (s.seq k).stores = [] →
      Completes (exec (.signal q f) s) fun t =>
        t.sq.signals = s.sq.signals ++ ts.map (fun i => ⟨i, m⟩) ∧ (∀ j, t.seq j = s.seq j) ∧ t.pc k = s.pc k + 8 ∧
        SameRegsBut s t [pcReg k] ∧ SameBytes s t) ∧
    (m &&& ~~~softMask ≠ 0 → TrapsWith (exec (.signal q f) s) s k 0x08 (s.pc k)) ∧
    Completes (exec (.clear q f) s) (fun t =>
      Gets s t k f.d (ev &&& m) ∧ (t.seq k).events = (ev &&& ~~~m) ||| (ev &&& s.heldFlags k) ∧
      t.pc k = s.pc k + 8 ∧ OnlySequencer s t k) ∧
    (∀ fl rest, s.sq.signals = ⟨k, fl⟩ :: rest → Completes (exec (.signalDelivery q) s) fun t =>
      t.seq k = { s.seq k with events := ev ||| fl } ∧ t.sq.signals = rest ∧ SameSeqsBut s t k ∧
      SameRegsBut s t [Reg.HOST_IRQ_cause] ∧ SameBytes s t)

/-- R149 to R154: an AT at or past its target completes with the domain's datum word, one before it sleeps, a sleeping AT
completes once `dt` ticks bring its domain to the target, and STAMP writes the domain's datum word. -/
def Obligations.AtAndStampFollowTheDatums : Prop :=
  ∀ (q : SeqId) (f : TFmt) (s : State) (dt : Nat), s.ready q = true → f.rsv = 0 →
    let k := keyOf q
    let target := (s.greg k f.a).toNat
    let now := s.domainWord f.mode.toNat
    let p := s.pc k + 8
    (f.mode.toNat < 5 → WritesReg (exec (.stamp q f) s) s k f.d (BitVec.ofNat 64 now) p) ∧
    (f.mode.toNat < 4 → 999999999 < target % 2 ^ 30 → TrapsWith (exec (.atTime q f) s) s k 0x0B (s.pc k)) ∧
    (f.mode.toNat < 4 → target % 2 ^ 30 ≤ 999999999 → target ≤ now → Completes (exec (.atTime q f) s) fun t =>
      Gets s t k f.d (BitVec.ofNat 64 now) ∧ t.pc k = p ∧ OnlySequencer s t k) ∧
    (f.mode.toNat < 4 → target % 2 ^ 30 ≤ 999999999 → now < target → Completes (exec (.atTime q f) s) fun t =>
      t.seq k = { s.seq k with waiting := some (.time f.mode.toNat target f.d (s.greg k f.b != 0)) } ∧ t.pc k = s.pc k ∧
      OnlySequencer s t k) ∧
    (∀ u : State, ∀ dom w d timed, u.hasSeq q = true →
      let v := u.advance dt
      v.asleep k = some (.time dom w d timed) → (v.seq k).bitten = false → w ≤ v.domainWord dom →
      Completes (exec (.atComplete dt q) u) fun t =>
        Gets v t k d (BitVec.ofNat 64 (v.domainWord dom)) ∧ t.pc k = v.pc k + 8 ∧ (t.seq k).waiting = none ∧
        OnlySequencer v t k ∧ SameBytes u t)

/-! ### Fields (R86 to R98, R155 to R159) -/

/-- R90, R91, R155: SETF puts g[b] through the checker: g30 takes the status and g[d] the applied value, for a handle that
names no field, for a read-only field, for a W1C field, and against minimum, maximum and step. Where d is g30 the status
stands (log 24). -/
def Obligations.SetfWritesTheAppliedValueAndStatus : Prop :=
  ∀ (q : SeqId) (f : KFmt) (s : State), s.ready q = true → f.sub.toNat < 2 → (f.sub = 1 → f.imm.toNat < 2 ^ 32) →
    let k := keyOf q
    let h := if f.sub = 0 then (s.greg k f.a).toNat else f.imm.toNat
    let v := (s.greg k f.b).toInt
    let gives (applied : Int) (status : Nat) : Prop := Completes (exec (.setf q f) s) fun t =>
      t.greg k 30 = BitVec.ofNat 64 status ∧ (f.d ≠ 30 → t.greg k f.d = if f.d = 0 then 0 else BitVec.ofInt 64 applied)
    (s.seq k).stores = [] →
    (fieldOf s.par h = none → gives 0 5) ∧
    ∀ x, fieldOf s.par h = some x →
      (x.row.access = .ro ∨ x.row.access = .rc → gives (s.accepted h) 4) ∧
      (x.row.access = .w1c → gives v 0) ∧
      (x.row.access = .rw ∨ x.row.access = .wo → ringOf h = none → s.fecRefused h v = false →
        let lo := s.minOf x
        let hi := s.maxOf x
        let near := lo + roundHalfUp (v - lo) x.row.step * x.row.step
        (v < lo → gives lo 1) ∧ (lo ≤ v → hi < v → gives hi 2) ∧
        (lo ≤ v → v ≤ hi → gives near (if near = v then 0 else 3)))

/-- R13 to R18, R98: a value that SETF puts into an RW field with status 0 stands as accepted at once, and in effect at once
only where the field applies NOW; else it waits for the next occurrence of its apply point, or past the latch point for the
one after it (FRAME). For fields of the governor, trust, arbiter, decoder, encoder and slice blocks nothing else moves. R92,
R99 to R101: a SETF of a handle that names no field writes one entry into the clamp log: its 32 bytes stand at ring position n
mod 256, the head goes on, e8 of the marshal is set, and a 257th unread entry moves the tail and counts. -/
def Obligations.AcceptedValuesWaitAndClampsAreLogged : Prop :=
  (∀ (q : SeqId) (f : KFmt) (s : State) (x : Field), s.ready q = true → f.sub = 0 → (s.seq (keyOf q)).stores = [] →
     let k := keyOf q
     let h := (s.greg k f.a).toNat
     let v := (s.greg k f.b).toInt
     let old := s.cell h
     fieldOf s.par h = some x → x.row.access = .rw → h / 2 ^ 24 ∈ [0x05, 0x06, 0x08, 0x12, 0x13, 0x30] →
     s.judge h x v = ⟨0, v⟩ → Completes (exec (.setf q f) s) fun t =>
       t.cell h = (match x.row.apply with
         | .now => ⟨v, v, none, none⟩
         | .frame => if s.latched then ⟨v, old.eff, old.nxt, some v⟩ else ⟨v, old.eff, some v, old.aft⟩
         | .band | .rest | .boot => ⟨v, old.eff, some v, old.aft⟩) ∧
       t.pc k = s.pc k + 8 ∧ t.seq k = { s.seq k with gpr := (t.seq k).gpr } ∧
       (∀ r, r ≠ f.d → r ≠ 30 → t.greg k r = s.greg k r) ∧ SameSeqsBut s t k ∧ SameRegsBut s t [h, pcReg k] ∧ SameBytes s t) ∧
  (∀ (q : SeqId) (f : KFmt) (s : State), s.ready q = true → f.sub = 0 → (s.seq (keyOf q)).stores = [] →
     let k := keyOf q
     let h := (s.greg k f.a).toNat
     let n := s.rdN Reg.CLOG_IDX_head
     let full := s.clogUnread = 256
     let src := if k = 0 then 0xFE else k - 1
     fieldOf s.par h = none → Completes (exec (.setf q f) s) fun t =>
       Tab.getBytes t.sq.clog (32 * (n % 256)) 32 =
         leBytes 4 h ++ leBytes 1 5 ++ leBytes 1 src ++ leBytes 2 n ++ leBytes 8 (s.greg k f.b).toNat ++ leBytes 8 0 ++
         leBytes 8 s.stampWord ∧
       t.rdN Reg.CLOG_IDX_head = (n + 1) % 65536 ∧ (t.seq 0).events.getLsbD 8 = true ∧
       (full → t.rdN Reg.CLOG_IDX_tail = (s.rdN Reg.CLOG_IDX_tail + 1) % 65536 ∧
         t.rdN Reg.CLOG_OVF_count = min 0xFFFFFFFF (s.rdN Reg.CLOG_OVF_count + 1)) ∧
       SameRegsBut s t ([Reg.CLOG_IDX_head, Reg.HOST_IRQ_cause, pcReg k] ++
         if full then [Reg.CLOG_IDX_tail, Reg.CLOG_OVF_count] else []) ∧ SameBytes s t)

/-- R98, R156: GETF writes the attribute that its selector names and the status; a read of an RC field clears it, and a read
of a WO field returns zero. The bounds of the clamp log's tail are those that R102 sets. Where d is g30 the status stands
(log 24). -/
def Obligations.GetfReturnsTheAttribute : Prop :=
  ∀ (q : SeqId) (f : KFmt) (s : State) (x : Field), s.ready q = true → f.sub.toNat < 2 →
    (f.sub = 1 → f.imm.toNat < 2 ^ 32) →
    let k := keyOf q
    let h := if f.sub = 0 then (s.greg k f.a).toNat else f.imm.toNat
    let sel := (s.greg k f.b).toNat % 256
    let gives (v : Int) (status : Nat) (P : State → Prop) : Prop := Completes (exec (.getf q f) s) fun t =>
      t.greg k 30 = BitVec.ofNat 64 status ∧ (f.d ≠ 30 → t.greg k f.d = if f.d = 0 then 0 else BitVec.ofInt 64 v) ∧
      (∀ r, r ≠ f.d → r ≠ 30 → t.greg k r = s.greg k r) ∧ t.pc k = s.pc k + 8 ∧ SameSeqsBut s t k ∧ SameBytes s t ∧ P t
    let still (t : State) : Prop := OnlyGprAndPc s t k
    let cleared (t : State) : Prop :=
      if x.row.access = .rc then
        (x.handle ≠ pcReg k → t.cell x.handle = ⟨0, 0, none, none⟩) ∧ SameRegsBut s t [x.handle, pcReg k]
      else still t
    fieldOf s.par h = some x →
    (sel = 0 → gives (if x.row.access = .wo then 0 else s.accepted x.handle) 0 cleared) ∧
    (sel = 1 → gives (if x.row.access = .wo then 0 else s.inEffect h) 0 cleared) ∧
    (sel = 2 → gives (s.minOf x) 0 still) ∧ (sel = 3 → gives (s.maxOf x) 0 still) ∧
    (sel = 4 → gives x.row.step 0 still) ∧ (sel = 5 → gives (x.row.rst s.par x.inst x.rep) 0 still) ∧
    (sel = 6 → gives (x.row.access.code + 8 * x.row.apply.code + 64 * (if x.row.signed then 1 else 0) + 128 * x.row.width) 0
      still) ∧
    (h = Reg.CLOG_IDX_tail → (sel = 2 → gives ((s.rd Reg.CLOG_IDX_head - 256) % 65536) 0 still) ∧
      (sel = 3 → gives (s.rd Reg.CLOG_IDX_head) 0 still))

/-- R95 to R97, R157, R159: SETFV traps on its count, its alignment and its bounds, in this order; else, with a table that can
be read and with no lock or halt in its way, it completes: the entries go through the checker in order, g30 takes the highest
status and g[d] how many entries had one, the pc goes on, and nothing moves but what the read and the checker move. -/
def Obligations.SetfvChecksATable : Prop :=
  ∀ (q : SeqId) (f : KFmt) (s : State), s.ready q = true → (s.seq (keyOf q)).stores = [] →
    let k := keyOf q
    let a := (s.greg k f.a).toNat
    let n := (s.greg k f.b).toNat
    (65535 < n → TrapsWith (exec (.setfv q f) s) s k 0x0B (s.pc k)) ∧
    (n ≤ 65535 → a % 16 ≠ 0 → TrapsWith (exec (.setfv q f) s) s k 0x03 (s.pc k)) ∧
    (n ≤ 65535 → a % 16 = 0 → s.paddockRange a (16 * n) = false →
      TrapsWith (exec (.setfv q f) s) s k 0x04 (s.pc k)) ∧
    (n ≤ 65535 → a % 16 = 0 → s.paddockRange a (16 * n) = true → s.readable a (16 * n) → (∀ r, s.heldFrom k r = false) →
      let entries := (List.range n).map fun i => (s.word (a + 16 * i) 4, signed 64 (s.word (a + 16 * i + 8) 8))
      let u := (s.readMem (.seq k) a (16 * n)).2
      let z := (u.checkTable (srcOf k) entries).2
      let found := (u.checkTable (srcOf k) entries).1
      Completes (exec (.setfv q f) s) fun t =>
        t.greg k 30 = BitVec.ofNat 64 found.2 ∧
        (f.d ≠ 30 → t.greg k f.d = if f.d = 0 then 0 else BitVec.ofNat 64 found.1) ∧
        (∀ r, r ≠ f.d → r ≠ 30 → t.greg k r = z.greg k r) ∧ t.pc k = z.pc k + 8 ∧ OnlyGprAndPc z t k ∧
        SameRegsBut s u (paddockRegs s (seqClass k)) ∧ SameBytes s u)

/-! ### Device instructions (R164 to R171), the log (R167, R168) -/

/-- R160, R164 to R166, R515: COMMIT traps on a cluster sequencer; of the marshal it writes the period in which it takes
effect, and stands for that period; a header that is no loaded frame program is answered with 0 and commits nothing. Both rows
execute the sub value of their word. -/
def Obligations.CommitTakesEffectInItsPeriod : Prop :=
  ∀ (f : KFmt) (s : State), s.ready .marshal = true → (s.seq 0).stores = [] → ∀ c ∈ [Instr.commitLayerSet, Instr.commitFrameProgram],
    let a := (s.greg 0 f.a).toNat
    let period := s.rdN Reg.FRAME_COUNT_count + (if s.latched then 2 else 1)
    let o := exec (c .marshal f) s
    (∀ n, s.ready (.cluster n) = true → f.sub.toNat < 2 → TrapsWith (exec (c (.cluster n) f) s) s (n + 1) 0x0A (s.pc (n + 1))) ∧
    (2 ≤ f.sub.toNat → TrapsWith o s 0 0x02 (s.pc 0)) ∧
    (f.sub = 0 → a % 64 ≠ 0 → TrapsWith o s 0 0x03 (s.pc 0)) ∧
    (f.sub = 1 → a % 128 ≠ 0 → TrapsWith o s 0 0x03 (s.pc 0)) ∧
    (f.sub = 0 → a % 64 = 0 → Completes o fun t =>
      let slot := if s.latched then Reg.FT_COMMIT_after else Reg.FT_COMMIT_next
      Gets s t 0 f.d (BitVec.ofNat 64 period) ∧ t.rdN slot = a % 2 ^ 40 ∧ t.pc 0 = s.pc 0 + 8 ∧ SameSeqsBut s t 0 ∧
      SameRegsBut s t [pcReg 0, slot] ∧ SameBytes s t) ∧
    (f.sub = 1 → a % 128 = 0 → (∀ i, s.imageAt a = some i → i.kind ≠ 1) → WritesReg o s 0 f.d 0 (s.pc 0 + 8)) ∧
    (f.sub = 1 → a % 128 = 0 → (∃ i, s.imageAt a = some i ∧ i.kind = 1) → Completes o fun t =>
      Gets s t 0 f.d (BitVec.ofNat 64 period) ∧
      t.frame = (if s.latched then { s.frame with progAfter := a } else { s.frame with progNext := a }) ∧
      t.rdN Reg.MSH_PROG_pending = (if t.frame.progNext = 0 then t.frame.progAfter else t.frame.progNext) ∧
      t.pc 0 = s.pc 0 + 8 ∧ SameSeqsBut s t 0 ∧ SameRegsBut s t [pcReg 0, Reg.MSH_PROG_pending] ∧ SameBytes s t)

/-- R167, R168, R567, R568: LOG writes a program record: its level, its sequencer, its code and its value, at the log's head;
g[d] takes the record's number. It raises no fault and is no first record. -/
def Obligations.LogWritesAProgramRecord : Prop :=
  ∀ (q : SeqId) (f : KFmt) (s : State), s.ready q = true → f.sub.toNat < 3 → f.imm.toNat < 2 ^ 32 →
    let k := keyOf q
    let n := s.rdN Reg.FM_LOG_head
    let unit := if k = 0 then 0x01 else 0x20
    Completes (exec (.log q f) s) fun t =>
      Gets s t k f.d (BitVec.ofNat 64 n) ∧ t.pc k = s.pc k + 8 ∧ t.rdN Reg.FM_LOG_head = (n + 1) % 2 ^ 32 ∧
      Tab.getBytes t.fm.ring (32 * (n % 1024)) 32 =
        leBytes 4 n ++ leBytes 1 (0x80 + f.sub.toNat) ++ leBytes 1 unit ++ leBytes 2 ((k - 1) % 4096) ++ leBytes 2 0xFFFF ++
        [0, 0] ++ leBytes 4 f.imm.toNat ++ leBytes 8 (s.greg k f.a).toNat ++ leBytes 8 s.stampWord ∧
      t.fm.detected = s.fm.detected ∧ SameSeqsBut s t k ∧
      SameRegsBut s t [pcReg k, Reg.FM_LOG_head, Reg.FM_LOG_tail, Reg.FM_LOG_overwritten, Reg.HOST_IRQ_cause] ∧ SameBytes s t

/-- R160, R169 to R171: GEAR by its sub value, the link forms of the marshal alone: the gear in effect and the gear decided,
and a request, which covers the next period, or at or after the latch point the one after it; one at or below the gear decided
changes nothing. The three rows execute the sub value of their word. -/
def Obligations.GearQueriesAndRequests : Prop :=
  ∀ (q : SeqId) (f : KFmt) (s : State), s.ready q = true →
    ∀ c ∈ [Instr.gearQueryLink, Instr.gearRequest, Instr.gearQueryCluster],
    let k := keyOf q
    let a := (s.greg k f.a).toNat
    let b := (s.greg k f.b).toNat
    let p := s.pc k + 8
    let o := exec (c q f) s
    let two (now next : Nat) : Word := BitVec.ofNat 64 (now % 4 + next % 4 * 16)
    let now := s.rdN (Reg.LINK_GEAR_gear a)
    (3 ≤ f.sub.toNat → TrapsWith o s k 0x02 (s.pc k)) ∧
    (k ≠ 0 → f.sub.toNat < 2 → TrapsWith o s k 0x0A (s.pc k)) ∧
    (k = 0 → f.sub = 0 → a < s.par.tileLinks → WritesReg o s k f.d (two now (s.rdN (Reg.LINK_GEAR_next a))) p) ∧
    (k = 0 → f.sub.toNat < 2 → s.par.tileLinks ≤ a → TrapsWith o s k 0x0B (s.pc k)) ∧
    (k = 0 → f.sub = 1 → a < s.par.tileLinks → 3 < b → TrapsWith o s k 0x0B (s.pc k)) ∧
    (k = 0 → f.sub = 1 → a < s.par.tileLinks → b ≤ 3 → Completes o fun t =>
      Gets s t k f.d (two now (s.gearAnswer a b)) ∧ t.pc k = p ∧
      t.lnk a = (if b ≤ s.rdN (Reg.LINK_GEAR_next a) then s.lnk a
        else if s.latched then { s.lnk a with reqAfter := max (s.lnk a).reqAfter b }
        else { s.lnk a with reqNext := max (s.lnk a).reqNext b }) ∧
      (∀ n, n ≠ a → t.lnk n = s.lnk n) ∧ SameSeqsBut s t k ∧ SameRegsBut s t [pcReg k] ∧ SameBytes s t) ∧
    (f.sub = 2 → s.par.active ≤ a → TrapsWith o s k 0x0B (s.pc k)) ∧
    (∀ i, f.sub = 2 → a < s.par.active → s.physOf a = some i →
      WritesReg o s k f.d (two (s.clockOf i) (if s.latched then (s.clu i).gearNext else s.clockOf i)) p)

/-- R64, R113, R569: a lockstep error of the running marshal discards the result, halts it and raises a fault; MARSHAL_RESUME
restores the checkpoint's registers and address, and its flags with every flag the hardware has set since. -/
def Obligations.LockstepErrorAndResume : Prop :=
  ∀ (s : State) (c : Checkpoint), s.stopped = false →
    (s.rd Reg.MSH_STATUS_state = 1 → Completes (exec .lockstepError s) fun t =>
      t.rd Reg.MSH_STATUS_state = 2 ∧ t.rd Reg.MSH_STATUS_lockstep = 0 ∧ t.sq.restartDue = true ∧
      (∃ x, t.fm.detected = s.fm.detected ++ [x] ∧ x.res = .marshal ∧ x.cause = 0x0020) ∧
      (∀ k, t.seq k = s.seq k) ∧ SameRegsBut s t [Reg.MSH_STATUS_state, Reg.MSH_STATUS_lockstep] ∧ SameBytes s t) ∧
    (s.sq.restartDue = true → s.fm.standing.contains .marshal = false → s.sq.ckpt = some c →
      Completes (exec .marshalResume s) fun t =>
        t.rd Reg.MSH_STATUS_state = 1 ∧ t.rd Reg.MSH_STATUS_lockstep = 1 ∧ t.pc 0 = c.pc ∧
        t.seq 0 = { s.seq 0 with gpr := c.gpr, events := c.events ||| s.sq.hwSince, waiting := none, lock := none, bitten := false } ∧
        t.rdN Reg.MSH_STATUS_restarts = min 0xFFFF (s.rdN Reg.MSH_STATUS_restarts + 1) ∧ SameSeqsBut s t 0 ∧
        SameRegsBut s t [Reg.MSH_STATUS_state, Reg.MSH_STATUS_lockstep, Reg.MSH_PC_pc, Reg.MSH_STATUS_restarts] ∧ SameBytes s t)

/-! ### The host interface (R8, R93, R495, R624 to R646) -/

/-- R93, R630 to R632: a host write of a register is checked field by field: fields written back as they read are skipped, and
CHK_HOST names the status of the one that was altered; a write that reaches no field leaves status 5; a misaligned one is
discarded and counted. -/
def Obligations.RegisterWritesAreCheckedFieldByField : Prop :=
  ∀ (s : State) (off : Nat) (eight : Bool) (val : BitVec 64), s.hostUp = true → off < 0x4000000 →
    let n := if eight then 8 else 4
    let v := val.toNat % 2 ^ (8 * n)
    let o := exec (.fieldWrite off eight val) s
    let plain := off % n = 0 ∧ msixOffset off = false ∧ pbaOffset off = false ∧ (off < 0x1000000 ∨ 0x2000000 ≤ off)
    let same (u : State) (l : List (Field × Int)) : Prop := ∀ x ∈ l, u.unchanged x.1 x.2 (8 * n) v = true
    let chk := [Reg.CHK_HOST_status, Reg.CHK_HOST_handle]
    (off % n ≠ 0 → Completes o fun t => t.rdN Reg.HOST_CNT_bar0_bad = min 0xFFFFFFFF (s.rdN Reg.HOST_CNT_bar0_bad + 1) ∧
      SameRegsBut s t [Reg.HOST_CNT_bar0_bad] ∧ t = { s with regs := t.regs }) ∧
    (plain → s.blockOut off = true ∨ s.fieldsAt off eight = [] → Completes o fun t =>
      t.rd Reg.CHK_HOST_status = 5 ∧ t.rd Reg.CHK_HOST_handle = 0 ∧
      t.rdN Reg.CLOG_IDX_head = (s.rdN Reg.CLOG_IDX_head + 1) % 65536 ∧ SameBytes s t ∧
      SameRegsBut s t (chk ++ [Reg.CLOG_IDX_head, Reg.CLOG_IDX_tail, Reg.CLOG_OVF_count, Reg.HOST_IRQ_cause])) ∧
    (plain → s.blockOut off = false → s.fieldsAt off eight ≠ [] → same s (s.fieldsAt off eight) → Completes o fun t =>
      t.rd Reg.CHK_HOST_status = 0 ∧ t.rd Reg.CHK_HOST_handle = 0 ∧ SameRegsBut s t chk ∧ t = { s with regs := t.regs }) ∧
    (∀ pre x p post, plain → s.blockOut off = false → s.fieldsAt off eight = pre ++ (x, p) :: post → same s pre →
      s.unchanged x p (8 * n) v = false →
      let r := (s.checkValue 0xFF x.handle (writtenValue x p (8 * n) v)).1
      let u := (s.checkValue 0xFF x.handle (writtenValue x p (8 * n) v)).2
      same u post → Completes o fun t =>
        t.rdN Reg.CHK_HOST_status = r.status ∧ t.rdN Reg.CHK_HOST_handle = (if r.status = 0 then 0 else x.handle) ∧
        SameRegsBut u t chk ∧ t = { u with regs := t.regs })

/-- R90, R93, R94: each command that is a host write of one field hands the checker that field and its value, unless it is
written as it reads; CHK_HOST then holds the status. -/
def Obligations.HostFieldCommandsReachTheChecker : Prop :=
  ∀ (s : State) (p c n d : Nat) (b : Bool) (w2 : BitVec 2) (w10 : BitVec 10) (w16 : BitVec 16) (w17 : BitVec 17) (w32 : BitVec 32),
    d < 2 → s.hostUp = true →
    let one := if b then 1 else 0
    ∀ x ∈ ([(.mshDoorbellWrite w16, Reg.MSH_DOORBELL_events, w16.toNat), (.clogIdxTailWrite w16, Reg.CLOG_IDX_tail, w16.toNat),
      (.clogClearOvf b, Reg.CLOG_CTRL_clear_ovf, one), (.portEnableWrite p b, Reg.PORT_CTRL_enable p, one),
      (.portSplitWrite p b, Reg.PORT_CTRL_split p, one), (.clipStop w2, Reg.CLIP_CTRL_stop, w2.toNat),
      (.arbHoldLimitWrite w16, Reg.ARB_HOLD_limit, w16.toNat), (.trvCtrlRelease c w16, Reg.TRV_CTRL_release c, w16.toNat),
      (.guardCtrlRelease w32, Reg.GUARD_CTRL_release, w32.toNat), (.corrCtrlSwap b, Reg.CORR_CTRL_swap, one),
      (.laneAdaptRetry n b, Reg.LANE_ADAPT_retry n, one), (.svcSlotsTableHiWrite n w32, Reg.SVC_SLOTS_table_hi n, w32.toNat),
      (.datumSelectWrite b, Reg.DATUM_CTRL_select, one), (.datumStepGo d b, Reg.DATUM_step_go d, one),
      (.ptpRxTailWrite p w16, Reg.PTP_RX_tail p, w16.toNat), (.ptpTxSend p w16, Reg.PTP_TX_send p, w16.toNat),
      (.tsqPop p b, Reg.TSQ_pop p, one), (.ftRestEnter b, Reg.FT_REST_enter, one), (.ftRestExit b, Reg.FT_REST_exit, one),
      (.fmLogTailWrite w32, Reg.FM_LOG_tail, w32.toNat), (.fmLogClearOvf b, Reg.FM_LOG_clear_ovf, one),
      (.fmCtrlWarmReset b, Reg.FM_CTRL_warm_reset, one), (.fmEngineTarget w17, Reg.FM_ENGINE_target, w17.toNat),
      (.fmFirstClear b, Reg.FM_FIRST_clear, one), (.nvmHostRead, Reg.NVM_CMD_op, 1), (.nvmHostWrite, Reg.NVM_CMD_op, 2),
      (.nvmHostTallyInc, Reg.NVM_CMD_op, 3), (.nvmHostTallyRead, Reg.NVM_CMD_op, 4), (.nvmHostUnlock b, Reg.NVM_UNLOCK_go, one),
      (.nvmHostLock b, Reg.NVM_UNLOCK_lock, one), (.rstCtrlWarm b, Reg.RST_CTRL_warm, one), (.rstBootGo b, Reg.RST_BOOT_go, one),
      (.refCtrlSelectWrite b, Reg.REF_CTRL_select, one), (.hostBar2BaseWrite w10, Reg.HOST_BAR2_base, w10.toNat)] :
        List (Instr × Nat × Nat)),
    ∀ f, fieldOf s.par x.2.1 = some f → s.blockOut f.offset = false → f.row.signed = false →
      let u := (s.checkValue 0xFF x.2.1 x.2.2).2
      let status := (s.checkValue 0xFF x.2.1 x.2.2).1.status
      let chk := [Reg.CHK_HOST_status, Reg.CHK_HOST_handle]
      (s.unchanged f 0 f.row.width x.2.2 = true → Completes (exec x.1 s) fun t =>
        t.rd Reg.CHK_HOST_status = 0 ∧ t.rd Reg.CHK_HOST_handle = 0 ∧ SameRegsBut s t chk ∧ t = { s with regs := t.regs }) ∧
      (s.unchanged f 0 f.row.width x.2.2 = false → Completes (exec x.1 s) fun t =>
        t.rdN Reg.CHK_HOST_status = status ∧ t.rdN Reg.CHK_HOST_handle = (if status = 0 then 0 else x.2.1) ∧
        SameRegsBut u t chk ∧ t = { u with regs := t.regs })

/-- R78, R102, R105, R507, R519, R567, R570, R571, R608, R614, R634: what host writes of control fields do at once. -/
def Obligations.HostControlWritesAct : Prop :=
  ∀ (s : State) (v : BitVec 16) (w : BitVec 10), s.hostUp = true →
    let chk := [Reg.CHK_HOST_status, Reg.CHK_HOST_handle]
    let head := s.rd Reg.CLOG_IDX_head
    let x : Int := v.toNat
    Completes (exec (.mshDoorbellWrite v) s) (fun t =>
      (t.seq 0).events = (s.seq 0).events ||| BitVec.ofNat 64 (v.toNat * 2 ^ 48) ∧ t.host = s.host ∧ SameSeqsBut s t 0 ∧
      SameRegsBut s t chk ∧ SameBytes s t) ∧
    (x ≠ s.rd Reg.CLOG_IDX_tail → 0 ≤ s.rd Reg.CLOG_IDX_tail → s.rd Reg.CLOG_IDX_tail < 65536 → Completes (exec (.clogIdxTailWrite v) s) fun t =>
      ((head - x) % 65536 ≤ 256 → t.rd Reg.CHK_HOST_status = 0 ∧ t.rd Reg.CLOG_IDX_tail = x) ∧
      ((head - x) % 65536 > 256 → (x - head) % 65536 < 32768 → t.rd Reg.CHK_HOST_status = 2) ∧
      ((head - x) % 65536 > 256 → 32768 ≤ (x - head) % 65536 → t.rd Reg.CHK_HOST_status = 1)) ∧
    Completes (exec (.clogClearOvf true) s) (fun t =>
      t.rd Reg.CLOG_OVF_count = 0 ∧ SameRegsBut s t (Reg.CLOG_OVF_count :: chk)) ∧
    Completes (exec (.fmLogClearOvf true) s) (fun t =>
      t.rd Reg.FM_LOG_overwritten = 0 ∧ SameRegsBut s t (Reg.FM_LOG_overwritten :: chk)) ∧
    Completes (exec (.fmFirstClear true) s) (fun t =>
      t.rd Reg.FM_FIRST_w0 = 0 ∧ t.rd Reg.FM_FIRST_w1 = 0 ∧ t.rd Reg.FM_FIRST_w2 = 0 ∧ t.rd Reg.FM_FIRST_w3 = 0 ∧
      SameRegsBut s t ([Reg.FM_FIRST_w0, Reg.FM_FIRST_w1, Reg.FM_FIRST_w2, Reg.FM_FIRST_w3] ++ chk)) ∧
    Completes (exec (.ftRestEnter true) s) (fun t => t.frame = { s.frame with restAsked := true } ∧ SameRegsBut s t chk) ∧
    Completes (exec (.hostBar2BaseWrite w) s) (fun t => SameRegsBut s t ([Reg.HOST_BAR2_base] ++ chk ++
      (if 1020 < w.toNat then [Reg.CLOG_IDX_head, Reg.CLOG_IDX_tail, Reg.CLOG_OVF_count, Reg.HOST_IRQ_cause] else [])) ∧
      ((w.toNat : Int) ≠ s.rd Reg.HOST_BAR2_base → 0 ≤ s.rd Reg.HOST_BAR2_base → s.rd Reg.HOST_BAR2_base < 1024 → t.efN Reg.HOST_BAR2_base = min 1020 w.toNat)) ∧
    (s.rd Reg.FRAME_COUNT_count ≠ 0 → 0 ≤ s.rd Reg.FRAME_COUNT_count → s.pins.warmDue = 0 →
      Completes (exec (.rstCtrlWarm true) s) (fun t => t.pins = { s.pins with warmDue := 4 } ∧ SameRegsBut s t chk) ∧
      Completes (exec (.fmCtrlWarmReset true) s) fun t =>
        t.pins = (if s.rd Reg.FM_STATUS_state = 2 then { s.pins with warmDue := 5 } else s.pins) ∧ SameRegsBut s t chk) ∧
    (s.stage = 12 → s.pins.tapHolds = false → s.pins.tap.tests = false → Completes (exec (.rstBootGo true) s) fun t =>
      t.stage = 5 ∧ t.pins.stageAddr = 0x10000000 + 64 * s.rdN Reg.RST_BOOT_offset ∧
      t.pins.stageLen = s.rdN Reg.RST_BOOT_length ∧ SameRegsBut s t (Reg.RST_STATUS_stage :: chk))

/-- R8, R495, R630: a host read through BAR0 answers with the fields of its word; the RC fields it returns are cleared, and no
other moves; the low word of a 64-bit time register latches the high word, which the next read of it returns; a misaligned
read or an access of a bad size answers with zeros and counts. -/
def Obligations.HostReadsAnswer : Prop :=
  ∀ (s : State) (off len : Nat) (eight : Bool), s.hostUp = true → off < 0x4000000 →
    let n := if eight then 8 else 4
    let answers (t : State) (b : Bytes) : Prop := t.out = .completion b false :: s.out
    let bad := Reg.HOST_CNT_bar0_bad
    let counts (t : State) : Prop := t.rdN bad = min 0xFFFFFFFF (s.rdN bad + 1) ∧ SameRegsBut s t [bad]
    (off % n ≠ 0 → Completes (exec (.rcFieldRead off eight) s) fun t => answers t (List.replicate n 0) ∧ counts t) ∧
    Completes (exec (.bar0BadAccess false len) s) (fun t => answers t (List.replicate len 0) ∧ counts t) ∧
    Completes (exec (.bar0BadAccess true len) s) (fun t => t.out = s.out ∧ counts t) ∧
    (off % 4 = 0 → s.blockOut off = false → latchesHigh off = false → latchesHigh (off - 4) = false →
      s.windowByte off = none → Completes (exec (.rcFieldRead off false) s) fun t =>
        answers t (leBytes 4 ((wordFields s.par off).map fun x => wordBits x.1.row.width (s.readField x.1) x.2).sum) ∧
        (∀ x ∈ wordFields s.par off, x.1.row.access = .rc → t.cell x.1.handle = ⟨0, 0, none, none⟩) ∧
        (∀ h, (∀ x ∈ wordFields s.par off, x.1.row.access = .rc → x.1.handle ≠ h) → t.cell h = s.cell h) ∧
        t = { s with regs := t.regs, out := t.out }) ∧
    (latchesHigh off = true → s.blockOut off = false → Completes (exec (.datumLowWordRead off) s) fun t =>
      answers t (leBytes 4 (s.word32 off)) ∧ SameRegsBut s t [] ∧
      ∀ u : State, u.hostUp = true → u.clk.hiLatch = t.clk.hiLatch → latchesHigh (off + 4) = false →
        Completes (exec (.rcFieldRead (off + 4) false) u) fun z => z.out = .completion (leBytes 4 (s.word32 (off + 4))) false :: u.out)

/-- R634 to R638: BAR2 reads and writes fabric memory at the base in effect with the bytes enabled, one grant for each
transaction (R265); an address that is not memory answers zeros and counts; an uncorrectable error poisons; a request that
meets a held resource waits (R267, R268), and a wait past its limit aborts or is discarded. -/
def Obligations.Bar2ReachesFabricMemory : Prop :=
  ∀ (s : State) (off len : Nat) (data : Bytes), s.hostUp = true → 7 ≤ s.stage →
    let a := 2 ^ 30 * s.efN Reg.HOST_BAR2_base + off
    let mapped (n : Nat) : Bool := s.paddockRange a n || s.dramRange a n
    let counts (t : State) (h : Nat) : Prop := t.rdN h = min 0xFFFFFFFF (s.rdN h + 1) ∧ SameRegsBut s t [h] ∧ SameBytes s t
    (mapped len = false → Completes (exec (.bar2Read off len) s) fun t =>
      t.out = .completion (List.replicate len 0) false :: s.out ∧ counts t Reg.HOST_CNT_bar2_unmapped) ∧
    (mapped len = true → s.hostWaits (s.bar2ReadGrants a len) = true → Completes (exec (.bar2Read off len) s) fun t => t = s) ∧
    (mapped len = true → s.hostWaits (s.bar2ReadGrants a len) = false →
      (∀ g ∈ groupsOf a len, s.region g ≠ .dram ∧ s.serve g = .plain) → Completes (exec (.bar2Read off len) s) fun t =>
        t.out = .completion ((List.range len).map fun i => s.byte (a + i)) false :: s.out ∧
        (s.bar2ReadGrants a len ≠ [] → t.rdN (Reg.ARB_CLS_grants 11) =
          min 0xFFFFFFFF (s.rdN (Reg.ARB_CLS_grants 11) + (s.bar2ReadGrants a len).length)) ∧
        SameRegsBut s t [Reg.ARB_CLS_grants 11] ∧ SameBytes s t) ∧
    (mapped len = true → groupsOf a len = [a / 8 * 8] →
      (∃ c, s.region (a / 8 * 8) = .clusterSlice c) → s.serve (a / 8 * 8) = .lost →
      Completes (exec (.bar2Read off len) s) fun t =>
        t.out = .completion [] true :: s.out ∧ t.rdN Reg.HOST_CNT_poisoned = min 0xFFFFFFFF (s.rdN Reg.HOST_CNT_poisoned + 1) ∧
        t.fm = s.fm ∧ SameBytes s t) ∧
    (mapped data.length = false → Completes (exec (.bar2Write off (data.map some)) s) fun t =>
      t.out = s.out ∧ counts t Reg.HOST_CNT_bar2_unmapped) ∧
    (mapped data.length = true → s.hostWaits (s.bar2WriteGrants a (data.map some)) = true →
      Completes (exec (.bar2Write off (data.map some)) s) fun t => t = s) ∧
    (mapped data.length = true → s.inSlices a data.length → Completes (exec (.bar2Write off (data.map some)) s) fun t =>
        (∀ i b, data[i]? = some b → t.byte (a + i) = b) ∧ SameBytesBut s t a data.length ∧ SameRegsBut s t []) ∧
    Completes (exec (.bar2WaitTimeout false) s) (fun t => t.out = .abort :: s.out ∧ counts t Reg.HOST_CNT_bar2_timeout) ∧
    Completes (exec (.bar2WaitTimeout true) s) (fun t => t.out = s.out ∧ counts t Reg.HOST_CNT_bar2_timeout)

/-- R627, R628, R641, R645, R646: a raised vector is sent where it is enabled and unmasked, pends where it is masked, and is
sent once when the mask goes; PERST# and a hot reset put the interface alone to its reset state, PERST# asking for a warm
reset where RST_CTRL.perst_warm is set. R625: what the configuration space holds. -/
def Obligations.InterruptsAndInterfaceResets : Prop :=
  ∀ (s : State) (v : Nat) (rest : List Nat) (word : BitVec 32), v < 64 → s.hostRuns = true →
    let masked := Tab.get 1 s.host.table (0x8000 + 16 * v + 12) % 2 = 1
    let sent := Reg.HOST_CNT_msix_sent
    let up := s.host.power = .d0 ∧ s.host.enable = true ∧ s.host.functionMask = false
    let id := match s.part with
      | .t2 => 0x0002
      | .s32 => 0x0032
      | .m128 => 0x0128
      | .x512 => 0x0512
    s.configSpace = ⟨0x1F8C, id, 0x1F8C, id, s.rdN Reg.FAMILY_stepping, 0x048000, s.trust.serial.toNat, s.host.power,
      s.host.enable, s.host.functionMask⟩ ∧
    (s.host.raised = v :: rest → up → ¬ masked → Completes (exec .msixMessage s) fun t =>
      t.out = .msix v :: s.out ∧ t.host = { s.host with raised := rest } ∧ t.rdN sent = min 0xFFFFFFFF (s.rdN sent + 1) ∧
      SameRegsBut s t [sent]) ∧
    (s.host.raised = v :: rest → s.host.functionMask = true ∨ masked → Completes (exec .msixMessage s) fun t =>
      t.out = s.out ∧ bit t.host.pba v = true ∧ (∀ j, j ≠ v → bit t.host.pba j = bit s.host.pba j) ∧ t.host.raised = rest ∧
      SameRegsBut s t []) ∧
    (up → s.host.pba = 2 ^ v → word.toNat % 2 = 0 →
      Completes (exec (.msixTableWrite (.table (16 * v + 12) word)) s) fun t =>
        t.out = .msix v :: s.out ∧ t.host.pba = 0 ∧ SameRegsBut s t [sent]) ∧
    (s.host.power = .d0 → s.host.pba = 2 ^ v → ¬ masked → Completes (exec (.msixTableWrite (.control true false)) s) fun t =>
      t.out = .msix v :: s.out ∧ t.host = { s.host with enable := true, functionMask := false, pba := 0 }) ∧
    (∀ p, Completes (exec (.powerStateChange p) s) fun t => t.host.power = p) ∧
    (∀ sp wd, 1 ≤ sp → sp ≤ 5 → wd ∈ [1, 2] → Completes (exec (.hostLinkChange sp wd) s) fun t =>
      t.rdN Reg.HOST_LINK_speed = sp ∧ t.rdN Reg.HOST_LINK_width = wd ∧
      SameRegsBut s t [Reg.HOST_LINK_speed, Reg.HOST_LINK_width]) ∧
    (∀ c ∈ [Instr.pciePerst, Instr.pcieHotReset], (c = .pciePerst → s.on Reg.RST_CTRL_perst_warm = false) →
      Completes (exec c s) fun t => t.rd Reg.HOST_BAR2_base = 0 ∧ t.host.table = [] ∧ t.host.pba = 0 ∧ t.host.enable = false ∧
        SameRegsBut s t [Reg.HOST_BAR2_base] ∧ SameBytes s t) ∧
    (s.on Reg.RST_CTRL_perst_warm = true → s.health.shutdown = false → s.pins.warmDue = 0 →
      1 ≤ s.rdN Reg.FRAME_COUNT_count → Completes (exec .pciePerst s) fun t =>
        t = { s with pins := { s.pins with warmDue := 6 } })

/-! ### Scene ports and ingest (R172 to R209) -/

/-- R172 to R175, R208: a port counts each frame it receives, and those it filters; it answers requests for its own addresses
and its group with one frame, and for others with none; its links stand as they train. -/
def Obligations.ScenePortsCountAndAnswer : Prop :=
  ∀ (s : State) (p sub : Nat) (frame : Bytes), p < s.par.ports → sub < 4 → s.subUp p sub = true →
    let b := withoutFcs frame
    let o := ipOffset b
    let plus (t : State) (h : Nat) : Prop := t.rdN h = min 0xFFFFFFFF (s.rdN h + 1)
    let sends (c : Instr) (to_ : Nat) : Prop := Completes (exec c s) fun t => ∃ fr : Bytes,
      t = { s with out := .ethernet p fr :: s.out } ∧ fr.take 6 = beBytes 6 to_ ∧ (fr.drop 6).take 6 = beBytes 6 (s.portMac p)
    let quiet (c : Instr) : Prop := Completes (exec c s) fun t => t = s
    let taken := s.sceneAccepts p b = true ∨ s.ptpDatum p b 0 = true ∨ s.ptpDatum p b 1 = true
    (fcsGood frame = false → Completes (exec (.sceneFrameRx p sub frame) s) fun t =>
      plus t (Reg.PORT_CNT_bad_fcs p) ∧ SameRegsBut s t [Reg.PORT_CNT_bad_fcs p] ∧ t = { s with regs := t.regs }) ∧
    (fcsGood frame = true → taken → Completes (exec (.sceneFrameRx p sub frame) s) fun t =>
      plus t (Reg.PORT_CNT_frames p) ∧ SameRegsBut s t [Reg.PORT_CNT_frames p] ∧ t = { s with regs := t.regs }) ∧
    (fcsGood frame = true → ¬ taken → Completes (exec (.sceneFrameRx p sub frame) s) fun t =>
      plus t (Reg.PORT_CNT_frames p) ∧ plus t (Reg.PORT_CNT_filtered p) ∧
      SameRegsBut s t [Reg.PORT_CNT_frames p, Reg.PORT_CNT_filtered p] ∧ t = { s with regs := t.regs }) ∧
    (s.answers p sub frame = true → etherType b = 0x0806 → fieldBe b (o + 6) 2 = 1 → s.port4 p ≠ 0 →
      (fieldBe b (o + 24) 4 = s.port4 p → sends (.arpRequest p sub frame) (fieldBe b (o + 8) 6)) ∧
      (fieldBe b (o + 24) 4 ≠ s.port4 p → quiet (.arpRequest p sub frame))) ∧
    (s.answers p sub frame = true → etherType b = 0x86DD → fieldBe b (o + 6) 1 = 58 → fieldBe b (o + 40) 1 = 135 →
      s.port6 p ≠ 0 → fieldBe b (o + 8) 16 ≠ 0 →
      (fieldBe b (o + 48) 16 = s.port6 p → sends (.neighborSolicitation p sub frame) (fieldBe b 6 6)) ∧
      (fieldBe b (o + 48) 16 ≠ s.port6 p → quiet (.neighborSolicitation p sub frame))) ∧
    (s.answers p sub frame = true → etherType b = 0x0800 → fieldBe b (o + 9) 1 = 1 → fieldBe b (ip4Body b) 2 = 0x0800 →
      s.port4 p ≠ 0 →
      (fieldBe b (o + 16) 4 = s.port4 p → sends (.echoRequest p sub frame) (fieldBe b 6 6)) ∧
      (fieldBe b (o + 16) 4 ≠ s.port4 p → quiet (.echoRequest p sub frame))) ∧
    (s.answers p sub frame = true → etherType b = 0x0800 → fieldBe b (o + 9) 1 = 2 → fieldBe b (ip4Body b) 1 = 0x11 →
      s.group4 p ≠ 0 →
      let g := fieldBe b (ip4Body b + 4) 4
      let version3 := ip4Body b - o + 12 ≤ fieldBe b (o + 2) 2
      (version3 → g = 0 ∨ g = s.group4 p → sends (.groupQuery p sub frame) 0x01005E000016) ∧
      (¬ version3 → quiet (.groupQuery p sub frame)) ∧
      (g ≠ 0 → g ≠ s.group4 p → quiet (.groupQuery p sub frame))) ∧
    (s.on (Reg.PORT_CTRL_enable p) = true → ∀ link fec : BitVec 4, Completes (exec (.portLinkChange p link fec) s) fun t =>
      let m := if s.on (Reg.PORT_CTRL_split p) then 16 else 2
      t.rdN (Reg.PORT_STATUS_link p) = link.toNat % m ∧ t.rdN (Reg.PORT_STATUS_fec_lock p) = fec.toNat % m ∧
      SameRegsBut s t [Reg.PORT_STATUS_link p, Reg.PORT_STATUS_fec_lock p, Reg.CLK_STATUS_eth_lock])

/-- R177, R178, R185, R187, R188, R205: which packets ingest keeps, for the four types: a bad one is counted and discarded; a
good one makes its stream alive, and is dropped while a playback runs, late, or early where ingest does not rebase. -/
def Obligations.ScenePacketsAreSorted : Prop :=
  ∀ (s : State) (p : Nat) (b : Bytes), p < s.par.ports → s.portUp p = true →
    ∀ c ∈ [(Instr.frameHead, 1), (Instr.cellHead, 2), (Instr.chunk, 3), (Instr.guard, 4)],
    let body := b.length - 20
    let bad : Prop := b.length < 20 ∨ fieldLe b 0 2 ≠ 0x5653 ∨ fieldLe b 2 1 ≠ 1 ∨
      crc32c (b.take 16 ++ leBytes 4 0 ++ b.drop 20) ≠ fieldLe b 16 4 ∨ fieldLe b 12 2 ≠ body ∨
      (fieldLe b 3 1 = 1 ∧ body ≠ 16) ∨ (fieldLe b 3 1 = 2 ∧ body < 16) ∨ (fieldLe b 3 1 = 3 ∧ body ≤ 8) ∨
      (fieldLe b 3 1 = 4 ∧ (body % 8 ≠ 0 ∨ body < 8 ∨ 256 < body)) ∨ fieldLe b 3 1 = 0 ∨ 4 < fieldLe b 3 1 ∨
      fieldLe b 6 2 ≠ s.efN Reg.ING_SECTION_id
    let o := exec (c.1 p b) s
    let plus (t : State) (h : Nat) : Prop := t.rdN h = min 0xFFFFFFFF (s.rdN h + 1)
    let held (t : State) : Prop := t.ing.cur = s.ing.cur ∧ t.ing.nxt = s.ing.nxt ∧ t.target = s.target
    let n := fieldLe b 8 4
    let t0 := s.target
    let alive := if fieldLe b 4 1 % 2 = 0 then Reg.ING_STATE_a_alive else Reg.ING_STATE_b_alive
    (bad → Completes o fun t => plus t (Reg.PORT_CNT_scene_bad p) ∧ SameRegsBut s t [Reg.PORT_CNT_scene_bad p] ∧
      t = { s with regs := t.regs }) ∧
    (¬ bad → fieldLe b 3 1 = c.2 →
      let playback := s.on Reg.ING_STATE_playback = true
      let late := n ≠ t0 ∧ n ≠ (t0 + 1) % 2 ^ 32 ∧ (t0 + 2 ^ 32 - n) % 2 ^ 32 ≤ 2 ^ 31
      let early := n ≠ t0 ∧ n ≠ (t0 + 1) % 2 ^ 32 ∧ 2 ^ 31 < (t0 + 2 ^ 32 - n) % 2 ^ 32
      let passed (t : State) (h : Nat) : Prop := plus t h ∧ plus t (Reg.PORT_CNT_scene p) ∧ t.rd alive = 1 ∧ held t
      (playback → Completes o fun t => passed t Reg.ING_CNT_live_dropped) ∧
      (¬ playback → late → Completes o fun t => passed t Reg.ING_CNT_late) ∧
      (¬ playback → early → s.ing.cur.packets ≠ [] → s.bothLost = false → c.2 ≠ 1 → Completes o fun t =>
        passed t Reg.ING_CNT_early) ∧
      (¬ playback → early → s.unheld → s.bothLost = true ∨ (s.ing.cur.packets = [] ∧ s.ing.nxt.packets = []) →
        Completes o fun t => t.target = n ∧ plus t Reg.ING_CNT_rebases))

/-- R179 to R186, R359: what a packet of the target frame or of the frame after it brings to its assembly: the FRAME_HEAD, a
CELL_HEAD in its range, a CHUNK that meets no byte held, and the guard entries, of which the first for a region stands; a
second copy is counted, and a chunk that meets another in part is an overlap. `good` says that ingest keeps the packet (R178,
R188), with nothing in the way of what it writes. R187: a stream that brings no packet for ING_TIME.loss_us is declared lost,
a fault of its own, or with the other lost one of both, and two that fall due at one instant make one record. R196 to R198:
margin_us before the earliest start of the next period a target that is not assembled sets e6 and is counted, or with both
streams lost is taken as assembled with e5; this happens once in a period. -/
def Obligations.PacketsAreAssembledOrLost : Prop :=
  (∀ (s : State) (p : Nat) (b : Bytes) (after : Bool), p < s.par.ports → s.portUp p = true →
     let d := b.drop 20
     let k := cellKey (fieldLe d 0 1) (fieldLe d 1 1)
     let plus (t : State) (h : Nat) : Prop := t.rdN h = min 0xFFFFFFFF (s.rdN h + 1)
     let good (ty : Nat) : Prop := s.goodPacket b = true ∧ fieldLe b 3 1 = ty ∧ s.on Reg.ING_STATE_playback = false ∧
       fieldLe b 8 4 = (if after then (s.target + 1) % 2 ^ 32 else s.target) ∧
       (after = true → s.target ≠ (s.target + 1) % 2 ^ 32) ∧ s.unheld
     let layer := fieldLe d 2 1
     let off := fieldLe d 4 4
     let n := d.length - 8
     let held := (s.cellAsm after k).chunks
     let show_ (h : FrameHead) : Prop := h.show_ = fieldLe d 0 8 ∧ h.heads = fieldLe d 8 2 ∧ h.guards = fieldLe d 10 1 ∧
       h.intraAll = bit (fieldLe d 11 1) 0 ∧ h.resync = bit (fieldLe d 11 1) 1
     (good 1 → (s.asm after).head = none → Completes (exec (.frameHead p b) s) fun t =>
       ∃ h, (t.asm after).head = some h ∧ show_ h) ∧
     (good 1 → (s.asm after).head ≠ none → Completes (exec (.frameHead p b) s) fun t =>
       plus t Reg.ING_CNT_dup ∧ t.asm after = s.asm after) ∧
     (good 2 → s.cellHeadOk d = false → Completes (exec (.cellHead p b) s) fun t =>
       plus t Reg.ING_CNT_bad_head ∧ t.asm after = s.asm after) ∧
     (good 2 → s.cellHeadOk d = true → (s.cellAsm after k).head = none → Completes (exec (.cellHead p b) s) fun t =>
       ∃ h, (t.cellAsm after k).head = some h ∧ h.rep = bit (fieldLe d 3 1) 0 ∧ h.ref = fieldLe d 12 4 ∧
         h.layers.length = fieldLe d 2 1 ∧ ∀ l e, h.layers[l]? = some e →
           e.disp = min (max (signed 16 (fieldLe d (16 + 8 * l) 2)) (-8192)) 8191 ∧ e.len = fieldLe d (20 + 8 * l) 4 ∧
           e.predicted = decide (fieldLe d (18 + 8 * l) 1 = 1)) ∧
     (good 2 → s.cellHeadOk d = true → (s.cellAsm after k).head ≠ none → Completes (exec (.cellHead p b) s) fun t =>
       plus t Reg.ING_CNT_dup ∧ t.asm after = s.asm after) ∧
     (good 3 → (∀ x ∈ held, x.1 = layer → x.2.1 ≠ off ∧ (off + n ≤ x.2.1 ∨ x.2.1 + x.2.2.length ≤ off)) →
       Completes (exec (.chunk p b) s) fun t => (t.cellAsm after k).chunks = held ++ [(layer, off, d.drop 8)]) ∧
     (good 3 → (∃ x ∈ held, x.1 = layer ∧ x.2.1 = off ∧ x.2.2.length = n) →
       Completes (exec (.chunk p b) s) fun t => plus t Reg.ING_CNT_dup ∧ t.asm after = s.asm after) ∧
     (good 3 → (∀ x ∈ held, x.1 = layer → ¬ (x.2.1 = off ∧ x.2.2.length = n)) → (s.cellAsm after k).head = none →
       (∃ x ∈ held, x.1 = layer ∧ off < x.2.1 + x.2.2.length ∧ x.2.1 < off + n) →
       Completes (exec (.chunk p b) s) fun t => plus t Reg.ING_CNT_overlap ∧ t.asm after = s.asm after) ∧
     (good 4 → fieldLe d 0 1 ∉ (s.asm after).guardKeys → Completes (exec (.guard p b) s) fun t =>
       (t.asm after).guardKeys = (s.asm after).guardKeys ++ [fieldLe d 0 1] ∧
       (∀ r v, Tab.find (s.asm after).guards r = some v → Tab.find (t.asm after).guards r = some v) ∧
       (fieldLe d 0 1 ≤ 31 → Tab.find (s.asm after).guards (fieldLe d 0 1) = none →
         Tab.find (t.asm after).guards (fieldLe d 0 1) = some (fieldLe d 4 4)) ∧
       (31 < fieldLe d 0 1 → d.length = 8 → (t.asm after).guards = (s.asm after).guards)) ∧
     (good 4 → fieldLe d 0 1 ∈ (s.asm after).guardKeys → Completes (exec (.guard p b) s) fun t =>
       plus t Reg.ING_CNT_dup ∧ t.asm after = s.asm after)) ∧
  (∀ (s : State) (k dt : Nat), k < 2 →
     let alive (j : Nat) := if j = 0 then Reg.ING_STATE_a_alive else Reg.ING_STATE_b_alive
     let u := s.advance dt
     let seen (j : Nat) : Nat := Tab.get 0 u.ing.seenAt j
     let due (j : Nat) : Prop := u.rd (alive j) = 1 ∧ seen j + u.efN Reg.ING_TIME_loss_us * 1000 * 2 ^ 32 ≤ u.clk.free.units
     let lost (t : State) (l : List (Nat × Nat)) : Prop := t.fm.detected.length = u.fm.detected.length + l.length ∧
       u.fm.detected <+: t.fm.detected ∧ (t.fm.detected.drop u.fm.detected.length).map (fun x => (x.cause, x.unit)) = l ∧
       SameRegsBut u t [alive 0, alive 1] ∧ (∀ i, t.seq i = u.seq i) ∧ SameBytes u t
     let start := if u.showUsable then u.periodEnd else u.frame.startAt + nsUnits (u.efN Reg.FT_PERIOD_t_min_ns)
     let passes := (u.ftState = 1 ∨ u.ftState = 2) ∧ u.ing.deadlineOver = false ∧
       start - nsUnits (1000 * u.efN Reg.ING_TIME_margin_us) ≤ u.active
     let assembled := u.rd Reg.ING_STATE_assembled = 1
     let forced := u.bothLost = true ∧ u.rd Reg.ING_STATE_playback ≠ 1
     (¬ due k → Completes (exec (.streamLoss ⟨dt, k⟩) s) fun t => t = u) ∧
     (due k → ¬ due (1 - k) → Completes (exec (.streamLoss ⟨dt, k⟩) s) fun t =>
       t.rd (alive k) = 0 ∧ t.rd (alive (1 - k)) = u.rd (alive (1 - k)) ∧
       lost t [(if u.rd (alive (1 - k)) = 0 then 0x0004 else 0x0003, 0x10)]) ∧
     (due k → due (1 - k) → seen (1 - k) = seen k → Completes (exec (.streamLoss ⟨dt, k⟩) s) fun t =>
       t.rd (alive 0) = 0 ∧ t.rd (alive 1) = 0 ∧ lost t [(0x0004, 0x10)]) ∧
     (due k → due (1 - k) → seen (1 - k) < seen k → Completes (exec (.streamLoss ⟨dt, k⟩) s) fun t =>
       t.rd (alive 0) = 0 ∧ t.rd (alive 1) = 0 ∧ lost t [(0x0003, 0x10), (0x0004, 0x10)]) ∧
     (¬ passes → Completes (exec (.assemblyDeadline dt) s) fun t => t = u) ∧
     (passes → assembled → Completes (exec (.assemblyDeadline dt) s) fun t =>
       t = { u with ing := { u.ing with deadlineOver := true } }) ∧
     (passes → ¬ assembled → ¬ forced → Completes (exec (.assemblyDeadline dt) s) fun t =>
       t.ing = { u.ing with deadlineOver := true } ∧
       t.rdN Reg.ING_CNT_deadline_miss = min 0xFFFFFFFF (u.rdN Reg.ING_CNT_deadline_miss + 1) ∧
       (t.seq 0).events = (u.seq 0).events ||| 2 ^ 6 ∧ t.host.raised = u.host.raised ++ [6] ∧
       SameRegsBut u t [Reg.ING_CNT_deadline_miss, Reg.HOST_IRQ_cause] ∧ SameSeqsBut u t 0 ∧ SameBytes u t) ∧
     (passes → ¬ assembled → forced → Completes (exec (.assemblyDeadline dt) s) fun t =>
       t.ing.deadlineOver = true ∧ t.rd Reg.ING_STATE_assembled = 1 ∧ (t.seq 0).events = (u.seq 0).events ||| 2 ^ 5 ∧
       t.host.raised = u.host.raised ++ [5]))

/-! ### The block codec, the encoder and the decoder slices (R199, R210 to R247) -/

/-- R212 to R219, R230: every block that the encoder writes, with any permitted predictors and any reference block, decodes to
its samples, whatever follows it in the bitstream, at each of the sample widths of R210. -/
def Obligations.BlockDecodesToItsSamples : Prop :=
  ∀ (w : Nat) (preds ref samples : List Nat) (rest : Bytes), w ∈ [8, 10, 12, 16] → (∀ p ∈ preds, p ≤ 3) →
    samples.length = 256 → (∀ v ∈ samples, v < 2 ^ w) →
    let b := encodeBlock w preds ref samples
    b.length ≤ 4 + 32 * w ∧ decodeBlock w true ref (b ++ rest) = .ok ⟨samples, b.length, isRawBlock b⟩

/-- R236, R238, R240 to R244, R553: an encoder starts the ENCODE at the head of its queue, whose words it can read, or
completes it with outcome 8; each control acts on the stopped job, with outcome 7, or completes without one, with outcome 5;
an encoder that places nothing stops with state 3. Where the descriptor lies in cluster slices without errors, its words 3 and
4 hold the result. R226 to R237: a block row of a job whose input can be read and is complete: with room in the window and in
the slab buffer its twelve blocks are coded and placed there, no byte outside the buffer moving, and the last row finishes the
descriptor; a block that does not fit stops the job before it, and ENC_STOP tells where. No held resource is in the way. -/
def Obligations.EncoderDescriptorsActAndRowsCode : Prop :=
  (∀ (s : State) (c : Nat) (d : QEntry) (j : EncJob), c < s.par.clusters →
     let x := s.clu c
     let key := qKey 2 c 0
     let w := (s.fetched d 5).w
     let bad := s.par.tileLinks ≤ w 2 % 2 ^ 10 ∨ s.par.plots ≤ w 2 / 2 ^ 10 % 2 ^ 11 ∨ w 1 % 64 ≠ 0 ∨ w 1 < 0x300000 * c ∨
       0x300000 * (c + 1) < w 1 + 24576 ∨ w 0 / 2 ^ 8 ≠ 0 ∨ w 2 / 2 ^ 35 ≠ 0
     let plus (t : State) (h : Nat) : Prop := t.rdN h = min 0xFFFFFFFF (s.rdN h + 1)
     let head (op : Nat) : Prop := s.control c op = some d ∧ s.canStart d 5 ∧ s.unheld
     let words (t : State) (outcome : Nat) : Prop :=
       s.inSlices d.addr 40 → t.word (d.addr + 24) 8 = outcome ∧ t.word (d.addr + 32) 8 = 0
     let result (t : State) (outcome : Nat) : Prop := Finishes s t key d.ticket ∧ words t outcome
     let both (t : State) : Prop := words t 7 ∧ (t.engQ key).done = (s.engQ key).done ∧
       ∀ e ∈ (t.engQ key).entries, e.ticket = d.ticket ∨ (e.ticket = j.ticket ∧ j.onto = false) → e.fin = true
     (x.job = none → x.failed = false → s.gated = false → s.rdN (Reg.ENC_STATUS_state c) ≠ 3 →
       s.headWith key 2 c (fun e => bits (s.dword e 0) 5 2 == 0) = some d → s.canStart d 5 → s.unheld →
       (bad → Completes (exec (.encode c) s) fun t => result t 8 ∧ t.clu c = x) ∧
       (¬ bad → Completes (exec (.encode c) s) fun t => ∃ y, (t.clu c).job = some y ∧
         y.input = w 1 ∧ y.link = w 2 % 2 ^ 10 ∧ y.plot = w 2 / 2 ^ 10 % 2 ^ 11 ∧ y.bearing = w 2 / 2 ^ 21 % 2 ^ 9 ∧
         y.wm = w 2 / 2 ^ 30 % 2 ^ 4 ∧ y.waitWm = bit (w 2) 34 ∧ y.noRef = bit (w 0) 7 ∧
         y.frame = s.rdN Reg.FRAME_COUNT_count ∧ y.next = 0 ∧ y.produced = 0 ∧ y.stopped = false ∧
         t.rd (Reg.ENC_STATUS_state c) = 1 ∧ SameRegsBut s t (Reg.ENC_STATUS_state c :: paddockRegs s 6) ∧ SameBytes s t)) ∧
     (∀ e ∈ [(Instr.resume, 1), (Instr.park, 2), (Instr.abandon, 3)], x.job = none → head e.2 →
       Completes (exec (e.1 c) s) fun t => result t 5 ∧ t.clu c = x) ∧
     (x.job = some j → head 1 → Completes (exec (.resume c) s) fun t => result t 7 ∧
       (t.clu c).job = some { j with stopped := false } ∧ t.rd (Reg.ENC_STATUS_state c) = 1 ∧ plus t (Reg.ENC_CNT_resumed c) ∧
       (s.lnk (s.carrier j.link)).granted ≤ (t.lnk (s.carrier j.link)).granted) ∧
     (x.job = some j → x.parked = none → j.onto = false → head 2 → Completes (exec (.park c) s) fun t =>
       both t ∧ (t.clu c).job = none ∧ (t.clu c).parked = some { j with onto := true, refs := [] } ∧
       t.rd (Reg.ENC_STATUS_state c) = 0 ∧ t.rd (Reg.ENC_STATUS_parked c) = 1 ∧ plus t (Reg.ENC_CNT_parked c)) ∧
     (x.job = some j → x.parked = none → head 3 → Completes (exec (.abandon c) s) fun t =>
       both t ∧ (t.clu c).job = none ∧ t.rd (Reg.ENC_STATUS_state c) = 0 ∧ plus t (Reg.ENC_CNT_abandoned c)) ∧
     (x.job = some j → j.stopped = false → s.rd (Reg.ENC_STATUS_state c) = 1 → s.rowReady c j (j.next / 12) = true →
       s.slabRoom j.link 524 = true → Completes (exec (.encoderStall c) s) fun t => t.rd (Reg.ENC_STATUS_state c) = 3 ∧
         SameRegsBut s t [Reg.ENC_STATUS_state c] ∧ t = { s with regs := t.regs })) ∧
  (∀ (s : State) (c : Nat) (j : EncJob), c < s.par.clusters →
     let l := s.lnk j.carrier
     let buffer := s.slabBase j.link
     let plus (t : State) (h n : Nat) : Prop := t.rdN h = min 0xFFFFFFFF (s.rdN h + n)
     (s.clu c).job = some j → (s.clu c).parked = none → j.stopped = false → j.onto = false →
     s.rd (Reg.ENC_STATUS_state c) = 1 → s.stopped = false → s.gated = false → s.rowReady c j (j.next / 12) = true →
     s.readable (j.input + 6144 * (j.next / 12)) 6144 → s.unheld → s.slabRoom j.link 6200 = true →
     s.carrier j.link = j.carrier → j.next % 12 = 0 → j.next < 48 →
     (l.used + 8000 ≤ l.window + l.granted → Completes (exec (.encoderBlockRow c) s) fun t =>
       plus t (Reg.ENC_CNT_blocks c) 12 ∧ t.rdN (Reg.ENC_CNT_verify_fail c) = s.rdN (Reg.ENC_CNT_verify_fail c) ∧
       (j.next < 36 → SameBytesBut s t buffer 0x8000 ∧ ∃ y, (t.clu c).job = some y ∧ y.next = j.next + 12 ∧
         j.produced + 48 ≤ y.produced ∧ y.stopped = false ∧
         t.openLen j.link c = s.openLen j.link c + (if s.openLen j.link c = 0 then 8 else 0) + (y.produced - j.produced)) ∧
       (∀ d, j.next = 36 → s.encEntry c j.ticket = some d → (t.clu c).job = none ∧ t.rd (Reg.ENC_STATUS_state c) = 0 ∧
         Finishes s t (qKey 2 c 0) d.ticket)) ∧
     (s.openLen j.link c = 0 → l.window + l.granted < l.used + 31 → Completes (exec (.encoderBlockRow c) s) fun t =>
       t.rd (Reg.ENC_STATUS_state c) = 2 ∧ plus t (Reg.ENC_CNT_stops c) 1 ∧ t.rdN (Reg.ENC_STOP_link c) = j.link ∧
       t.rdN (Reg.ENC_STOP_plot c) = j.plot ∧ t.rdN (Reg.ENC_STOP_bearing c) = j.bearing ∧
       t.rdN (Reg.ENC_STOP_consumed c) = 256 * j.next ∧ t.rdN (Reg.ENC_STOP_produced c) = j.produced ∧
       (t.engQ (encKey c)).done = (s.engQ (encKey c)).done ∧ ∃ y, (t.clu c).job = some y ∧ y.stopped = true ∧ y.next = j.next))

/-- R199, R219 to R224, R245: an idle slice takes the oldest bitstream that may go, or the descriptor at the head of its
queue, whose words it can read; what it decodes is counted, and the result of a descriptor completes its work. R220: the first error of a block in the
order of the table, on its header. -/
def Obligations.DecoderSlicesDecodeOrReject : Prop :=
  (∀ (s : State) (i : Nat) (d : QEntry) (j : DecJob) (l : LayerJob) (after : Bool), i < s.par.decoders →
     let key := qKey 3 i 0
     let plus (t : State) (h n : Nat) : Prop := t.rdN h = min 0xFFFFFFFF (s.rdN h + n)
     let e := s.fetched d 6
     let w := e.w 0
     let started (t : State) (source : Nat) (l : List Nat) : Prop :=
       t.rd (Reg.DEC_STATUS_state i) = 1 ∧ t.rd (Reg.DEC_STATUS_source i) = source ∧
       SameRegsBut s t ([Reg.DEC_STATUS_state i, Reg.DEC_STATUS_source i] ++ l) ∧ SameBytes s t
     (s.sliceIdle i = true → s.headWith key 3 i (fun _ => true) = some d → s.canStart d 6 → s.unheld →
       let bad := w / 2 ^ 10 ≠ 0 ∨ w / 64 % 4 = 3 ∨ w / 256 % 4 = 3
       (bad → Completes (exec (.decodeLayer i) s) fun t => started t 1 (paddockRegs s 3) ∧
         ∃ y, Tab.find t.dec i = some y ∧ y.fromIngest = false ∧ y.err = 9 ∧ y.consumed = 0) ∧
       (¬ bad → bit w 5 = false → s.readable (e.w 1) (e.w 2) → Completes (exec (.decodeLayer i) s) fun t =>
         let r := decodeLayer (2 ^ (w / 64 % 4)) (2 ^ (w / 256 % 4)) none (s.bytes (e.w 1) (e.w 2))
         started t 1 (paddockRegs s 3) ∧ ∃ y, Tab.find t.dec i = some y ∧ y.fromIngest = false ∧
           y.err = r.err ∧ y.consumed = r.consumed ∧ y.blocks = r.blocks.length ∧ y.raw = r.raw ∧ y.dest = e.w 3 ∧
           (r.err = 0 → y.pixels = layerPixels (2 ^ (w / 64 % 4)) (2 ^ (w / 256 % 4)) r.blocks))) ∧
     (s.idleSlice = some i → s.ing.waiting = [l] → s.jobDead l = false → s.jobReady l = true → s.asmOf l.frame = some after →
       (∃ h e, (s.cellAsm after l.cell).head = some h ∧ h.layers[l.layer]? = some e ∧ e.predicted = false) →
       Completes (exec .layerDispatch s) fun t => started t 0 [] ∧ t.ing.waiting = [] ∧
         ∃ y, Tab.find t.dec i = some y ∧ y.fromIngest = true ∧ y.frame = l.frame ∧ y.cell = l.cell ∧ y.layer = l.layer ∧
           y.err = (decodeLayer (s.cellBx l.cell) (s.cellBy l.cell) none l.data).err) ∧
     (Tab.find s.dec i = some j → j.fromIngest = false → s.unheld →
       (s.engQ key).entries.find? (fun e => e.ticket == j.desc) = some d →
       Completes (exec (.decodeComplete i) s) fun t => t.rd (Reg.DEC_STATUS_state i) = 0 ∧ Tab.find t.dec i = none ∧
         plus t (Reg.DEC_CNT_blocks i) j.blocks ∧ plus t (Reg.DEC_CNT_raw i) j.raw ∧
         (j.err = 0 → t.rd (Reg.DEC_CNT_errors i) = s.rd (Reg.DEC_CNT_errors i)) ∧
         (j.err = 0 → plus t Reg.RAY_COUNT_reserved_px (reservedPixels j.pixels)) ∧
         (j.err ≠ 0 → plus t (Reg.DEC_CNT_errors i) 1 ∧ t.rdN (Reg.DEC_CNT_last_error i) = j.err) ∧
         (s.inSlices d.addr 48 → t.word (d.addr + 40) 8 = (j.err + j.consumed * 2 ^ 32) % 2 ^ 64) ∧
         t.engQ key = (s.engQ key).finish d.ticket) ∧
     (Tab.find s.dec i = some j → j.fromIngest = true → s.unheld → s.asmOf j.frame = some after → j.err ≠ 0 →
       (s.cellAsm after j.cell).settled = false → (s.cellAsm after j.cell).slot ≠ 0 →
       Completes (exec (.decodeComplete i) s) fun t => (t.cellAsm after j.cell).given = true ∧
         plus t (Reg.DEC_CNT_errors i) 1 ∧ t.rdN (Reg.DEC_CNT_last_error i) = j.err ∧
         (after = false → t.ing.vers = s.ing.vers))) ∧
  (∀ (w : Nat) (refs : Bool) (ref : List Nat) (b : Bytes), w ∈ [8, 10, 12, 16] → 4 ≤ b.length →
     let h := fieldLe b 0 4
     let pred := h % 4
     let k0 := h / 4 % 16
     let raw := h / 64 % 2 = 1
     let len := h / 256 % 1024
     let reserved := h / 128 % 2 = 1 ∨ h / 2 ^ 18 ≠ 0
     let o := decodeBlock w refs ref b
     (reserved → o = .error 1) ∧
     (¬ reserved → w ≤ k0 → o = .error 2) ∧
     (¬ reserved → k0 < w → raw → pred ≠ 0 ∨ k0 ≠ 0 ∨ len ≠ 32 * w → o = .error 3) ∧
     (¬ reserved → k0 < w → ¬ raw → 32 * w ≤ len → o = .error 4) ∧
     (¬ reserved → k0 < w → ¬ raw → len < 32 * w → pred = 3 → refs = false → o = .error 5) ∧
     (¬ reserved → k0 < w → ¬ raw → len < 32 * w → pred ≠ 3 ∨ refs = true → b.length < 4 + len → o = .error 6))

/-! ### Block engines and plot loaders (R307 to R349) -/

/-- R307, R308, R311: an idle engine takes the list of its lowest-numbered queue and checks its descriptor; the first error of
the descriptor ends the list with status 1, its code and index 0. The descriptor lies in cluster slices without uncorrectable
errors. R308, R312, R313, R340 to R343: NOP, NOTE and BAND as the next command of a running list in such a slice, a reserved
op, and the band boundary; nothing holds what the engine writes. A command that completes moves its list on, or ends it with
status 0. -/
def Obligations.ListsStartAndRunInOrder : Prop :=
  (∀ (s : State) (c q : Nat) (d : QEntry), c < s.par.clusters → s.engineOn c = true → (s.clu c).list = none → q < 8 →
     let key := qKey 0 c q
     s.headOf key = some d → (∀ j, j < q → s.headOf (qKey 0 c j) = none) →
     (∀ e ∈ (s.engQ key).entries, e.ticket = d.ticket → e = d) →
     d.addr % 8 = 0 → s.inSlices d.addr 32 →
     let w := (s.fetched d 3).w
     let n := w 2 % 2 ^ 16
     let reserved := w 0 / 2 ^ 6 ≠ 0 ∨ w 1 / 2 ^ 40 ≠ 0 ∨ w 2 / 2 ^ 48 ≠ 0 ∨ n = 0
     let inside := s.paddockRange (w 1) (32 * n) = true
     let ends (code : Nat) : Prop := Completes (exec (.listStart c) s) fun t =>
       t.word (d.addr + 24) 8 = 1 + 256 * code ∧ SameBytesBut s t (d.addr + 24) 8 ∧
       Finishes s t key d.ticket ∧ (t.clu c).list = none ∧ t.rd (Reg.TRV_STATUS_state c) = 0 ∧
       t.rdN (Reg.TRV_ERR_code c) = code ∧ t.rd (Reg.TRV_ERR_index c) = 0 ∧ t.rdN (Reg.TRV_ERR_list c) = w 1 % 2 ^ 40 ∧
       t.rdN (Reg.TRV_CNT_errors c) = min 0xFFFFFFFF (s.rdN (Reg.TRV_CNT_errors c) + 1) ∧
       t.rdN Reg.FM_LOG_head = (s.rdN Reg.FM_LOG_head + 1) % 2 ^ 32 ∧ t.fm.detected = s.fm.detected
     (reserved → ends 2) ∧ (¬ reserved → w 1 % 64 ≠ 0 → ends 3) ∧ (¬ reserved → w 1 % 64 = 0 → ¬ inside → ends 4) ∧
     (¬ reserved → w 1 % 64 = 0 → inside → Completes (exec (.listStart c) s) fun t =>
       (∃ r, (t.clu c).list = some r ∧ r.queue = q ∧ r.desc = d.ticket ∧ r.addr = w 1 ∧ r.count = n ∧
         r.tag = w 2 / 2 ^ 16 % 2 ^ 32 ∧ r.frameBound = bit (w 0) 5 ∧ r.index = 0 ∧ r.completed = 0) ∧
       t.rd (Reg.TRV_STATUS_state c) = 1 ∧ t.rdN (Reg.TRV_STATUS_queue c) = q ∧
       SameRegsBut s t ([Reg.TRV_STATUS_state c, Reg.TRV_STATUS_wait c, Reg.TRV_STATUS_queue c] ++ paddockRegs s 10) ∧
       SameBytes s t)) ∧
  (∀ (s : State) (c : Nat) (r : ListRun), c < s.par.clusters → s.engineOn c = true → (s.clu c).list = some r →
     (s.clu c).sweep = none → (s.clu c).bandWait = 0 → r.addr % 32 = 0 → s.inSlices (r.addr + 32 * r.index) 32 → s.unheld →
     let w (i : Nat) : Nat := if r.words = [] then s.word (r.addr + 32 * r.index + 8 * i) 8 else r.w i
     let op := w 0 % 256
     let rest := w 1 = 0 ∧ w 2 = 0 ∧ w 3 = 0
     let n := w 0 / 2 ^ 8 % 2 ^ 8
     let band := s.rdN (Reg.TRV_STATUS_band c)
     let moves (t : State) : Prop :=
       (r.index + 1 < r.count →
         (t.clu c).list = some { r with index := r.index + 1, completed := r.completed + 1, words := [] } ∧
         t.rd (Reg.TRV_STATUS_state c) = 1 ∧ SameBytes s t) ∧
       (r.count ≤ r.index + 1 → (t.clu c).list = none ∧ t.rd (Reg.TRV_STATUS_state c) = 0 ∧
         ∀ d, (s.engQ (qKey 0 c r.queue)).entries.find? (fun e => e.ticket == r.desc) = some d → d.addr % 8 = 0 →
           s.inSlices d.addr 32 →
           t.engQ (qKey 0 c r.queue) = (s.engQ (qKey 0 c r.queue)).finish d.ticket ∧
           t.word (d.addr + 24) 8 = r.index % 2 ^ 16 * 2 ^ 16 + (r.completed + 1) % 2 ^ 32 * 2 ^ 32)
     let fails (o : Host.Outcome State Fault Refusal) (code : Nat) : Prop := Completes o fun t =>
       (t.clu c).list = none ∧ t.rdN (Reg.TRV_ERR_code c) = code ∧ t.rdN (Reg.TRV_ERR_index c) = r.index ∧
       t.rdN (Reg.TRV_ERR_list c) = r.addr ∧
       t.rdN (Reg.TRV_CNT_errors c) = min 0xFFFFFFFF (s.rdN (Reg.TRV_CNT_errors c) + 1)
     (w 0 = 0 → rest → Completes (exec (.listNop c) s) moves) ∧
     (op = 0 → ¬ (w 0 = 0 ∧ rest) → fails (exec (.listNop c) s) 2) ∧
     (7 ≤ op → fails (exec (.listNop c) s) 1) ∧
     (op = 6 → w 0 / 2 ^ 12 = 0 → rest → Completes (exec (.note c) s) fun t =>
       moves t ∧ (t.seq (c + 1)).events = (s.seq (c + 1)).events ||| flag (16 + w 0 / 2 ^ 8 % 16) ∧ SameSeqsBut s t (c + 1)) ∧
     (op = 6 → ¬ (w 0 / 2 ^ 12 = 0 ∧ rest) → fails (exec (.note c) s) 2) ∧
     (op = 5 → ¬ (w 0 / 2 ^ 16 = 0 ∧ rest ∧ n ≠ 0) → fails (exec (.band c) s) 2) ∧
     (op = 5 → w 0 / 2 ^ 16 = 0 → rest → n ≠ 0 → n ≤ band → fails (exec (.band c) s) 8) ∧
     (op = 5 → w 0 / 2 ^ 16 = 0 → rest → band < n → n < 255 → Completes (exec (.band c) s) fun t =>
       (t.clu c).bandWait = n ∧ (∃ l, (t.clu c).list = some { r with words := l }) ∧ t.rdN (Reg.TRV_STATUS_band c) = n ∧
       t.rd (Reg.TRV_STATUS_state c) = 2 ∧ t.rd (Reg.TRV_STATUS_wait c) = 1 ∧
       SameRegsBut s t ([Reg.TRV_STATUS_band c, Reg.TRV_STATUS_state c, Reg.TRV_STATUS_wait c] ++ paddockRegs s 10) ∧
       SameBytes s t) ∧
     (op = 5 → w 0 / 2 ^ 16 = 0 → rest → band < n → n = 255 → Completes (exec (.band c) s) fun t =>
       moves t ∧ (t.clu c).band255 = true ∧ t.rdN (Reg.TRV_STATUS_band c) = 255) ∧
     (∀ (u : State) (m : Nat), u.stopped = false → m ≠ 0 → (∃ x ∈ u.serving, (u.clu x).bandWait = m) →
       (∀ x ∈ u.serving, (u.clu x).bandWait = m ∨ ((u.clu x).band255 = true ∧ (u.clu x).bandWait = 0)) →
       Completes (exec .bandBoundary u) fun t =>
         t.rdN Reg.TRV_GLOBAL_band_passed = m ∧ (t.seq 0).events = (u.seq 0).events ||| flag 2 ∧
         ∀ x ∈ u.serving, (t.clu x).bandWait = 0 ∧ (t.seq (x + 1)).events = (u.seq (x + 1)).events ||| flag 2))

/-- R313, R322 to R327, R329, R332: a SHEAR by its wait for the loader, its checks in the order of the table, and one that sweeps a
single bearing as composited values, whose rays are those of the ray arithmetic (R45 to R54); SHEAR_BEARING_START sweeps the
bearing that waited, under halving with an odd column from the bearing store (R326). The slice holds no uncorrectable error,
the progress records lie above the slices, and nothing holds what the engine writes. -/
def Obligations.ShearSweepsABearing : Prop :=
  ∀ (s : State) (c : Nat) (r : ListRun), c < s.par.clusters → s.engineOn c = true → (s.clu c).list = some r →
    (s.clu c).bandWait = 0 → r.addr % 32 = 0 → s.inSlices (r.addr + 32 * r.index) 32 → s.unheld →
    r.index + 1 < r.count → commonBase ≤ 64 * s.efN Reg.TRV_GLOBAL_progress_base →
    let made (patch : Nat) (h : Bytes) (grid : Bearing) (i k : Nat) : Nat :=
      (composite grid (i % 64) (i / 64) (patchBg h) (s.patchLayers patch h)).d.getD k 0
    let rays (u t : State) (ring plot b wm : Nat) (ray : Nat → Nat → Nat) : Prop :=
      (∀ i k, i < 4096 → k < 3 → t.word (ring + 6 * i + 2 * k) 2 = ray i k) ∧
      t.rdN (Reg.WM_STATE_plot c wm) = plot ∧ t.rdN (Reg.WM_STATE_bearing c wm) = b ∧ t.rd (Reg.WM_STATE_rows c wm) = 64 ∧
      t.rd (Reg.WM_STATE_held c wm) = 1 ∧ (t.seq (c + 1)).events.getLsbD (32 + wm) = true ∧
      t.rdN (Reg.TRV_CNT_bearings c) = min 0xFFFFFFFF (u.rdN (Reg.TRV_CNT_bearings c) + 1) ∧
      (t.clu c).list = some { r with index := r.index + 1, completed := r.completed + 1, words := [] } ∧ (t.clu c).sweep = none
    ((s.clu c).sweep = none →
      let w (i : Nat) : Nat := if r.words = [] then s.word (r.addr + 32 * r.index + 8 * i) 8 else r.w i
      let plot := w 0 / 2 ^ 8 % 2 ^ 11
      let b := w 0 / 2 ^ 19 % 2 ^ 9
      let count := w 0 / 2 ^ 28 % 2 ^ 10
      let bufs := w 0 / 2 ^ 38 % 2 ^ 3 + 1
      let wm := w 0 / 2 ^ 41 % 2 ^ 4
      let waits := bit (w 0) 45
      let h := s.bytes (w 1) 64
      let bigL := fieldLe h 22 1
      let hh := s.efN Reg.RAY_GEOM_bear_h
      let hv := s.efN Reg.RAY_GEOM_bear_v
      let inSlice (a n : Nat) : Prop := c * 0x300000 ≤ a ∧ a + n ≤ (c + 1) * 0x300000
      let o := exec (.shear c) s
      let fails (code : Nat) : Prop := Completes o fun t => (t.clu c).list = none ∧ t.rdN (Reg.TRV_ERR_code c) = code ∧
        t.rdN (Reg.TRV_ERR_index c) = r.index
      let e2 := w 0 / 2 ^ 48 ≠ 0 ∨ w 1 / 2 ^ 40 ≠ 0 ∨ w 2 / 2 ^ 40 ≠ 0 ∨ w 3 / 2 ^ 32 ≠ 0 ∨ count = 0 ∨ 512 < count
      let e3 := w 1 % 64 ≠ 0 ∨ w 2 % 64 ≠ 0
      let read := w 1 % 64 = 0 ∧ inSlice (w 1) 64
      let other := read ∧ fieldLe h 24 2 ≠ plot
      let e4 := ¬ (inSlice (w 1) (64 + 163840 * bigL) ∧ inSlice (w 2) (24576 * bufs))
      let e5 := hh * hv < b + count
      let e6 := s.plots ≤ plot
      let e7 := 16 < wm + bufs
      let open_ := waits = false ∨ ticketDone (s.engQ (qKey 1 c (w 0 / 2 ^ 46 % 2))).done (w 3 % 2 ^ 32) = true
      let fine := ¬ e2 ∧ ¬ other ∧ ¬ e3 ∧ ¬ e4 ∧ ¬ e5 ∧ ¬ e6 ∧ ¬ e7
      w 0 % 2 ^ 8 = 1 →
      (¬ open_ → Completes o fun t => t.rd (Reg.TRV_STATUS_state c) = 2 ∧ t.rd (Reg.TRV_STATUS_wait c) = 2 ∧
        (∃ l, (t.clu c).list = some { r with words := l }) ∧
        SameRegsBut s t ([Reg.TRV_STATUS_state c, Reg.TRV_STATUS_wait c] ++ paddockRegs s 10) ∧ SameBytes s t) ∧
      (open_ → e2 ∨ other → fails 2) ∧
      (open_ → ¬ e2 → ¬ other → e3 → fails 3) ∧
      (open_ → ¬ e2 → ¬ other → ¬ e3 → e4 → fails 4) ∧
      (open_ → ¬ e2 → ¬ other → ¬ e3 → ¬ e4 → e5 → fails 5) ∧
      (open_ → ¬ e2 → ¬ other → ¬ e3 → ¬ e4 → ¬ e5 → e6 → fails 6) ∧
      (open_ → ¬ e2 → ¬ other → ¬ e3 → ¬ e4 → ¬ e5 → ¬ e6 → e7 → fails 7) ∧
      (open_ → fine → bit (fieldLe h 23 1) 0 = false → fails 10) ∧
      (open_ → fine → bit (fieldLe h 23 1) 0 = true →
        (bit (fieldLe h 23 1) 2 = true ∨ s.linked plot = false → Completes o fun t =>
          (t.clu c).list = some { r with index := r.index + 1, completed := r.completed + 1, words := [] } ∧
          (t.seq (c + 1)).events = (s.seq (c + 1)).events ∧ ∀ a, a < commonBase → t.byte a = s.byte a) ∧
        (bit (fieldLe h 23 1) 2 = false → s.linked plot = true → count = 1 → bufs = 1 → bit (w 0) 47 = true →
          s.ef Reg.GOV_HALVE_halving ≠ 1 → s.rd (Reg.WM_STATE_held c wm) ≠ 1 → Completes o fun t =>
          rays s t (w 2) plot b wm (made (w 1) h ⟨tangent (b % hh) hh (s.efN Reg.RAY_GEOM_tan_h),
            tangent (b / hh) hv (s.efN Reg.RAY_GEOM_tan_v), s.efN Reg.RAY_GEOM_tan_h ^ 2 / 49152⟩)))) ∧
    (∀ x, (s.clu c).sweep = some x → x.outMode = true → x.next + 1 = x.bFirst + x.bCount → x.bFirst ≤ x.next →
      let i := (x.next - x.bFirst) % x.ring
      let wm := x.wmBase + i
      let odd := x.halving = true ∧ x.next % max 1 x.bearH % 2 = 1
      s.sliceRange c (x.ringBase + 24576 * i) 24576 = true → 0 < x.ring → wm < 16 →
      s.sliceRange c x.patch (64 + 163840 * fieldLe x.head 22 1) = true →
      (s.rd (Reg.WM_STATE_held c wm) = 1 → Completes (exec (.shearBearingStart c) s) fun t =>
        t.rd (Reg.TRV_STATUS_state c) = 2 ∧ t.rd (Reg.TRV_STATUS_wait c) = 3 ∧ t = { s with regs := t.regs }) ∧
      (s.rd (Reg.WM_STATE_held c wm) ≠ 1 → ¬ odd → Completes (exec (.shearBearingStart c) s) fun t =>
        rays s t (x.ringBase + 24576 * i) x.plot x.next wm (made x.patch x.head (x.bearing x.next))) ∧
      (s.rd (Reg.WM_STATE_held c wm) ≠ 1 → odd → x.store.length = 4096 → (∀ y ∈ x.store, y.d.length = 3) →
        Completes (exec (.shearBearingStart c) s) fun t =>
        rays s t (x.ringBase + 24576 * i) x.plot x.next wm fun i k =>
          ((x.store[i]?.map (·.d)).getD []).getD k 0 % 2 ^ 16))

/-- R313, R334 to R339: FILL, COPY and BLEND by their checks in the order of the table, and their results element by element, over
rectangles in cluster slices without uncorrectable errors whose elements do not overlap; a BLEND takes its alpha from its
constant, its source pixel or its map. Nothing holds what the engine writes. -/
def Obligations.RectangleCommandsWriteTheirElements : Prop :=
  ∀ (s : State) (c : Nat) (r : ListRun), c < s.par.clusters → s.engineOn c = true → (s.clu c).list = some r →
    (s.clu c).sweep = none → (s.clu c).bandWait = 0 → r.addr % 32 = 0 → s.inSlices (r.addr + 32 * r.index) 32 → s.unheld →
    r.index + 1 < r.count →
    let w (i : Nat) : Nat := if r.words = [] then s.word (r.addr + 32 * r.index + 8 * i) 8 else r.w i
    let size := [1, 2, 4, 6, 8, 10, 16, 0].getD (w 0 / 2 ^ 8 % 8) 0
    let step := [1, 2, 4, 2, 8, 2, 8, 1].getD (w 0 / 2 ^ 8 % 8) 1
    let width := w 0 / 2 ^ 13 % 2 ^ 12
    let height := w 0 / 2 ^ 25 % 2 ^ 12
    let from_ := w 0 / 2 ^ 37 % 4
    let alpha := w 0 / 2 ^ 39 % 2 ^ 10
    let pixels := w 0 / 2 ^ 49 % 2 = 0
    let base (i : Nat) : Nat := w i % 2 ^ 40
    let stride (i : Nat) : Nat := w i / 2 ^ 40
    let elem (i x y : Nat) : Nat := base i + stride i * y + size * x
    let top (i : Nat) : Nat := base i + stride i * (height - 1) + size * width
    let off (i : Nat) : Prop := base i % step ≠ 0 ∨ stride i % step ≠ 0
    let slices (i : Nat) : Prop := top i ≤ s.par.clusters * 0x300000 ∧ size * width ≤ stride i
    let within (i n : Nat) : Prop := ∀ y, y < height → s.paddockRange (base i + stride i * y) (max 1 n * width) = true
    let apart := top 1 ≤ base 2 ∨ top 2 ≤ base 1
    let unused := w 3 = 0
    let fails (o : Host.Outcome State Fault Refusal) (code : Nat) : Prop := Completes o fun t =>
      (t.clu c).list = none ∧ t.rdN (Reg.TRV_ERR_code c) = code ∧ t.rdN (Reg.TRV_ERR_index c) = r.index
    let writes (o : Host.Outcome State Fault Refusal) (P : State → Nat → Nat → Prop) : Prop := Completes o fun t =>
      (∀ x y, x < width → y < height → P t x y) ∧
      (∀ a, (∀ x y, x < width → y < height → a < elem 2 x y ∨ elem 2 x y + size ≤ a) → t.byte a = s.byte a) ∧
      (t.clu c).list = some { r with index := r.index + 1, completed := r.completed + 1, words := [] }
    let mix (a x y : Nat) : Nat := (a * x + (1023 - a) * y + 511) / 1023
    let map_ := base 3 % 2 = 0 ∧ stride 3 % 2 = 0 ∧ base 3 + stride 3 * (height - 1) + 2 * width ≤ s.par.clusters * 0x300000 ∧
      (base 3 + stride 3 * (height - 1) + 2 * width ≤ base 2 ∨ top 2 ≤ base 3)
    let fromMap (x y : Nat) : Nat := s.word (base 3 + stride 3 * y + 2 * x) 2 % 2 ^ 10
    (w 0 % 2 ^ 8 = 3 →
      (w 0 / 2 ^ 37 ≠ 0 → fails (exec (.fill c) s) 2) ∧
      (w 0 / 2 ^ 37 = 0 → off 2 → fails (exec (.fill c) s) 3) ∧
      (w 0 / 2 ^ 37 = 0 → ¬ off 2 → ¬ within 2 size → fails (exec (.fill c) s) 4) ∧
      (w 0 / 2 ^ 37 = 0 → ¬ off 2 → within 2 size → size = 0 → fails (exec (.fill c) s) 9) ∧
      (w 0 / 2 ^ 37 = 0 → size ≠ 0 → ¬ off 2 → slices 2 → writes (exec (.fill c) s) fun t x y =>
        t.bytes (elem 2 x y) size = (leBytes 8 (w 1) ++ leBytes 8 (w 3)).take size)) ∧
    (w 0 % 2 ^ 8 = 2 →
      (w 0 / 2 ^ 37 ≠ 0 ∨ ¬ unused → fails (exec (.copy c) s) 2) ∧
      (w 0 / 2 ^ 37 = 0 → unused → off 1 ∨ off 2 → fails (exec (.copy c) s) 3) ∧
      (w 0 / 2 ^ 37 = 0 → unused → ¬ off 1 → ¬ off 2 → ¬ within 1 size ∨ ¬ within 2 size → fails (exec (.copy c) s) 4) ∧
      (w 0 / 2 ^ 37 = 0 → unused → ¬ off 1 → ¬ off 2 → within 1 size → within 2 size → size = 0 →
        fails (exec (.copy c) s) 9) ∧
      (w 0 / 2 ^ 37 = 0 → unused → size ≠ 0 → ¬ off 1 → ¬ off 2 → slices 1 → slices 2 → apart →
        writes (exec (.copy c) s) fun t x y => t.bytes (elem 2 x y) size = s.bytes (elem 1 x y) size)) ∧
    (w 0 % 2 ^ 8 = 4 →
      (w 0 / 2 ^ 50 ≠ 0 ∨ (from_ ≠ 0 ∧ alpha ≠ 0) ∨ (from_ ≠ 2 ∧ ¬ unused) → fails (exec (.blend c) s) 2) ∧
      (w 0 / 2 ^ 50 = 0 → from_ = 0 → unused → off 1 ∨ off 2 → fails (exec (.blend c) s) 3) ∧
      (w 0 / 2 ^ 50 = 0 → from_ = 0 → unused → ¬ off 1 → ¬ off 2 → ¬ within 1 size ∨ ¬ within 2 size →
        fails (exec (.blend c) s) 4) ∧
      (w 0 / 2 ^ 50 = 0 → slices 1 → slices 2 → apart → ¬ off 1 → ¬ off 2 →
        ((from_ = 0 ∧ unused) ∨ (from_ = 2 ∧ alpha = 0 ∧ map_) → ¬ pixels → size = 6 → writes (exec (.blend c) s) fun t x y =>
          let a := if from_ = 0 then alpha else fromMap x y
          ∀ k, k < 3 →
            t.word (elem 2 x y + 2 * k) 2 = mix a (s.word (elem 1 x y + 2 * k) 2) (s.word (elem 2 x y + 2 * k) 2)) ∧
        (from_ = 1 → alpha = 0 → unused → ¬ pixels → size = 6 → fails (exec (.blend c) s) 9) ∧
        ((from_ = 0 ∧ unused) ∨ (from_ = 1 ∧ alpha = 0 ∧ unused) ∨ (from_ = 2 ∧ alpha = 0 ∧ map_) → pixels → size = 10 →
          writes (exec (.blend c) s) fun t x y =>
          let p := s.word (elem 1 x y) 10
          let d := s.word (elem 2 x y) 10
          let out := t.word (elem 2 x y) 10
          let a := if from_ = 0 then alpha else if from_ = 1 then p / 2 ^ 36 % 2 ^ 10 else fromMap x y
          (∀ k, k < 3 → out / 2 ^ (12 * k) % 2 ^ 12 = mix a (p / 2 ^ (12 * k) % 2 ^ 12) (d / 2 ^ (12 * k) % 2 ^ 12)) ∧
          out / 2 ^ 36 % 2 ^ 10 = mix a 1023 (d / 2 ^ 36 % 2 ^ 10) ∧
          out / 2 ^ 46 = (if 512 ≤ a then p else d) / 2 ^ 46 % 2 ^ 26)))

/-- R314 to R318: PLOT_LOAD waits for its engine ticket; a descriptor error and a plot outside the set leave the destination
as it is; a cold cell gives a head alone; and a plot whose own cell alone has a version is loaded pixel by pixel. Word 6 tells
how many bytes came from DRAM. What the loader reads lies in DRAM or paddock without errors, it writes into cluster slice c,
and nothing holds what it accesses. -/
def Obligations.PlotLoadBuildsThePatch : Prop :=
  ∀ (s : State) (c q : Nat) (d : QEntry), c < s.par.clusters → q < 2 → s.stopped = false → (s.clu c).failed = false →
    (s.clu c).loaderLost = false → s.gated = false → s.engineDown 1 c = false → s.headOf (qKey 1 c q) = some d →
    (∀ a, s.serve a = .plain) → s.unheld → d.addr % 8 = 0 → d.addr + 56 ≤ s.par.clusters * 0x300000 →
    let w := (s.fetched d 6).w
    let o := exec (.plotLoad c q) s
    let set := w 1
    let dst := w 3
    let plot := w 2
    let across := (s.byte (set + 4)).toNat
    let down := (s.byte (set + 5)).toNat
    let frame := s.word set 4
    let entry (i : Nat) : Nat := set + 64 + 16 * ((plot / across + i / 3) * (across + 2) + plot % across + i % 3)
    let own := s.word (entry 4) 8
    let va := own % 2 ^ 40
    let bigL := own / 2 ^ 40 % 16
    let reads (a n : Nat) : Prop := s.paddockRange a n = true ∨ s.dramRange a n = true
    let bad := w 0 / 2 ^ 10 ≠ 0 ∨ w 1 / 2 ^ 40 ≠ 0 ∨ w 2 / 2 ^ 11 ≠ 0 ∨ w 3 / 2 ^ 40 ≠ 0 ∨ w 4 / 2 ^ 40 ≠ 0 ∨ w 5 / 2 ^ 32 ≠ 0 ∨
      set % 64 ≠ 0 ∨ dst % 64 ≠ 0 ∨ ¬ (c * 0x300000 ≤ dst ∧ dst + 64 ≤ (c + 1) * 0x300000) ∨ (bit (w 0) 5 = false ∧ w 4 ≠ 0)
    let open_ := bit (w 0) 6 = false ∨ ticketDone (s.engQ (qKey 0 c (w 0 / 2 ^ 7 % 8))).done (w 5 % 2 ^ 32) = true
    let came (a n : Nat) : Nat := if s.dramRange a n then n else 0
    let read := came set 64 + ((List.range 9).map fun i => came (entry i) 8).sum + came va 64
    let ends (result : Nat) (t : State) : Prop := t.word (d.addr + 48) 8 = result ∧ Finishes s t (qKey 1 c q) d.ticket ∧
      t.rdN (Reg.LDR_CNT_loads c) = min 0xFFFFFFFF (s.rdN (Reg.LDR_CNT_loads c) + 1)
    let headed (t : State) (l flags : Nat) : Prop :=
      t.bytes dst 22 = s.bytes va 22 ∧ t.word (dst + 22) 1 = l ∧ t.word (dst + 23) 1 = flags ∧ t.word (dst + 24) 4 = plot ∧
      t.word (dst + 28) 4 = frame ∧ ∀ i, i < 32 → t.byte (dst + 32 + i) = 0
    let set64 := reads set 64 ∧ plot < across * down ∧ (∀ i, i < 9 → reads (entry i) 8) ∧ va ≠ 0 ∧ reads va 64
    (¬ open_ → Completes o fun t => (t.engQ (qKey 1 c q)).head = some (s.fetched d 6) ∧
      (t.engQ (qKey 1 c q)).done = (s.engQ (qKey 1 c q)).done ∧ t.clu c = s.clu c ∧ SameRegsBut s t [] ∧ SameBytes s t) ∧
    (open_ → bad → Completes o fun t => ends 4 t ∧ SameBytesBut s t (d.addr + 48) 8) ∧
    (open_ → ¬ bad → ¬ reads set 64 → Completes o fun t => ends 4 t ∧ SameBytesBut s t (d.addr + 48) 8) ∧
    (open_ → ¬ bad → reads set 64 → across * down ≤ plot → Completes o fun t =>
      ends (2 + came set 64 * 2 ^ 32) t ∧ SameBytesBut s t (d.addr + 48) 8) ∧
    (d.addr + 56 ≤ dst ∨ dst + 64 ≤ d.addr → open_ → ¬ bad → set64 → bit own 45 = true → Completes o fun t =>
      ends (1 + read * 2 ^ 32) t ∧ headed t 0 5 ∧ (t.seq (c + 1)).events = (s.seq (c + 1)).events ||| flag 5) ∧
    (d.addr + 56 ≤ dst ∨ dst + 64 + 163840 * bigL ≤ d.addr → open_ → ¬ bad → set64 → bit own 45 = false → bit (w 0) 5 = false →
      (∀ i, i < 9 → i ≠ 4 → s.word (entry i) 8 = 0) → 0 < bigL → dst + 64 + 163840 * bigL ≤ (c + 1) * 0x300000 →
      reads va (64 + 40960 * bigL) → va + 64 + 40960 * bigL ≤ dst ∨ dst + 64 + 163840 * bigL ≤ va → Completes o fun t =>
        let stale := if bit own 44 then 1 else 0
        ends (bigL * 2 ^ 8 + stale * 2 ^ 16 + (read + came (va + 64) (40960 * bigL)) * 2 ^ 32) t ∧
        headed t bigL (1 + 2 * stale) ∧ (t.seq (c + 1)).events = (s.seq (c + 1)).events ||| flag 5 ∧
        ∀ k u v, k < bigL → u < 128 → v < 128 → t.bytes (dst + 64 + 163840 * k + 1280 * v + 10 * u) 10 =
          if 32 ≤ u ∧ u < 96 ∧ 32 ≤ v ∧ v < 96 then s.bytes (va + 64 + 10 * ((64 * k + (v - 32)) * 64 + (u - 32))) 10
          else leBytes 10 (s.word va 2 % 4096 + s.word (va + 2) 2 % 4096 * 2 ^ 12 + s.word (va + 4) 2 % 4096 * 2 ^ 24))

/-- R67, R139, R142, R344: the work of a descriptor that is finished completes: its event and the done count in queue order; a
faulted cluster stops, its logical index goes to the idle spare that the rule names, and SPARE_START starts the cluster
program there. R203, R205, R207, R554: the record and the playback descriptor start their jobs, and the later of two whose
regions overlap stops its engine, which is a fault. -/
def Obligations.DescriptorsCompleteAndClipJobsStart : Prop :=
  (∀ (s : State) (c : Nat),
     (∀ (cls inst q : Nat) (d : QEntry) (pre rest : List QEntry), s.queueExists cls inst q = true →
       let key := qKey cls inst q
       let old := s.engQ key
       old.entries = pre ++ d :: rest → d.fin = true → (∀ e ∈ old.entries, e.done = false) → (∀ e ∈ pre, e.fin = false) →
       (∀ e ∈ pre ++ rest, e.ticket ≠ d.ticket) → Completes (exec (.engineDescriptorComplete cls inst q) s) fun t =>
         (pre = [] → t.engQ key = ⟨old.accepted, (old.done + 1) % 2 ^ 32, rest⟩) ∧
         (pre ≠ [] → t.engQ key = ⟨old.accepted, old.done % 2 ^ 32, pre ++ { d with fin := true, done := true } :: rest⟩) ∧
         let header := (s.fetched d 1).w 0
         (bit header 4 = false → t.seq d.src =
           { s.seq d.src with events := (s.seq d.src).events ||| flag (16 + header % 16) }) ∧
         (bit header 4 = true → t.seq d.src = s.seq d.src) ∧ SameSeqsBut s t d.src ∧ SameBytes s t) ∧
     (c < s.par.clusters → (s.clu c).failed = false → 7 ≤ s.stage → s.inS4 = false → s.logical c ≠ 0x7F →
       s.fm.standing.contains (.cluster (s.logical c)) = false → s.recoveringSev (.cluster (s.logical c)) = none →
       (∀ q, q < 8 → ∀ e ∈ (s.engQ (qKey 0 c q)).entries ++ (s.engQ (qKey 2 c 0)).entries, e.addr + 64 ≤ dramBase) →
       ∀ kind cause, kind < 6 →
         let trapped := s.rd (Reg.SEQ_STATUS_state c) = 3
         let why := if trapped then s.rdN (Reg.SEQ_STATUS_trap_cause c) else cause
         let l := s.logical c
         let spares := if s.par.fieldDies = 2 then [32, 33, 66, 67] else (List.range s.par.spare).map (s.par.active + ·)
         let die (x : Nat) : Bool := s.par.fieldDies == 2 && decide (34 ≤ x)
         let idle := ((List.range 4).filter fun i => bit (s.rdN Reg.TRV_SPARE_idle) i && spares[i]? != some c).filterMap (spares[·]?)
         let next := ((idle.filter fun x => die x == die c) ++ idle).head?
         let d0 := (if kind = 0 then why % 256 else 0) + 256 * kind
         Completes (exec (.clusterFault c kind cause) s) fun t =>
           (t.clu c).failed = true ∧ (t.clu c).list = none ∧ (t.clu c).job = none ∧ t.rd (Reg.TRV_STATUS_state c) = 3 ∧
           t.rd (Reg.SEQ_STATUS_state c) = (if trapped then 3 else 0) ∧ (∀ j, j < 16 → t.rd (Reg.WM_STATE_held c j) = 0) ∧
           (∀ x, next = some x → t.logical x = l ∧ ∃ f, t.fm.detected = s.fm.detected ++ [f] ∧ f.res = .cluster l ∧
             f.cause = 0x0010 ∧ f.sev = 2 ∧ f.unit = 0x20 ∧ f.inst = c ∧ f.d0 = d0 ∧ f.d1 = x) ∧
           (next = none → ∃ f g, t.fm.detected = s.fm.detected ++ [f, g] ∧ f.cause = 0x0010 ∧ g.cause = 0x0011 ∧ g.sev = 3)) ∧
     (c < s.par.clusters → (s.clu c).startDue = true → s.logical c ≠ 0x7F → (s.clu c).failed = false → s.stopped = false →
       ∀ i code, s.program = some i → i.section_ 2 = some code → Completes (exec (.spareStart c) s) fun t =>
         t.rd (Reg.SEQ_STATUS_state c) = 1 ∧ t.pc (c + 1) = ((code.load + fieldLe i.blob 0x24 4 : Nat) : Int) ∧
         t.greg (c + 1) 1 = BitVec.ofNat 64 (s.logical c) ∧
         t.recoveringSev (.cluster (s.logical c)) = none ∧ SameSeqsBut s t (c + 1) ∧ SameBytes s t)) ∧
  (∀ (s : State) (d : QEntry), s.stopped = false → s.engineDown 4 0 = false →
     let w := (s.fetched d 6).w
     s.canStart d 6 → s.unheld →
     let fails (o : Host.Outcome State Fault Refusal) : Prop := Completes o fun t =>
       t.engineDown 4 0 = true ∧ t.ing = s.ing ∧ SameRegsBut s t (paddockRegs s 2 ++ paddockRegs s 8) ∧ SameBytes s t ∧
       ∃ f, t.fm.detected = s.fm.detected ++ [f] ∧ f.res = .hub 4 0 ∧ f.cause = 0x0040
     let meets (a n b m : Nat) : Prop := a < b + m ∧ b < a + n
     (s.headOf (qKey 4 0 0) = some d → s.ing.recJob = none →
       (∀ p, s.ing.playJob = some p → meets (w 1) (w 2) p.base p.size → fails (exec .clipRecord s)) ∧
       ((∀ p, s.ing.playJob = some p → ¬ meets (w 1) (w 2) p.base p.size) → Completes (exec .clipRecord s) fun t =>
         t.ing.recJob = some ⟨d.ticket, w 1, w 2, w 3, bit (w 0) 5, 0, 0⟩ ∧ SameRegsBut s t (paddockRegs s 2) ∧ SameBytes s t)) ∧
     (s.headOf (qKey 4 0 1) = some d → s.ing.playJob = none →
       (∀ r, s.ing.recJob = some r → meets (w 1) (w 2) r.base r.size → fails (exec .clipPlayback s)) ∧
       ((∀ r, s.ing.recJob = some r → ¬ meets (w 1) (w 2) r.base r.size) → Completes (exec .clipPlayback s) fun t =>
         t.rd Reg.ING_STATE_playback = 1 ∧ SameBytes s t ∧
         ∃ j, t.ing.playJob = some j ∧ j.desc = d.ticket ∧ j.base = w 1 ∧ j.size = w 2 ∧ j.limit = w 3 ∧ j.loop = bit (w 0) 5 ∧
           j.show_ = w 4 ∧ j.pos = 0 ∧ j.frames = 0)))

/-! ### Clips and correction tables (R202 to R207, R375 to R388) -/

/-- R376, R377, R380, R386, R387: the table loader's descriptors, window writes, and the end of the resync. The fault map's
copies lie in common paddock without errors, its plots' entries stand one plot after another, and nothing holds what the loader
accesses. -/
def Obligations.CorrectionTablesAreEdited : Prop :=
  ∀ (s : State) (d : QEntry), s.stopped = false → s.engineDown 5 0 = false → s.headOf (qKey 5 0 0) = some d →
    s.rd Reg.CORR_STATUS_resync = 0 → s.rdN Reg.CORR_STATUS_fmap_active < 2 → (∀ a, s.serve a = .plain) → s.unheld →
    d.addr % 8 = 0 → d.addr + 32 ≤ s.par.clusters * 0x300000 →
    let copy (i : Nat) : Nat := commonBase + 64 * s.efN Reg.CORR_FMAP_base + i * 0x42000
    let map_ := copy (1 - s.rdN Reg.CORR_STATUS_fmap_active)
    s.region (copy 0) = .common → s.region (copy 2 - 1) = .common →
    let first (u : State) (p : Nat) : Nat := u.word (map_ + 8 * p) 8 % 2 ^ 17
    let count (u : State) (p : Nat) : Nat := u.word (map_ + 8 * p) 8 / 2 ^ 32
    let entries (u : State) (p : Nat) : List Nat := (List.range (count u p)).map fun i => u.word (map_ + 0x2000 + 4 * (first u p + i)) 4
    let total (u : State) : Nat := ((List.range 1024).map (count u)).sum
    let w := s.dword d
    let op := w 0 / 2 ^ 5 % 8
    let plot := w 1 % 2 ^ 11
    let v := w 1 / 2 ^ 32
    let ends (t : State) (outcome : Nat) : Prop := t.word (d.addr + 24) 8 = outcome + 2 ^ 16 * total t ∧
      Finishes s t (qKey 5 0 0) d.ticket ∧ t.accepted Reg.CORR_FMAP_shadow_entries = (total t : Nat)
    let same (t : State) : Prop := ∀ p, p < 1024 → entries t p = entries s p
    let packed := first s 0 = 0 ∧ (∀ p, p < 1023 → first s (p + 1) = first s p + count s p) ∧
      (∀ p, p < 1024 → s.word (map_ + 8 * p) 8 = first s p + 2 ^ 32 * count s p) ∧ total s ≤ 65536
    let defined (o : Nat) : Prop := o < 32 * (s.par.tileLinks / 2) ∨ (0x10000 ≤ o ∧ o < 0x14000 ∧ o % 0x1000 < 0xC00) ∨
      (0x100000 ≤ o ∧ o < 0x160000)
    let src := w 1 % 2 ^ 40
    let dst := w 2 % 2 ^ 24
    let len := w 2 / 2 ^ 24 % 2 ^ 17
    let bad := src % 8 ≠ 0 ∨ dst % 8 ≠ 0 ∨ len < 8 ∨ 65536 < len ∨ len % 8 ≠ 0 ∨ 0x800000 < dst + len ∨
      (s.paddockRange src len = false ∧ s.dramRange src len = false)
    packed →
    (op = 1 → plot < s.par.plots → v % 4 ≠ 3 →
      (v ∈ entries s plot → Completes (exec .faultAdd s) fun t => ends t 1 ∧ same t) ∧
      (v ∉ entries s plot → total s = 65536 → Completes (exec .faultAdd s) fun t => ends t 3 ∧ same t) ∧
      (v ∉ entries s plot → total s < 65536 → Completes (exec .faultAdd s) fun t => ends t 0 ∧
        entries t plot = (entries s plot).takeWhile (· < v) ++ v :: (entries s plot).dropWhile (· < v) ∧
        ∀ p, p < 1024 → p ≠ plot → entries t p = entries s p)) ∧
    (op = 2 → plot < s.par.plots → v % 4 ≠ 3 →
      (v ∉ entries s plot → Completes (exec .faultRemove s) fun t => ends t 2 ∧ same t) ∧
      (v ∈ entries s plot → Completes (exec .faultRemove s) fun t => ends t 0 ∧ entries t plot = (entries s plot).erase v ∧
        ∀ p, p < 1024 → p ≠ plot → entries t p = entries s p)) ∧
    (op = 1 → v % 4 = 3 ∨ s.par.plots ≤ plot → Completes (exec .faultAdd s) fun t => ends t 4 ∧ same t) ∧
    (op = 2 → v % 4 = 3 ∨ s.par.plots ≤ plot → Completes (exec .faultRemove s) fun t => ends t 4 ∧ same t) ∧
    (op = 3 → Completes (exec .faultClear s) fun t => ends t 0 ∧ ∀ p, p < 1024 → entries t p = []) ∧
    (4 ≤ op ∨ (op = 0 ∧ bad) → Completes (exec .copyIn s) fun t => ends t 4 ∧ t.corr = s.corr) ∧
    (op = 0 → ¬ bad → Completes (exec .copyIn s) fun t => ends t 0 ∧
      (∀ i, i < len → defined (dst + i) → t.corrRead (dst + i) = s.byte (src + i)) ∧
      ∀ o, o < dst ∨ dst + len ≤ o → t.corrRead o = s.corrRead o) ∧
    (∀ (u : State) (off : Nat) (eight : Bool) (val : BitVec 64), u.par = s.par → u.hostUp = true → off < 0x1000000 →
      let n := if eight then 8 else 4
      off % n = 0 →
      let o := exec (.corrWindowWrite (0x1000000 + off) eight val) u
      (0x800000 ≤ off ∨ ¬ defined off → Completes o fun t => t.corr = u.corr ∧
        t.rdN Reg.CORR_CNT_window_ro = min 0xFFFFFFFF (u.rdN Reg.CORR_CNT_window_ro + 1)) ∧
      (off < 0x800000 → defined off → Completes o fun t =>
        (∀ i, i < n → t.corrRead (off + i) = BitVec.ofNat 8 (val.toNat / 256 ^ i)) ∧
        (∀ x, x < off ∨ off + n ≤ x → t.corrRead x = u.corrRead x) ∧ SameRegsBut u t [] ∧ SameBytes u t)) ∧
    (∀ u : State, u.rd Reg.CORR_STATUS_resync = 1 → u.rdN Reg.CORR_STATUS_fmap_active < 2 → (∀ a, u.serve a = .plain) → u.unheld →
      Completes (exec .corrResyncComplete u) fun t =>
      let map (i : Nat) : Nat := commonBase + 64 * u.efN Reg.CORR_FMAP_base + i * 0x42000
      let live := u.rdN Reg.CORR_STATUS_fmap_active
      t.rd Reg.CORR_STATUS_resync = 0 ∧ (∀ x, t.corrRead x = u.corrRead x) ∧ t.corr.active = u.corr.active ∧
      (u.corr.waiting = [] → ∀ x, x < 0x800000 → t.corrRead x = t.corrRead (x + 0x800000)) ∧
      (u.region (map 0) = .common → u.region (map 2 - 1) = .common → t.bytes (map (1 - live)) 0x42000 = u.bytes (map live) 0x42000))

/-! ### Trust and NVM (R572 to R604) -/

/-- R575 to R580, R582 to R586: the trust engine's descriptors. VERIFY and VERIFY_LOAD make every check and report the lowest
that fails and all of them, a load writes only with outcome 0, RECORD changes the owner's data, and ATTEST and CERT write what
the rules lay out. Memory holds no error, nothing holds what the engine accesses, the image's header passes R108, and no NVM
page is being written. -/
def Obligations.TrustEngineVerifiesAndReports : Prop :=
  ∀ (s : State) (d : QEntry), s.stopped = false → s.engineDown 6 0 = false → s.headOf (qKey 6 0 0) = some d →
    (∀ a, s.serve a = .plain) → s.unheld → s.nvm.writes = [] → d.addr % 8 = 0 → d.addr + 40 ≤ s.par.clusters * 0x300000 →
    let w := s.dword d
    let op := w 0 / 2 ^ 5 % 8
    let src := w 1 % 2 ^ 40
    let len := w 2 % 2 ^ 32
    let dst := w 3 % 2 ^ 40
    let at_ (n : Nat) : Prop := s.paddockRange src n = true ∨ s.dramRange src n = true
    let ends (t : State) (bad : Nat → Bool) (written : Nat) : Prop :=
      let outcome := ((List.range 16).find? bad).getD 0
      let mask := ((List.range 16).map fun i => if bad (i + 1) then 2 ^ i else 0).sum
      t.word (d.addr + 32) 8 = outcome + mask * 2 ^ 16 + written * 2 ^ 32 ∧ t.rdN Reg.TRUST_STATUS_last_outcome = outcome ∧
      t.rdN Reg.TRUST_STATUS_last_failed = mask ∧ Finishes s t (qKey 6 0 0) d.ticket
    let counted (t : State) (ok : Bool) : Prop :=
      let h := if ok then Reg.TRUST_CNT_accepted else Reg.TRUST_CNT_rejected
      t.rdN h = min 0xFFFFFFFF (s.rdN h + 1)
    let block (h b : Bytes) (c : Nat) : Bool :=
      let signer := fieldLe b 4 1
      let slot := fieldLe b 5 1
      let m := h ++ b.take 2000
      let key := (Config.sha512 ((b.drop 16).take 1984)).toList
      (c == 3 && decide (fieldLe b 0 4 ≠ 0x4E474953 ∨ 2 ≤ fieldLe b 6 2 ∨ fieldLe b 8 8 ≠ 0 ∨ fieldLe b 5373 3 ≠ 0)) ||
      (c == 4 && !((signer == 0 && decide (slot < 4) && !s.trust.revoked.getLsbD slot && s.trust.vendorHashes[slot]? == some key) ||
        (signer == 1 && decide (slot < 4) && bit (s.nvmByte 0x24001).toNat slot && s.nvmBytes (0x24040 + 64 * slot) 64 == key))) ||
      (c == 5 && !Config.ed25519Verify ((b.drop 16).take 32) m ((b.drop 2000).take 64)) ||
      (c == 6 && !Config.mlDsaVerify ((b.drop 48).take 1952) m ((b.drop 2064).take 3309))
    let h := s.bytes src 128
    let plen := fieldLe h 0x18 8
    let payload := s.bytes (src + 128) plen
    let off := (128 + plen + 7) / 8 * 8
    let b := s.bytes (src + off) 5376
    let signer := fieldLe b 4 1
    let image (c : Nat) : Bool := block h b c || (c == 2 && (Config.sha512 payload).toList != (h.drop 0x40).take 64) ||
      (c == 7 && decide (fieldLe h 0x10 4 < (s.tally (if signer = 0 then 4 else 5)).1)) ||
      (c == 8 && signer == 0 && s.nvmByte 0x24000 != 1)
    let good := s.headerOk h payload = true ∧ off + 5376 ≤ len ∧ at_ len
    let clash := s.overlapsProgram (sectionsOf h payload) = true
    let passes := ∀ c, c < 16 → image c = false
    let body := h
    let rblock := s.bytes (src + 128) 5376
    let formed := bodyFormed body = true ∧ 5504 ≤ len ∧ at_ len
    let rslot := fieldLe body 5 1
    let refused := s.opRefused body rblock = true
    let stale := fieldLe body 8 8 ≠ s.trust.serial.toNat ∨ fieldLe body 16 8 ≠ (s.tally 3).1 + 1
    let record (c : Nat) : Bool := block body rblock c || (c == 11 && decide stale) || (c == 12 && decide refused)
    (op = 1 → good → Completes (exec .verify s) fun t => ends t image 0 ∧ (passes → counted t true) ∧ (¬ passes → counted t false) ∧
      SameBytesBut s t (d.addr + 32) 8) ∧
    (op = 0 → good → ¬ passes ∨ clash → Completes (exec .verifyLoad s) fun t =>
      ends t (fun c => image c || (c == 10 && decide clash)) 0 ∧ counted t false ∧ t.trust = s.trust ∧
      SameBytesBut s t (d.addr + 32) 8) ∧
    (op = 0 → good → passes → ¬ clash → dst % 128 = 0 → s.inLowerHalf dst 5504 = true → Completes (exec .verifyLoad s) fun t =>
      ends t image (((sectionsOf h payload).map (·.size)).sum + 5504) ∧ counted t true ∧ t.bytes dst 5504 = h ++ b ∧
      t.imageAt dst = some ⟨dst, sectionsOf h payload, h ++ b, fieldLe h 6 2⟩ ∧
      ∀ x, sectionsOf h payload = [x] → x.load + x.size ≤ dst ∨ dst + 5504 ≤ x.load →
        t.bytes x.load x.size = s.bytes (src + 128 + x.offset) x.size) ∧
    (op = 3 → formed → (∃ c, c < 16 ∧ record c = true) → Completes (exec .record s) fun t =>
      ends t record 0 ∧ counted t false ∧ t.trust = s.trust ∧ t.nvm = s.nvm) ∧
    (op = 3 → formed → (∀ c, c < 16 → record c = false) → Completes (exec .record s) fun t => ends t record 0 ∧ counted t true ∧
      (fieldLe body 4 1 = 1 → bit (t.nvmByte 0x24001).toNat rslot = true ∧
        t.nvmBytes (0x24040 + 64 * rslot) 64 = (body.drop 64).take 64) ∧
      (fieldLe body 4 1 = 2 → bit (t.nvmByte 0x24001).toNat rslot = false) ∧
      (fieldLe body 4 1 = 3 → t.nvmByte 0x24000 = BitVec.ofNat 8 (fieldLe body 6 1)) ∧
      (fieldLe body 4 1 = 4 → t.trust = { s.trust with revoked := s.trust.revoked ||| BitVec.ofNat 4 (2 ^ rslot) })) ∧
    (op = 2 → at_ 32 → dst % 8 = 0 → s.paddockRange dst 3952 = true → dst + 3952 ≤ d.addr ∨ d.addr + 40 ≤ dst →
      Completes (exec .attest s) fun t =>
        let r := leBytes 4 0x54535441 ++ leBytes 2 1 ++ leBytes 2 0 ++ leBytes 8 s.trust.serial.toNat ++ s.bytes src 32 ++
          leBytes 8 s.activeWord ++ leBytes 8 (s.rdN Reg.FRAME_COUNT_count) ++ (List.range 8).flatMap fun m => measure_ (s.measured m)
        t.bytes dst 576 = r ∧ t.bytes (dst + 576) 64 = (Config.ed25519Sign r).toList ∧
        t.bytes (dst + 640) 3309 = (Config.mlDsaSign s.trust.signings r).toList ∧ ends t (fun _ => false) 3952) ∧
    (op = 4 → dst % 8 = 0 → s.paddockRange dst s.nvm.cert.length = true → s.nvm.cert.length ≤ 8192 →
      dst + s.nvm.cert.length ≤ d.addr ∨ d.addr + 40 ≤ dst → Completes (exec .cert s) fun t =>
        t.bytes dst s.nvm.cert.length = s.nvm.cert ∧ ends t (fun _ => false) s.nvm.cert.length)

/-- R590 to R599: the NVM's descriptors and the commit of a page write. The data lies in cluster slices without errors, apart
from the descriptor, and its bank writes nothing. A partition without a password admits any (log 19). -/
def Obligations.NvmDescriptorsRunOnTheirBank : Prop :=
  ∀ (s : State) (bank : Nat) (d : QEntry), bank < 4 → s.stopped = false → s.engineDown 7 bank = false →
    s.headOf (qKey 7 bank 0) = some d → (∀ x ∈ s.nvm.writes, x.page / 2048 ≠ bank) → s.mem.bad = [] →
    d.addr % 8 = 0 → d.addr + 32 ≤ s.par.clusters * 0x300000 →
    let w := s.dword d
    let op := w 0 / 2 ^ 5 % 8
    let a := w 1 % 2 ^ 19
    let n := w 1 / 2 ^ 48 % 2 ^ 8
    let data := w 2 % 2 ^ 40
    let i := w 1 % 2 ^ 5
    let p := w 1 % 2 ^ 3
    let kind := w 1 / 2 ^ 3 % 2
    let value := (s.tally i).1
    let inside (m : Nat) : Prop := data + m ≤ s.par.clusters * 0x300000 ∧ (data + m ≤ d.addr ∨ d.addr + 32 ≤ data)
    let ends (t : State) (result : Nat) : Prop := t.word (d.addr + 24) 8 = result ∧
      Finishes s t (qKey 7 bank 0) d.ticket
    let range := a % 64 = 0 ∧ 1 ≤ n ∧ n ≤ 64 ∧ a / 2 ^ 17 = bank ∧ (a + 64 * n - 1) / 2 ^ 17 = bank
    let shut (part k : Nat) : Bool := s.nvmLocked part k
    let begun (t : State) (page : Nat) (b : Bytes) (status v : Nat) : Prop := t.nvm.cells = s.nvm.cells ∧
      t.nvm.writes = s.nvm.writes ++ [⟨page, b, some (d.ticket, status + 2 ^ 32 * v)⟩] ∧
      t.headOf (qKey 7 bank 0) = some (s.fetched d 4) ∧ (t.engQ (qKey 7 bank 0)).done = (s.engQ (qKey 7 bank 0)).done
    let pw := s.bytes data 16
    let match_ := s.password p kind = [] ∨ s.password p kind = (Config.sha512 pw).toList
    let fails := s.rdN Reg.NVM_LOCKS_fails
    let open_ (t : State) : Bool := bit (t.rdN Reg.NVM_LOCKS_open) (2 * p + kind)
    (op = 0 → ¬ range → Completes (exec (.nvmRead bank) s) fun t => ends t 4) ∧
    (op = 0 → range → n = 1 → inside 64 → partOf (a / 64) = none → Completes (exec (.nvmRead bank) s) fun t =>
      ends t 0 ∧ t.bytes data 64 = List.replicate 64 0) ∧
    (op = 0 → range → n = 1 → inside 64 → ∀ part, partOf (a / 64) = some part →
      (shut part 0 = true → Completes (exec (.nvmRead bank) s) fun t => ends t 2 ∧ t.bytes data 64 = List.replicate 64 0) ∧
      (shut part 0 = false → s.nvm.bad = [] → Completes (exec (.nvmRead bank) s) fun t =>
        ends t 0 ∧ t.bytes data 64 = s.nvmBytes a 64)) ∧
    (op = 1 → ¬ range → Completes (exec (.nvmWrite bank) s) fun t => ends t 4) ∧
    (op = 1 → range → n = 1 → inside 64 → writeRoute (a / 64) = false → Completes (exec (.nvmWrite bank) s) fun t =>
      ends t 3 ∧ t.nvm = s.nvm) ∧
    (op = 1 → range → n = 1 → inside 64 → writeRoute (a / 64) = true → ∀ part, partOf (a / 64) = some part →
      (shut part 1 = true → Completes (exec (.nvmWrite bank) s) fun t => ends t 2 ∧ t.nvm = s.nvm) ∧
      (shut part 1 = false → Completes (exec (.nvmWrite bank) s) fun t => begun t (a / 64) (s.bytes data 64) 0 0)) ∧
    (op = 2 → bank ≠ 1 → Completes (exec (.nvmTallyInc bank) s) fun t => ends t 4) ∧
    (op = 2 → bank = 1 → i < 8 → Completes (exec (.nvmTallyInc bank) s) fun t => ends t (3 + value % 2 ^ 32 * 2 ^ 32) ∧ t.nvm = s.nvm) ∧
    (op = 2 → bank = 1 → 8 ≤ i → value = 2 ^ 63 - 1 → Completes (exec (.nvmTallyInc bank) s) fun t =>
      ends t (7 + value % 2 ^ 32 * 2 ^ 32) ∧ t.nvm = s.nvm) ∧
    (op = 2 → bank = 1 → 8 ≤ i → value < 2 ^ 63 - 1 → Completes (exec (.nvmTallyInc bank) s) fun t =>
      begun t (s.tallyPage i).1 (s.tallyPage i).2 0 ((value + 1) % 2 ^ 32)) ∧
    (op = 3 → bank = 1 → Completes (exec (.nvmTallyRead bank) s) fun t => ends t (value % 2 ^ 32 * 2 ^ 32) ∧ t.nvm = s.nvm) ∧
    (op = 4 → bank = 0 → p ≤ 4 → inside 16 →
      (8 ≤ fails → Completes (exec (.nvmUnlock bank) s) fun t => ends t 6 ∧ t.nvm = s.nvm) ∧
      (fails < 8 → match_ → Completes (exec (.nvmUnlock bank) s) fun t => ends t 0 ∧ open_ t = true) ∧
      (fails < 8 → ¬ match_ → Completes (exec (.nvmUnlock bank) s) fun t => ends t 5 ∧ open_ t = open_ s ∧
        t.rdN Reg.NVM_LOCKS_fails = fails + 1)) ∧
    (op = 5 → bank = 0 → p ≤ 4 → Completes (exec (.nvmLock bank) s) fun t => ends t 0 ∧ open_ t = false) ∧
    (op = 6 → bank = 0 → p ≤ 4 → inside 16 →
      (shut p 1 = true → Completes (exec (.nvmSetpw bank) s) fun t => ends t 2 ∧ t.nvm = s.nvm) ∧
      (shut p 1 = false → Completes (exec (.nvmSetpw bank) s) fun t => ends t 0 ∧
        t.password p kind = if pw = List.replicate 16 0 then [] else (Config.sha512 pw).toList)) ∧
    (op = 7 → bank = 0 →
      (shut 0 1 = true → Completes (exec (.nvmBenchSave bank) s) fun t => ends t 2 ∧ t.nvm = s.nvm) ∧
      (shut 0 1 = false → Completes (exec (.nvmBenchSave bank) s) fun t => t.nvm.cells = s.nvm.cells ∧
        t.nvm.writes.map (·.page) = s.nvm.writes.map (·.page) ++ (List.range 21).map (0x206 + ·))) ∧
    (∀ (u : State) (pre rest : List PageWrite) (x : PageWrite), u.nvm.writes = pre ++ x :: rest → x.page / 2048 = bank →
      (∀ y ∈ pre, y.page / 2048 ≠ bank) → (∀ y ∈ rest, y.page ≠ x.page) → x.data.length = 64 → Completes (exec (.nvmPageCommit bank) u) fun t =>
        t.nvm.writes = pre ++ rest ∧ t.nvmBytes (64 * x.page) 64 = x.data ∧
        (∀ c, c < 64 * x.page ∨ 64 * x.page + 64 ≤ c → t.nvmByte c = u.nvmByte c) ∧
        t.rdN Reg.NVM_CNT_writes = min 0xFFFFFFFF (u.rdN Reg.NVM_CNT_writes + 1)) ∧
    (∀ (u : State) (x : NvmHost), u.nvm.host = some x → (∀ y ∈ u.nvm.writes, y.page / 2048 ≠ x.bank) → x.data.length = 64 →
      Completes (exec .nvmHostCommandDone u) fun t => t.nvm.host = none ∧ t.rd Reg.NVM_STATUS_host_busy = 0 ∧
        t.rdN Reg.NVM_STATUS_host_result = x.status ∧ (∀ j, j < 16 → t.rdN (Reg.NVM_DATA_d j) = fieldLe x.data (4 * j) 4) ∧
        t.host.raised = u.host.raised ++ [11])

/-! ### Datums and PTP (R494 to R507) -/

/-- R494, R497 to R501: the loss of a datum that has had no Sync for loss_ms is a fault and may switch the source, without a
step of the active datum; while ticks pass the counters run at their increments and the offset slews toward zero, which sets
e9. R500, R503 to R507: a PTP frame of a datum goes into its port's ring with its timestamps, a Sync revives its datum, and a
sent frame leaves its queue; an event message leaves a timestamp entry. The ring lies in common paddock without errors, and
nothing holds what PTP accesses. -/
def Obligations.DatumsRunAndPtpFramesAreStamped : Prop :=
  (∀ (s : State) (d dt : Nat), s.rd Reg.CLK_STATUS_m0_lock = 1 →
     let lost (k : Nat) := if k = 0 then Reg.DATUM_STATE_a_lost else Reg.DATUM_STATE_b_lost
     let source (u : State) := u.rdN Reg.DATUM_STATE_active
     let o := s.clk.offset
     let moved := s.clk.slewRem + dt * s.efN Reg.DATUM_CTRL_slew_ppb * 2 ^ 33
     let runs (t : State) : Prop :=
       (∀ n, n = (s.clk.free.units : Int) + dt * 2 ^ 33 → n < 2 ^ 48 * 1000000000 * 2 ^ 32 → (t.clk.free.units : Int) = n) ∧
       ∀ k n, k < 2 → n = ((s.datum k).units : Int) + dt * (2 ^ 33 + s.ef (Reg.DATUM_adj k)) → 0 ≤ n →
         n < 2 ^ 48 * 1000000000 * 2 ^ 32 → ((t.datum k).units : Int) = n
     let faulted (u t : State) (l : List FaultItem) : Prop := ∃ f, t.fm.detected = u.fm.detected ++ f :: l ∧ f.res = .datum d ∧
       f.cause = 0x0028 ∧ (u.recoveringSev (.datum d) = none → f.sev = if source u = d then 2 else 1)
     let still (t : State) (l : List Nat) : Prop := SameBytes s t ∧ ((∀ m, (s.lnk m).buffer = []) → SameRegsBut s t (l ++ waitRegs s))
     let may (u : State) : Prop := u.rd Reg.DATUM_CTRL_auto_switch = 1 ∧ u.rd (lost (1 - d)) = 0 ∧ u.rd (Reg.DATUM_lock (1 - d)) = 1
     let due (u : State) : Prop := u.rd (lost d) ≠ 1 ∧
       Tab.get 0 u.clk.syncAt d + u.efN (Reg.DATUM_loss_ms d) * 1000000 * 2 ^ 32 ≤ u.clk.free.units
     (∀ u, u = s.advance dt → d < 2 → ¬ due u → Completes (exec (.datumLoss ⟨dt, d⟩) s) fun t => t = u) ∧
     (∀ u, u = s.advance dt → d < 2 → due u → source u ≠ d ∨ ¬ may u → Completes (exec (.datumLoss ⟨dt, d⟩) s) fun t =>
       t.rd (lost d) = 1 ∧ faulted u t [] ∧ t.clk = u.clk ∧ SameRegsBut u t [lost d] ∧ SameBytes u t) ∧
     (∀ u, u = s.advance dt → d < 2 → due u → source u = d → may u → Completes (exec (.datumLoss ⟨dt, d⟩) s) fun t =>
       t.rd (lost d) = 1 ∧ (∃ l, faulted u t l) ∧ t.rdN Reg.DATUM_STATE_active = 1 - d ∧ t.active = (u.advance 1).active ∧
       t.rdN Reg.DATUM_STATE_switches = min 0xFFFFFFFF (u.rdN Reg.DATUM_STATE_switches + 1)) ∧
     (o ≠ 0 → o.natAbs ≤ moved / 1000000000 → Completes (exec (.datumSlewComplete dt) s) fun t =>
       runs t ∧ t.clk.offset = 0 ∧ (t.seq 0).events = (s.seq 0).events ||| flag 9 ∧ t.host.raised = s.host.raised ++ [9] ∧
       SameSeqsBut s t 0 ∧ still t [Reg.HOST_IRQ_cause]) ∧
     (moved / 1000000000 < o.natAbs → Completes (exec (.datumSlewComplete dt) s) fun t =>
       runs t ∧ t.clk.offset = (if 0 < o then o - (moved / 1000000000 : Nat) else o + (moved / 1000000000 : Nat)) ∧
       (∀ k, t.seq k = s.seq k) ∧ still t [])) ∧
  (∀ (s : State) (p sub : Nat) (b : Bytes), p < s.par.ports → sub < 4 → 14 ≤ b.length → s.unheld →
     let o := exec (.ptpRxFrame p sub (withFcs b)) s
     let head := s.rdN (Reg.PTP_RX_head p)
     let waiting := (head + 65536 - s.rdN (Reg.PTP_RX_tail p)) % 65536
     let mine (d : Nat) : Prop := s.ptpDatum p b d = true
     let a := 64 * s.efN (Reg.PTP_RX_ring p) + 2048 * (head % 32)
     let plus (t : State) (h : Nat) : Prop := t.rdN h = min 0xFFFFFFFF (s.rdN h + 1)
     let lost (d : Nat) := if d = 0 then Reg.DATUM_STATE_a_lost else Reg.DATUM_STATE_b_lost
     let event := ∃ tr at_, ptpHeader b = some (tr, at_) ∧ ptpType b at_ < 4
     let early := -s.ef (Reg.PTP_LAT_rx_ps p)
     (bit (s.rdN (Reg.PORT_STATUS_link p)) sub = false → Completes o fun t => t = s) ∧
     (bit (s.rdN (Reg.PORT_STATUS_link p)) sub = true →
       (¬ mine 0 → ¬ mine 1 → Completes o fun t => plus t (Reg.PORT_CNT_filtered p) ∧
         SameRegsBut s t [Reg.PORT_CNT_filtered p] ∧ t = { s with regs := t.regs }) ∧
       (mine 0 ∨ mine 1 → waiting = 32 → Completes o fun t => plus t (Reg.PTP_RX_dropped p) ∧
         t.rdN (Reg.PTP_RX_head p) = head ∧ SameBytes s t) ∧
       (mine 0 ∨ mine 1 → waiting ≠ 32 → (∀ g, s.serve g = .plain) → s.region a = .common → s.region (a + 2047) = .common →
         b.length ≤ 2016 → Completes o fun t =>
           t.rdN (Reg.PTP_RX_head p) = (head + 1) % 65536 ∧ t.word a 2 = b.length ∧
           (event → t.word (a + 2) 6 = sub + 4) ∧ (¬ event → t.word (a + 2) 6 = sub) ∧
           t.word (a + 8) 8 = s.clk.a.stamp early ∧ t.word (a + 16) 8 = s.clk.b.stamp early ∧
           t.word (a + 24) 8 = s.clk.free.stamp early ∧ t.bytes (a + 32) b.length = b ∧ SameBytesBut s t a (32 + b.length) ∧
           ∀ d, d < 2 → mine d → (∀ tr at_, ptpHeader b = some (tr, at_) → ptpType b at_ = 0) →
             t.rd (lost d) = 0 ∧ plus t (Reg.DATUM_syncs d) ∧ Tab.get 0 t.clk.syncAt d = s.clk.free.units)) ∧
     (∀ (f : PtpTx) (rest : List PtpTx), (s.ptpPort p).tx = f :: rest →
       let frame := s.bytes (64 * f.buf) f.len
       let x := (s.ptpPort p).tsq
       let late := s.ef (Reg.PTP_LAT_tx_ps p)
       let entry : Tsq := ⟨f.ident, s.clk.a.stamp late, s.clk.b.stamp late, s.clk.free.stamp late⟩
       Completes (exec (.ptpFrameSent p) s) fun t => (t.ptpPort p).tx = rest ∧ t.rdN (Reg.PTP_TX_queued p) = rest.length ∧
         SameBytes s t ∧ (∃ g, g.length = f.len ∧ t.out = .ethernet p (g ++ leBytes 4 (crcFcs g)) :: s.out) ∧
         (s.readable (64 * f.buf) f.len → t.out = .ethernet p (frame ++ leBytes 4 (crcFcs frame)) :: s.out ∧
         (ptpEvent frame = false → (t.ptpPort p).tsq = x) ∧
         (ptpEvent frame = true → x.length < 32 → (t.ptpPort p).tsq = x ++ [entry] ∧ t.rdN (Reg.TSQ_count p) = x.length + 1) ∧
         (ptpEvent frame = true → 32 ≤ x.length → (t.ptpPort p).tsq = x ∧ t.rd (Reg.TSQ_ovf p) = 1 ∧
           plus t (Reg.TSQ_dropped p)))))

/-! ### Periods and rest (R508 to R521) -/

/-- R508 to R518: the latch point, the three ways in which a period ends, and the first period. A row whose conditions do not
hold once its ticks have passed does nothing more. The show times are those of free-running periods but in the locked row; a
frame program that becomes active has no field table of its own. -/
def Obligations.PeriodsLatchAndStart : Prop :=
  ∀ (s : State) (dt : Nat),
    let u := s.advance dt
    let ns (n : Nat) : Int := (n : Int) * 2 ^ 32
    let st := u.rdN Reg.FT_STATE_state
    let inPeriod := u.stopped = false ∧ (st = 1 ∨ st = 2)
    let elapsed := u.active - u.frame.startAt
    let done := (∀ c ∈ u.serving, (u.clu c).band255 = true ∧ u.frameListBusy c = false) ∧
      (∀ c, c < u.par.clusters → u.encBusy c = false) ∧ ∀ x ∈ u.links, x.2.unsent = 0
    let plus (t : State) (h : Nat) : Prop := t.rdN h = min 0xFFFFFFFF (u.rdN h + 1)
    let latched (t : State) : Prop := t.rd Reg.FT_STATE_state = 2 ∧ t.rdN Reg.FT_LATCH_time = u.activeWord ∧
      (t.seq 0).events.getLsbD 1 = true ∧ ∀ c ∈ u.serving, (t.seq (c + 1)).events.getLsbD 1 = true
    let commit := u.rdN Reg.FT_COMMIT_next
    let starts (t : State) (show_ : Nat) : Prop :=
      t.rdN Reg.FRAME_COUNT_count = u.rdN Reg.FRAME_COUNT_count + 1 ∧ t.rdN Reg.FT_START_time = u.activeWord ∧
      (∀ k, k ≤ u.par.clusters → (t.seq k).events.getLsbD 0 = true) ∧
      t.rdN Reg.FT_COMMIT_current = (if commit = 0 then u.rdN Reg.FT_COMMIT_current else commit) ∧
      t.rdN Reg.FT_COMMIT_next = u.rdN Reg.FT_COMMIT_after ∧ t.rd Reg.FT_COMMIT_after = 0 ∧
      (commit = 0 → plus t Reg.FT_CNT_no_commit) ∧ t.frame.showDue = some show_ ∧
      (u.frame.progNext = 0 → t.rdN Reg.MSH_PROG_active = u.rdN Reg.MSH_PROG_active) ∧
      ∀ i, u.frame.progNext ≠ 0 → u.imageAt u.frame.progNext = some i →
        t.rdN Reg.MSH_PROG_active = u.frame.progNext ∧ t.pc 0 = (i.marshalEntry : Int)
    let running := if u.frame.restDecided then 3 else 1
    let free := u.ef Reg.FT_PERIOD_mode = 0
    let lead := u.leadShow
    let fixed := u.startFor u.showNow
    let tmin := ns (u.efN Reg.FT_PERIOD_t_min_ns)
    let tmax := ns (u.efN Reg.FT_PERIOD_t_max_ns)
    let usable := u.ef Reg.FT_PERIOD_mode = 1 ∧ u.showNow ≠ 0 ∧ tmin ≤ fixed - u.frame.startAt ∧ fixed - u.frame.startAt ≤ tmax
    let finished := tmin ≤ elapsed ∧ st = 2 ∧ (∀ c, c < u.par.clusters → ∀ j, (u.clu c).job = some j →
        if j.stopped then j.onto = true else (u.lnk (u.carrier j.link)).granted = 0) ∧
      (∀ x ∈ u.links, x.2.unsent = 0 ∧ x.2.changing = false) ∧ u.rd Reg.ING_STATE_assembled = 1 ∧
      (commit = 0 ∨ u.setAssembled commit = true)
    (∀ i, u.imageAt u.frame.progNext = some i → i.section_ 4 = none ∧ i.section_ 5 = none) →
    (st = 1 → u.stopped = false → done → Completes (exec (.latchPoint dt) s) latched) ∧
    (¬ (st = 1 ∧ u.stopped = false ∧ done) → Completes (exec (.latchPoint dt) s) fun t => t = u) ∧
    (free → st = 1 → u.stopped = false → tmax - ns (1000 * u.efN Reg.FT_PERIOD_latch_guard_us) ≤ elapsed →
      Completes (exec (.forcedLatch dt) s) fun t => latched t ∧ plus t Reg.FT_CNT_forced_latch) ∧
    (free → inPeriod → finished → Completes (exec (.periodStart dt) s) fun t => starts t lead ∧ t.rd Reg.FT_STATE_state = running) ∧
    (free → ¬ (inPeriod ∧ finished) → Completes (exec (.periodStart dt) s) fun t => t = u) ∧
    (free → inPeriod → st = 2 → ¬ finished → tmax ≤ elapsed → Completes (exec (.periodStartTmax dt) s) fun t =>
      starts t lead ∧ plus t Reg.FT_CNT_tmax_starts) ∧
    (free → ¬ (inPeriod ∧ tmax ≤ elapsed) → Completes (exec (.periodStartTmax dt) s) fun t => t = u) ∧
    (inPeriod → usable → st = 2 → fixed ≤ u.active → Completes (exec (.periodStartLocked dt) s) fun t => starts t u.showNow ∧
      (¬ finished → plus t Reg.FT_CNT_tmax_starts)) ∧
    (¬ usable → Completes (exec (.periodStartLocked dt) s) fun t => t = u) ∧
    (∀ r, u.frame.readyAt = some r → st = 0 ∨ st = 4 ∨ st = 5 → u.stopped = false → free →
      (u.rd Reg.ING_STATE_assembled = 1 ∨ tmax ≤ u.active - r → Completes (exec (.firstPeriodStart dt) s) fun t =>
        starts t lead ∧ t.rd Reg.FT_STATE_state = 1) ∧
      (u.rd Reg.ING_STATE_assembled ≠ 1 → u.active - r < tmax → Completes (exec (.firstPeriodStart dt) s) fun t => t = u)) ∧
    (∀ w, u.frame.showDue = some w →
      (u.wordUnits w ≤ u.active → Completes (exec (.showTimeReached dt) s) fun t =>
        t.rdN Reg.LAST_FLIP_time = w ∧ t.frame.showDue = none ∧ SameRegsBut u t [Reg.LAST_FLIP_time] ∧ SameBytes u t) ∧
      (u.active < u.wordUnits w → Completes (exec (.showTimeReached dt) s) fun t => t = u))

/-- R357 to R363, R433, R434, R520, R521, R547: the outcomes of a guarded region whose plots are finished, the end of a gear
change, and rest: its entry, its exit and the end of its exit, with the DRAM trained afresh. -/
def Obligations.GuardOutcomesGearChangesAndRest : Prop :=
  ∀ (s : State) (r n : Nat),
    let plus (t : State) (h k : Nat) : Prop := t.rdN h = min 0xFFFFFFFF (s.rdN h + k)
    let st := s.rdN Reg.FT_STATE_state
    let sum := ((s.regionPlots r).map fun p => Tab.get 0 s.hub.crcs (r * 2048 + p)).sum % 2 ^ 32
    let whole := r < 32 ∧ s.ef (Reg.GUARD_REG_enable r) = 1 ∧ r ∉ s.hub.decided ∧ s.noPeriod = false ∧
      (∀ p ∈ s.regionPlots r, p ∈ s.hub.finished ∧ p ∉ s.hub.halved ∧ s.plotStale p = false)
    let waits (c : Nat) : Prop := s.logical c ≠ 0x7F
    (whole → s.unheld → (∀ a, s.serve a = .plain) → ∀ e, s.setSignature (s.rdN Reg.FT_COMMIT_current) r = some e → Completes (exec (.guardOutcome r) s) fun t =>
      t.rd (Reg.GUARD_STAT_outcome r) = (if sum = e then 1 else 2) ∧ t.rdN (Reg.GUARD_STAT_sig r) = sum ∧
      plus t Reg.GUARD_CNT_compared 1 ∧
      (sum ≠ e → plus t Reg.GUARD_CNT_mismatches 1 ∧ t.rd (Reg.GUARD_STAT_state r) = 2) ∧
      (sum ≠ e → s.rd (Reg.GUARD_STAT_state r) ≠ 2 → r ∉ s.hub.raised → ∃ f, t.fm.detected = s.fm.detected ++ [f] ∧
        f.cause = 0x0030 ∧ f.d0 = r ∧ f.d1 = e + sum * 2 ^ 32 ∧ f.frame = s.rdN Reg.FRAME_COUNT_count)) ∧
    (r < 32 → s.ef (Reg.GUARD_REG_enable r) ≠ 1 ∨ r ∈ s.hub.decided → Completes (exec (.guardOutcome r) s) fun t => t = s) ∧
    (n < s.par.tileLinks → (s.lnk n).changing = true → Completes (exec (.gearChangeComplete n) s) fun t =>
      t.lnk n = { s.lnk n with changing := false } ∧
      t.rd (Reg.LANE_STATE_tx n) = (if s.rd (Reg.LANE_STATE_tx n) = 4 then 3 else s.rd (Reg.LANE_STATE_tx n)) ∧
      (∀ m, m ≠ n → t.lnk m = s.lnk m) ∧ SameRegsBut s t [Reg.LANE_STATE_tx n] ∧ SameBytes s t) ∧
    (st = 3 → s.stopped = false → s.frame.showDue = none → Completes (exec .restEntry s) fun t =>
      t.rd Reg.FT_STATE_state = 4 ∧ plus t Reg.FT_CNT_rests 1 ∧ (t.seq 0).events.getLsbD 3 = true ∧
      (∀ c, c < s.par.clusters → waits c → (t.seq (c + 1)).events.getLsbD 3 = true)) ∧
    (st = 4 → s.stopped = false → s.frame.restTrigger = true → Completes (exec .restExit s) fun t =>
      t.rd Reg.FT_STATE_state = 5 ∧ t.frame.restTrigger = false ∧ t.frame.afterRest = true) ∧
    (st = 5 → s.stopped = false → s.frame.readyAt = none → s.lanesSettled = true → Completes (exec .restExitComplete s) fun t =>
      (∀ ch q, ch < s.par.channels → s.rd (Reg.DRAM_STATUS_state ch) = 0 → q < 34 → Tab.wf blankTrim s.health.quants = true →
        (t.trimQ ch q).value = (t.trimQ ch q).centre ∧ (t.trimQ ch q).ends = 0) ∧
      t.frame.readyAt = some t.active ∧ t.active = s.active ∧ (t.seq 0).events.getLsbD 4 = true ∧
      (∀ c, c < s.par.clusters → waits c → (t.seq (c + 1)).events.getLsbD 4 = true) ∧
      t.host.raised.getLast? = some 8) ∧
    (st = 5 → s.lanesSettled = false → Completes (exec .restExitComplete s) fun t => t = s)

/-! ### Tile links (R411 to R493) -/

/-- R418, R420, R425, R426, R437 to R441, R449 to R451, R465, R466, R485, R486: alignment and its loss, with the failover of
an armed link, the markers of a link both ways, the wake timeout, and a sweep of the back-channel, whose centre is the lower of
the two middle taps of an even run (log 78). The endpoint's line code is in step with the receiver. -/
def Obligations.LanesAlignAndFailOver : Prop :=
  ∀ (s : State) (n : Nat), n < s.par.tileLinks →
    let bc := s.rd (Reg.LANE_STATE_bc n)
    let tx := s.rd (Reg.LANE_STATE_tx n)
    let plus (t : State) (h : Nat) : Prop := t.rdN h = min 0xFFFFFFFF (s.rdN h + 1)
    let other := if n % 2 = 0 then n + 1 else n - 1
    let fails (t : State) (cause : Nat) : Prop := (t.lsvc n).failedOver = true ∧ t.rdN (Reg.TILE_STATUS_cause n) = cause ∧
      plus t (Reg.TILE_CNT_failovers n) ∧
      (t.lnk n).buffer = ((s.lnk n).buffer.map fun p => { p with sent := 0, crc := 0xFFFFFFFF }) ∧
      ∃ f, t.fm.detected = s.fm.detected ++ [f] ∧ f.res = .link n ∧ f.cause = 0x0001 ∧ f.d0 = cause ∧ f.d1 = other ∧
        (s.recoveringSev (.link n) = none → f.sev = 2)
    let now : Int := ((s.clk.free.units : Int) * 1000) / 2 ^ 32 / 100 * 100
    ((s.lnk n).found = false → Completes (exec (.laneAligned n) s) fun t => t = s) ∧
    (bc = 2 → (s.lnk n).found = true → Completes (exec (.laneAligned n) s) fun t => t.rd (Reg.LANE_STATE_bc n) = 3 ∧
      t.rd (Reg.LANE_STATE_bc_aligned n) = 1 ∧ t.rd (Reg.LANE_STATE_bc_los n) = 0 ∧
      t.rd (Reg.LANE_STATE_tx n) = (if tx = 2 ∨ tx = 5 then 3 else tx)) ∧
    (bc ≠ 3 ∨ (s.lnk n).misses < 2 → Completes (exec (.alignmentLoss n) s) fun t => t = s) ∧
    (bc = 3 → 2 ≤ (s.lnk n).misses → Completes (exec (.alignmentLoss n) s) fun t => t.rd (Reg.LANE_STATE_bc n) = 2 ∧
      t.rd (Reg.LANE_STATE_bc_aligned n) = 0 ∧ (s.armed n = true → fails t 1) ∧
      (s.linkOk n = false → t.fm = s.fm ∧ SameRegsBut s t [Reg.LANE_STATE_bc n, Reg.LANE_STATE_bc_aligned n])) ∧
    (bc = 2 ∨ bc = 3 → s.rd (Reg.LANE_STATE_bc_los n) ≠ 1 → Completes (exec (.bcLossOfSignal n) s) fun t =>
      t.rd (Reg.LANE_STATE_bc n) = bc ∧ t.rd (Reg.LANE_STATE_bc_los n) = 1 ∧ plus t (Reg.LANE_CNT_los n) ∧
      (s.armed n = true → fails t 1)) ∧
    (tx = 2 → (s.lsvc n).failedOver = false → (s.lsvc n).failed = false → s.linkOk other = true →
      Completes (exec (.laneWakeTimeout n) s) fun t => t.rd (Reg.LANE_STATE_tx n) = 5 ∧ t.rdN (Reg.TILE_STATUS_cause n) = 4 ∧
        t.rdN (Reg.LANE_CNT_wake_fail n) = min 0xFFFFFFFF (s.rdN (Reg.LANE_CNT_wake_fail n) + if bc = 2 then 2 else 1) ∧
        (s.rd Reg.FAILOVER_enable = 1 → fails t 4) ∧
        (s.rd Reg.FAILOVER_enable ≠ 1 → (t.lsvc n).failed = true ∧ t.fm.detected = s.fm.detected)) ∧
    (tx ≠ 3 ∨ (s.lnk n).changing = true ∨ (s.lnk n).cell ≠ 0 → Completes (exec (.markerSend n) s) fun t => t = s) ∧
    (tx = 3 → (s.lnk n).changing = false → (s.lnk n).cell = 0 → Completes (exec (.markerSend n) s) fun t =>
      let delay := ((s.lsvc n).delayNext % 2 ^ 32).toNat
      let c := s.activeCounter.move ((delay : Int) * 2 ^ 32 / 1000)
      let body := 0x3F :: ([0xC3, 0x5A] ++ leBytes 1 (s.rdN (Reg.LINK_GEAR_gear n)) ++ leBytes 4 (s.lnk n).markers ++
        leBytes 8 c.word ++ leBytes 2 (c.frac / 2 ^ 16) ++ leBytes 2 n ++ leBytes 2 (s.efN Reg.ING_SECTION_id) ++ leBytes 6 0)
      let sent := (s.lnk n).tx.send true (body ++ leBytes 4 (crc32c body))
      t.out = .line n sent.2 :: s.out ∧ (t.lnk n).tx = sent.1 ∧ (t.lnk n).cell = 1 ∧
      t.rdN (Reg.LINK_TIME_delay n) = delay ∧ (t.lnk n).markers = ((s.lnk n).markers + 1) % 2 ^ 32 ∧
      ((s.lsvc n).swapDue = true → t.rdN (Reg.SVC_SLOTS_active n) =
        s.rdN (Reg.SVC_SLOTS_table_lo n) + s.rdN (Reg.SVC_SLOTS_table_hi n) * 2 ^ 32) ∧
      (t.lsvc n).swapDue = false) ∧
    (bc = 2 ∨ bc = 3 → (s.lnk n).rx.run < 31 → ∀ c : Bytes, c.length = 27 →
      let cell := 0x3F :: c
      let o := exec (.upstreamMarker n (s.lineOf n true (cell ++ leBytes 4 (crc32c cell)))) s
      (fieldLe c 0 2 = 0x5AC3 → Completes o fun t => (s.rd (Reg.LANE_STATE_bc_aligned n) = 1 → t.rd (Reg.LANE_STATE_bc_los n) = 0) ∧
        (t.lnk n).misses = 0 ∧ (t.lnk n).good = true ∧
        ((t.lnk n).found = true ↔ (s.lnk n).found = true ∨
          (s.lnk n).good = true ∧ ((s.lnk n).since = 1023 ∨ (s.lnk n).since = 0)) ∧
        t.rd (Reg.TILE_STATUS_compat n) = (if bit (fieldLe c 2 1) 3 then 1 else 0) ∧ (t.lsvc n).discards = 0 ∧
        ∀ sent, (s.lsvc n).departs.find? (fun d => d.1 == fieldLe c 7 4) = some (fieldLe c 7 4, sent) →
          let rtts := ((now - sent - (fieldLe c 11 4 : Nat)) :: (s.lsvc n).rtts).take 16
          (t.lsvc n).rtts = rtts ∧
          (t.lsvc n).delayNext = rtts.sum / (2 * (rtts.length : Int)) + s.ef (Reg.LINK_TIME_skew n)) ∧
      (fieldLe c 0 2 ≠ 0x5AC3 → Completes o fun t => (t.lnk n).good = false ∧ (t.lsvc n).discards = 0 ∧
        (s.rd (Reg.LANE_STATE_bc_aligned n) = 1 → plus t (Reg.TILE_CNT_bc_crc n)) ∧
        ((s.lsvc n).discards + 1 < s.efN Reg.FAILOVER_crc_limit → (t.lnk n).misses = (s.lnk n).misses + 1))) ∧
    (∀ taps vertical, s.blanking = false ∨ (s.lnk n).sweep ≠ 4 * 64 * 1024 →
      Completes (exec (.bcSweepComplete n taps vertical) s) fun t => t = s) ∧
    (∀ (taps : BitVec 64) (vertical i w : Nat), bc = 3 → s.blanking = true → (s.lnk n).sweep = 4 * 64 * 1024 → i < 64 → 1 ≤ w →
      w < 64 → (∀ k, k < 64 → taps.getLsbD k = decide ((k + 64 - i) % 64 < w)) → (s.lnk n).benched = true →
      s.frame.afterRest = false → Completes (exec (.bcSweepComplete n taps vertical) s) fun t =>
        let fom := min 255 (min (4 * w) vertical)
        t.rdN (Reg.BC_TRIM_centre n) = (i + (w - 1) / 2) % 64 ∧ (t.lnk n).sweepNew = true ∧ (t.lnk n).sweep = 0 ∧ t.rdN (Reg.LANE_EQ_bc_fom n) = fom ∧ (t.lnk n).hasBc = true ∧
        t.rdN (Reg.LANE_FOM_bc n) / 256 ^ s.rdN (Reg.LANE_EQ_bc_entry n) % 256 = fom ∧
        SameRegsBut s t [Reg.BC_TRIM_centre n, Reg.LANE_EQ_bc_fom n, Reg.LANE_FOM_bc n] ∧ SameBytes s t)

/-- R160 to R163, R470 to R475, R480, R482, R485, R486, R490: service messages from their SVC to their outcome, the reports of
an endpoint, and failover. The endpoint's line code is in step with the receiver. -/
def Obligations.TileMessagesReportsAndFailover : Prop :=
  ∀ (s : State) (n : Nat) (f : KFmt), n < s.par.tileLinks →
    let x := s.lsvc n
    let tile := s.tile (n / 2)
    let ticket := (x.accepted + 1) % 2 ^ 32
    let cell (code : Nat) (c : Bytes) : Bytes :=
      BitVec.ofNat 8 (0x30 + code) :: c ++ leBytes 4 (crc32c (BitVec.ofNat 8 (0x30 + code) :: c))
    let up (code : Nat) (c : Bytes) : Line := s.lineOf n false (cell code c)
    let plus (t : State) (h k : Nat) : Prop := t.rdN h = min 0xFFFFFFFF (s.rdN h + k)
    let packet (m : SvcMsg) : Bytes := leBytes 4 m.ticket ++ leBytes 1 (fieldLe m.bytes 0 1) ++ leBytes 1 (m.link % 2) ++
      leBytes 2 (fieldLe m.bytes 2 2) ++ m.bytes.drop 8
    let ended (t : State) (m : SvcMsg) (outcome : Nat) : Prop := (t.lsvc n).inflight = none ∧
      t.rdN (Reg.SVC_STATUS_ticket n) = m.ticket ∧ t.rdN (Reg.SVC_STATUS_outcome n) = outcome ∧
      ∀ e, m.event = some e → e < 16 → (t.seq 0).events = (s.seq 0).events ||| flag (16 + e)
    let held := s.rd (Reg.LANE_STATE_bc n) = 3 ∧ (s.lnk n).rx.run < 31
    let growth (old new : Nat) : Nat := (new + 2 ^ 32 - old) % 2 ^ 32
    (∀ c, s.ready (.cluster c) = true → f.sub.toNat < 32 → TrapsWith (exec (.svc (.cluster c) f) s) s (c + 1) 0x0A (s.pc (c + 1))) ∧
    (s.ready .marshal = true → f.sub.toNat < 32 → (s.seq 0).stores = [] → (s.greg 0 f.a).toNat = n →
      let a := (s.greg 0 f.b).toNat
      let len := s.word (a + 2) 2
      let o := exec (.svc .marshal f) s
      (a % 8 ≠ 0 → TrapsWith o s 0 0x03 (s.pc 0)) ∧
      (a % 8 = 0 → a + 16 + len ≤ s.par.clusters * 0x300000 → s.mem.bad = [] → s.mem.soft = [] → 1 ≤ (s.byte a).toNat → (s.byte a).toNat ≤ 6 →
        len ≤ 4096 →
        (8 ≤ x.queue.length → WritesReg o s 0 f.d (BitVec.allOnes 64) (s.pc 0 + 8)) ∧
        (x.queue.length < 8 → s.noCarrier n = false → Completes o fun t =>
          Gets s t 0 f.d (BitVec.ofNat 64 ticket) ∧ t.pc 0 = s.pc 0 + 8 ∧
          (t.lsvc n).queue = x.queue ++ [⟨ticket, s.bytes a (16 + len),
            if f.sub.getLsbD 4 then some (f.sub.toNat % 16) else none, n, 0, false⟩] ∧
          t.rdN (Reg.SVC_STATUS_queued n) = x.queue.length + 1 ∧ SameBytes s t) ∧
        (x.queue.length < 8 → s.noCarrier n = true → Completes o fun t =>
          Gets s t 0 f.d (BitVec.ofNat 64 ticket) ∧ t.rdN (Reg.SVC_STATUS_outcome n) = 2 ∧ (t.lsvc n).queue = x.queue))) ∧
    (∀ m rest, x.failedOver = false → s.svcMay n = true → s.carrying n = false → x.inflight = none → x.queue = m :: rest →
      Completes (exec (.svcPacketSend n) s) fun t => (t.lnk n).svcCells = packetCellsOf 0x4 (packet m) ∧ t.out = s.out ∧
        (t.lsvc n).inflight = some { m with sends := 1, waitAck := true } ∧ (t.lsvc n).queue = rest ∧
        t.rdN (Reg.SVC_STATUS_queued n) = rest.length) ∧
    (∀ m, x.failedOver = false → s.svcMay n = true → s.carrying n = false → x.inflight = some m → m.waitAck = false → 0 < m.sends →
      Completes (exec (.svcPacketSend n) s) fun t => (t.lnk n).svcCells = packetCellsOf 0x4 (packet m) ∧ t.out = s.out ∧
        (t.lsvc n).inflight = some { m with sends := m.sends + 1, waitAck := true } ∧ plus t (Reg.TILE_CNT_svc_retries n) 1) ∧
    (∀ m, x.inflight = some m → m.waitAck = true →
      ((s.lnk (s.carrier n)).svcCells ≠ [] → Completes (exec (.svcAckTimeout n) s) fun t => t = s) ∧
      ((s.lnk (s.carrier n)).svcCells = [] → m.sends < s.efN Reg.SVC_CTRL_retries → Completes (exec (.svcAckTimeout n) s) fun t =>
        (t.lsvc n).inflight = some { m with waitAck := false } ∧ SameRegsBut s t []) ∧
      ((s.lnk (s.carrier n)).svcCells = [] → s.efN Reg.SVC_CTRL_retries ≤ m.sends → Completes (exec (.svcAckTimeout n) s) fun t => ended t m 2) ∧
      ∀ c : Bytes, c.length = 27 → held → fieldLe c 0 4 = m.ticket → fieldLe c 5 1 % 2 = n % 2 →
        (fieldLe c 4 1 = 0 → Completes (exec (.ack n (up 0xB c)) s) fun t => ended t m 0) ∧
        (fieldLe c 4 1 = 2 → Completes (exec (.ack n (up 0xB c)) s) fun t => ended t m 1) ∧
        (fieldLe c 4 1 = 1 ∨ fieldLe c 4 1 = 3 → m.sends < s.efN Reg.SVC_CTRL_retries → Completes (exec (.ack n (up 0xB c)) s) fun t =>
          (t.lsvc n).inflight = some { m with waitAck := false } ∧ SameRegsBut s t [Reg.LANE_CNT_stuff_err n])) ∧
    (∀ c : Bytes, c.length = 27 → held →
      let seq := fieldLe c 0 2
      (tile.seqStatus = some seq → Completes (exec (.status n (up 0x8 c)) s) fun t => t = s.heard n false (cell 0x8 c)) ∧
      (∀ b : Bytes, b.length = 32 → fieldLe b 0 1 ≠ 0x30 → crc32c (b.take 28) ≠ fieldLe b 28 4 →
        Completes (exec (.status n (s.lineOf n false b)) s) fun t => plus t (Reg.TILE_CNT_bc_crc n) 1 ∧
          (t.tile (n / 2)).seqStatus = tile.seqStatus) ∧
      (tile.seqStatus ≠ some seq → bit (fieldLe c 2 1) 0 = false → bit (fieldLe c 2 1) 1 = false →
        (s.lsvc (n / 2 * 2)).alarm = false → (s.lsvc (n / 2 * 2 + 1)).alarm = false →
        Completes (exec (.status n (up 0x8 c)) s) fun t => (t.tile (n / 2)).seqStatus = some seq ∧
          t.rdN (Reg.TILE_FLIP_frame n) = fieldLe c 4 4 ∧ t.rd (Reg.TILE_STATUS_held n) = (if bit (fieldLe c 2 1) 2 then 1 else 0) ∧
          plus t (Reg.TILE_CNT_slab_drop n) (growth (tile.counts.getD 0 0) (fieldLe c 8 4)) ∧
          plus t (Reg.TILE_CNT_not_held n) (growth (tile.counts.getD 1 0) (fieldLe c 12 4)) ∧
          plus t (Reg.TILE_CNT_rejected n) (growth (tile.counts.getD 2 0) (fieldLe c 16 4)) ∧
          plus t (Reg.TILE_CNT_late_sync n) (growth (tile.counts.getD 3 0) (fieldLe c 20 4))) ∧
      (tile.seqFault ≠ some seq → Completes (exec (.fault n (up 0x9 c)) s) fun t => (t.tile (n / 2)).seqFault = some seq ∧
        (t.tile (n / 2)).faults = (List.range (min 256 (fieldLe c 2 2))).map fun i => fieldLe c (4 + 4 * i) 4) ∧
      (∀ b : Bytes, b.length = 31 → (s.lnk n).open_ = [] →
        let two := (0x19 :: b) ++ (0x29 :: c)
        tile.seqFault ≠ some (fieldLe b 0 2) → Completes (exec (.fault n (s.lineOf n false (two ++ leBytes 4 (crc32c two)))) s) fun t =>
          (t.tile (n / 2)).seqFault = some (fieldLe b 0 2) ∧
          (t.tile (n / 2)).faults = (List.range (min 256 (fieldLe b 2 2))).map fun i => fieldLe (b ++ c) (4 + 4 * i) 4) ∧
      (tile.seqTemp ≠ some seq → Completes (exec (.temp n (up 0xA c)) s) fun t =>
        (t.tile (n / 2)).temp = some (signed 16 (fieldLe c 2 2)) ∧ (t.tile (n / 2)).age = 0 ∧ (t.tile (n / 2)).stale = false ∧
        t.rd (Reg.TILE_TEMP_temp n) = signed 16 (fieldLe c 2 2)) ∧
      (tile.seqCrack ≠ some seq → bit (fieldLe c 2 1) 0 = true → tile.crackOpen = false → Completes (exec (.crack n (up 0xD c)) s) fun t =>
        (t.tile (n / 2)).crackOpen = true ∧ ∃ g, t.fm.detected = s.fm.detected ++ [g] ∧ g.cause = 0x0031 ∧ g.d0 = n / 2) ∧
      (tile.seqCrack ≠ some seq → bit (fieldLe c 2 1) 0 = false → Completes (exec (.crack n (up 0xD c)) s) fun t =>
        (t.tile (n / 2)).crackOpen = false ∧ t.fm.detected = s.fm.detected) ∧
      (let l := n / 2 * 2 + fieldLe c 3 1 % 2
       let late := (fieldLe c 4 4 + 2 ^ 32 - (s.lnk l).entryMark % 2 ^ 32) % 2 ^ 32 < 2 ^ 31
       (fieldLe c 3 1 / 4 % 4 ≠ s.rdN (Reg.LINK_GEAR_gear l) ∨ ¬ late → Completes (exec (.eye n (up 0xC c)) s) fun t =>
         t = s.heard n false (cell 0xC c)) ∧
       (fieldLe c 3 1 / 4 % 4 = s.rdN (Reg.LINK_GEAR_gear l) → late → s.frame.afterRest = false →
         Completes (exec (.eye n (up 0xC c)) s) fun t => t.rdN (Reg.LANE_EQ_tx_fom l) = fieldLe c 0 1 ∧ (t.lnk l).hasTx = true ∧
           t.rdN (Reg.LANE_FOM_tx l) / 256 ^ s.rdN (Reg.LANE_EQ_tx_entry l) % 256 = fieldLe c 0 1))) ∧
    (∀ cause, 1 ≤ cause → cause ≤ 3 →
      (s.linkOk n = false → Completes (exec (.failoverTrigger n cause) s) fun t => t = s) ∧
      (s.armed n = true → Completes (exec (.failoverTrigger n cause) s) fun t => (t.lsvc n).failedOver = true ∧
        t.rdN (Reg.TILE_STATUS_cause n) = cause ∧ plus t (Reg.TILE_CNT_failovers n) 1)) ∧
    (Completes (exec (.failoverRestore n) s) fun t =>
      (t.lsvc n).restoreDue = (if x.failedOver = true ∧ s.laneUp n = true then true else x.restoreDue) ∧ SameRegsBut s t [] ∧ SameBytes s t)

/-! ### DRAM, the hold timer and common slices (R259, R271, R276 to R303) -/

/-- R292 to R295: the first failed channel of a group with parity is an S2 fault, any other an S4 fault, and DRAM_STATUS,
DRAM_FAIL and DRAM_GRP say which; a write of DRAM_GRP.restore begins a restore where training passes; when the restore of a
channel has rewritten every burst, the channel is in service. R545, R547: a measurement sets the centre of its quantity, which
lies in the middle of the window and is either of the two middle steps of one of even width (log 5); sixteen in a row that
reach the end of the range fail the channel. -/
def Obligations.DramChannelsFailReturnAndTrim : Prop :=
  (∀ (s : State) (ch cause : Nat), ch < s.par.channels →
     let g := ch / 8
     let state := Reg.DRAM_STATUS_state ch
     let may := s.rd state ≠ 1 ∧ s.rd state ≠ 3 ∧ 1 ≤ cause ∧ cause ≤ 4
     let alone := s.par.groups ≠ 0 ∧ ∀ c, c / 8 = g → c ≠ ch → s.chFailed c = false
     let faulted (t : State) (code sev : Nat) : Prop := ∃ f, t.fm.detected = s.fm.detected ++ [f] ∧ f.res = .dram ch ∧
       f.cause = code ∧ (s.recoveringSev (.dram ch) = none → f.sev = sev)
     let c := 8 * g + s.rdN (Reg.DRAM_GRP_failed g)
     (may → Completes (exec (.dramChannelFail ch cause) s) fun t =>
       t.rd state = 1 ∧ t.rdN (Reg.DRAM_FAIL_cause ch) = cause ∧
       (alone → t.rdN (Reg.DRAM_GRP_failed g) = ch % 8 ∧ faulted t 0x0008 2) ∧
       (¬ alone → t.cell (Reg.DRAM_GRP_failed g) = s.cell (Reg.DRAM_GRP_failed g) ∧ faulted t 0x0009 4) ∧
       SameRegsBut s t [state, Reg.DRAM_FAIL_cause ch, Reg.DRAM_GRP_failed g] ∧ SameBytes s t) ∧
     (¬ may → Completes (exec (.dramChannelFail ch cause) s) fun t => t = s) ∧
     (g < s.par.groups → s.rd (Reg.DRAM_STATUS_state c) = 2 → Completes (exec (.dramRestoreComplete g) s) fun t =>
       t.rd (Reg.DRAM_STATUS_state c) = 0 ∧ t.rdN (Reg.DRAM_GRP_restored_mib g) = 2 * s.rdN Reg.DRAM_CFG_rank_mib ∧
       ((∀ d, d / 8 = g → d ≠ c → s.chFailed d = false) → t.rdN (Reg.DRAM_GRP_failed g) = 0xF) ∧
       (∀ x ∈ t.fm.recovering, x.res ≠ .dram c) ∧
       SameRegsBut s t [Reg.DRAM_STATUS_state c, Reg.DRAM_GRP_restored_mib g, Reg.DRAM_GRP_failed g, Reg.ARB_CLS_grants 11] ∧
       SameBytes s t) ∧
     (s.hostUp = true → g < s.par.groups → 7 ≤ s.rdN Reg.RST_STATUS_stage →
       let chk := [Reg.CHK_HOST_status, Reg.CHK_HOST_handle]
       (s.rdN (Reg.DRAM_GRP_failed g) ≠ 0xF → s.rd (Reg.DRAM_STATUS_state c) = 1 →
         Completes (exec (.dramGrpRestore g true) s) fun t => t.rd (Reg.DRAM_STATUS_state c) = 2 ∧
           t.rd (Reg.DRAM_GRP_restored_mib g) = 0 ∧
           SameRegsBut s t ([Reg.DRAM_STATUS_state c, Reg.DRAM_GRP_restored_mib g] ++ trimRegs c ++ chk) ∧ SameBytes s t) ∧
       (∀ ok, s.rdN (Reg.DRAM_GRP_failed g) = 0xF ∨ s.rd (Reg.DRAM_STATUS_state c) ≠ 1 ∨ ok = false →
         Completes (exec (.dramGrpRestore g ok) s) fun t => SameRegsBut s t chk ∧ t = { s with regs := t.regs })) ∧
     (g < s.par.groups → s.rd (Reg.DRAM_STATUS_state c) ≠ 2 → Completes (exec (.dramRestoreComplete g) s) fun t => t = s)) ∧
  (∀ (s : State) (m : TrimResult), m.channel < s.par.channels → m.quantity < 34 →
     let range_ := if m.quantity < 32 then 64 else 128
     let x := s.trimQ m.channel m.quantity
     let end_ := m.low = 0 ∨ m.high + 1 = range_
     let may := s.rd (Reg.DRAM_STATUS_state m.channel) = 0 ∧ m.low ≤ m.high ∧ m.high < range_
     let measured (t : State) : Prop :=
       let y := t.trimQ m.channel m.quantity
       (y.centre = (m.low + m.high) / 2 ∨ y.centre = (m.low + m.high + 1) / 2) ∧ y.value = x.value ∧ y.bench = x.bench ∧
       (y.due = true ↔ y.centre ≠ y.value) ∧
       (∀ c q, c ≠ m.channel ∨ q ≠ m.quantity → q < 64 → t.trimQ c q = s.trimQ c q) ∧ SameBytes s t
     (¬ may → Completes (exec (.trimMeasurement m) s) fun t => t = s) ∧
     (may → ¬ end_ ∨ x.ends < 15 → Completes (exec (.trimMeasurement m) s) fun t =>
       measured t ∧ t.fm = s.fm ∧ t.rd (Reg.DRAM_STATUS_state m.channel) = 0) ∧
     (may → end_ → 15 ≤ x.ends → Completes (exec (.trimMeasurement m) s) fun t =>
       measured t ∧ t.rd (Reg.DRAM_STATUS_state m.channel) = 1 ∧ t.rd (Reg.DRAM_FAIL_cause m.channel) = 4 ∧
       ∃ f, t.fm.detected = s.fm.detected ++ [f] ∧ f.res = .dram m.channel))

/-- R281, R283 to R288, R299: a granted write of at most a burst puts its bytes, and with parity its burst enters the entry of
its line, for which the oldest line of a full buffer drains; the entry drains once it is full or its time is up, and frees, or
drains again, when every access of the drain has had its grant, which leaves the parity burst the exclusive or of the line. -/
def Obligations.DramWritesGather : Prop :=
  ∀ (s : State) (a : Nat) (b : Bytes) (g line : Nat) (x : GatherLine),
    let l := s.loc a
    let co := l.co / 64 * 64
    let lines := s.mem.gather
    let ours (y : GatherLine) : Prop := y.group = l.grp ∧ y.co = co
    let now (y : GatherLine) : Prop := y.group = g ∧ y.co = line
    let plus (t : State) (h k : Nat) : Prop := t.rdN h = min 0xFFFFFFFF (s.rdN h + k)
    let drained (t : State) (held : Nat) (l : List Nat) : Prop :=
      let h := if heldCount held = 7 then Reg.DRAM_GRP_full_lines g else Reg.DRAM_GRP_partial_lines g
      plus t h 1 ∧ SameRegsBut s t (h :: l)
    let accessed (t : State) : Prop :=
      let m := heldCount x.mask
      (∀ c, c < 8 → s.chFailed (8 * g + c) = false) →
        plus t (Reg.ARB_CLS_grants x.cls.val) (if m = 7 then 8 else if m ≤ 3 then 2 * (m + 1) else (7 - m) + (m + 1)) ∧
        (Tab.wf 0 s.mem.parity = true → ∀ i, i < 64 → Tab.get 0 t.mem.parity (parityKey g (line + i)) = s.xorByte g line i)
    let lineRegs := Reg.ARB_CLS_grants x.cls.val :: channelRegs g ((List.range 8).map (8 * g + ·))
    let fresh : GatherLine := ⟨l.grp, co, 2 ^ l.j, false, false, 2, false, 0⟩
    let mine := lines.filter fun y => y.group == l.grp
    (s.dramRange a b.length = true → b ≠ [] → a % 64 + b.length ≤ 64 → 6 ≤ s.efN Reg.DRAM_MAP_grain_log2 →
      (∀ c, c < s.par.channels → s.chFailed c = false) → s.unheld → Completes (exec (.dramWriteGather a b) s) fun t =>
        t.bytes a b.length = b ∧ SameBytesBut s t a b.length ∧
        (s.par.groups = 0 ∨ mine.length < 256 → SameRegsBut s t [Reg.ARB_CLS_grants 2, Reg.DRAM_CNT_page_hits l.ch,
          Reg.DRAM_CNT_activates l.ch, Reg.DRAM_STATUS_rank0 l.ch, Reg.DRAM_STATUS_rank1 l.ch, Reg.DRAM_REF_debt0 l.ch,
          Reg.DRAM_REF_debt1 l.ch, Reg.DRAM_GRP_full_lines l.grp]) ∧
        (s.par.groups = 0 → t.mem.gather = lines) ∧
        (s.par.groups ≠ 0 → (∀ y ∈ lines, ¬ ours y) → mine.length < 256 → t.mem.gather = lines ++ [fresh]) ∧
        (s.par.groups ≠ 0 → (∀ y ∈ lines, ¬ ours y) → 256 ≤ mine.length → ∀ o, mine.head? = some o →
          t.mem.gather = (lines.filter fun y => !(y.group == o.group && y.co == o.co)) ++ [fresh]) ∧
        (s.par.groups ≠ 0 → x ∈ lines → ours x → (∀ y ∈ lines, ours y → y = x) → x.draining = false → bit x.held l.j = false →
          let h := x.held + 2 ^ l.j
          t.mem.gather = lines.map fun y => if y = x then
            (if heldCount h = 7 then { x with held := h, draining := true, again := false, forced := false, mask := h }
             else { x with held := h, again := false }) else y) ∧
        (s.par.groups ≠ 0 → x ∈ lines → ours x → (∀ y ∈ lines, ours y → y = x) → x.draining = true → x.again = false →
          t.mem.gather = lines.map fun y => if y = x then { x with held := 2 ^ l.j, again := true } else y)) ∧
    (g < s.par.groups →
      ((∀ y ∈ lines, ¬ now y) → Completes (exec (.gatherTimeout g line) s) (fun t => t = s) ∧
        Completes (exec (.lineDrainComplete g line) s) fun t => t = s) ∧
      (x ∈ lines → now x → (∀ y ∈ lines, now y → y = x) →
        (x.draining = false → Completes (exec (.gatherTimeout g line) s) fun t =>
          t.mem.gather = (lines.map fun y => if y = x then
            { x with draining := true, again := false, forced := false, mask := x.held } else y) ∧
          drained t x.held [] ∧ SameBytes s t) ∧
        (x.draining = true → s.drainWaits x = true → Completes (exec (.lineDrainComplete g line) s) fun t => t = s) ∧
        (x.draining = true → s.drainWaits x = false → x.again = false → Completes (exec (.lineDrainComplete g line) s) fun t =>
          t.mem.gather = lines.filter (fun y => decide (y ≠ x)) ∧ accessed t ∧ SameRegsBut s t lineRegs ∧ SameBytes s t) ∧
        (x.draining = true → s.drainWaits x = false → x.again = true → Completes (exec (.lineDrainComplete g line) s) fun t =>
          t.mem.gather = (lines.map fun y => if y = x then { x with again := false, forced := false, mask := x.held } else y) ∧
          accessed t ∧ drained t x.held lineRegs ∧ SameBytes s t)))

/-- R276, R281, R296, R297, R299, R300: a tick of a rank's refresh debt, which spur-refresh clears at the limit, the MR4 poll,
power-down and self-refresh. How far idle refreshes have lowered the debt before the next tick is open (log 14); each takes a
grant of class 0 and closes the rank's rows. Self-trim, which corrects at the end of a refresh, is off where registers are
said to stand. -/
def Obligations.RefreshAndLowPower : Prop :=
  ∀ (s : State) (ch rank mult : Nat), ch < s.par.channels → rank < 2 → s.rd (Reg.DRAM_STATUS_state ch) ≠ 3 →
    let debt := if rank = 0 then Reg.DRAM_REF_debt0 ch else Reg.DRAM_REF_debt1 ch
    let rest := if rank = 0 then Reg.DRAM_STATUS_rank0 ch else Reg.DRAM_STATUS_rank1 ch
    let keep := s.ef (if rank = 0 then Reg.DRAM_PWR_keep0 else Reg.DRAM_PWR_keep1) = 1
    let d := s.rdN debt
    let limit := s.rdN Reg.DRAM_REF_debt_limit
    let closed (t : State) : Prop := ∀ k ∈ t.mem.openRow, k.1 / 16 ≠ ch * 2 + rank
    (s.rd rest = 2 → Completes (exec (.refreshDebtTick ch rank) s) fun t => t = s) ∧
    let plus (t : State) (h k : Nat) : Prop := t.rdN h = min 0xFFFFFFFF (s.rdN h + k)
    (s.rd rest ≠ 2 → d + 1 < limit → Completes (exec (.refreshDebtTick ch rank) s) fun t =>
      t.rdN debt ≤ d + 1 ∧ (t.rdN debt < d + 1 → plus t (Reg.ARB_CLS_grants 0) (d + 1 - t.rdN debt) ∧ closed t) ∧
      (s.rd Reg.SELF_TRIM_enable ≠ 1 → SameRegsBut s t [debt, Reg.ARB_CLS_grants 0]) ∧ SameBytes s t) ∧
    (s.rd rest ≠ 2 → limit ≤ d + 1 → Completes (exec (.refreshDebtTick ch rank) s) fun t =>
      t.rdN debt = 0 ∧ plus t (Reg.DRAM_REF_spurs ch) 1 ∧ plus t (Reg.ARB_CLS_grants 0) 1 ∧ closed t ∧
      (s.heldFrom noSeq ch = true → plus t Reg.ARB_SPUR_refresh 1) ∧ SameBytes s t) ∧
    (s.rd (Reg.DRAM_STATUS_rank0 ch) = 2 ∧ s.rd (Reg.DRAM_STATUS_rank1 ch) = 2 → Completes (exec (.mr4Poll ch mult) s) fun t => t = s) ∧
    (s.rd (Reg.DRAM_STATUS_rank0 ch) ≠ 2 ∨ s.rd (Reg.DRAM_STATUS_rank1 ch) ≠ 2 → mult ∈ [1, 2, 4] → Completes (exec (.mr4Poll ch mult) s) fun t =>
      t.rdN (Reg.DRAM_STATUS_refresh_mult ch) = mult ∧ SameRegsBut s t [Reg.DRAM_STATUS_refresh_mult ch] ∧ SameBytes s t) ∧
    (¬ keep → s.rd rest = 0 → Completes (exec (.powerDownEntry ch rank) s) fun t =>
      t.rd rest = 1 ∧ SameRegsBut s t [rest] ∧ SameBytes s t) ∧
    (keep ∨ s.rd rest ≠ 0 → Completes (exec (.powerDownEntry ch rank) s) fun t => t = s) ∧
    (keep → s.rd rest ≠ 2 → Completes (exec (.selfRefreshEntry ch rank) s) fun t =>
      t.rd rest = 2 ∧ t.rdN debt = 0 ∧ closed t ∧ SameRegsBut s t [rest, debt] ∧ SameBytes s t) ∧
    (¬ keep ∨ s.rd rest = 2 → Completes (exec (.selfRefreshEntry ch rank) s) fun t => t = s)

/-- R135, R259, R271, R556: a hold timer bite frees the resource, is counted and noted, and traps the sequencer with cause
0x0E, at once where it waits and else at its next instruction, which has no effect; one of an engine puts it into state 3; a
failed common slice leaves its partner without a mirror and is an S2 fault. -/
def Obligations.HoldTimerBitesAndSlicesFail : Prop :=
  ∀ (s : State) (r k : Nat) (q : SeqId) (f : KFmt), Tab.wf blankSeq s.sq.seqs = true →
    let other := xorNat k 8
    let state := Reg.PAD_STATUS_state (s.par.clusters + k)
    let free := ∀ j, (s.seq j).holds r = false
    let bites (t : State) (cls : Nat) : Prop :=
      t.rdN Reg.ARB_BITE_count = min 0xFFFFFFFF (s.rdN Reg.ARB_BITE_count + 1) ∧ t.rdN Reg.ARB_BITE_class = cls ∧
      t.rdN Reg.ARB_BITE_resource = r ∧ t.rdN Reg.FM_LOG_head = (s.rdN Reg.FM_LOG_head + 1) % 2 ^ 32
    (free → Completes (exec (.holdTimerBite ⟨r, none⟩) s) fun t => t = s) ∧
    (∀ cls inst, free → s.queueExists cls inst 0 = true → Completes (exec (.holdTimerBite ⟨r, some (cls, inst)⟩) s) fun t =>
      (cls ≠ 4 → bites t ([10, 4, 6, 3, 2, 7, 12, 12].getD cls 0)) ∧ SameBytes s t ∧ t.sq.seqs = s.sq.seqs ∧
      (cls = 0 → t.rd (Reg.TRV_STATUS_state inst) = 3) ∧ (cls = 1 → (t.clu inst).loaderLost = true) ∧
      (cls = 2 → t.rd (Reg.ENC_STATUS_state inst) = 3) ∧
      (3 ≤ cls → t.engineDown cls inst = true ∧ (s.engineDown cls inst = false → ∃ x, t.fm.detected = s.fm.detected ++ [x] ∧
        x.res = .hub cls inst ∧ x.cause = 0x0040))) ∧
    (∀ engine, (s.seq k).holds r = true → (∀ j, j ≠ k → (s.seq j).holds r = false) → k ≤ 128 →
      Completes (exec (.holdTimerBite ⟨r, engine⟩) s) fun t =>
        (t.seq k).holds r = false ∧ (t.seq k).stores = (s.seq k).stores.filter (fun x => decide (x.lock ≠ some r)) ∧
        (t.seq k).gpr = (s.seq k).gpr ∧ bites t (if k = 0 then 9 else 10) ∧
        ((s.seq k).waiting = none → (t.seq k).bitten = true ∧ t.rd (stateReg k) = s.rd (stateReg k)) ∧
        ((s.seq k).waiting ≠ none → t.rd (stateReg k) = 3 ∧ t.rd (causeReg k) = 0x0E ∧ t.pc k = s.pc k ∧
          (t.seq k).waiting = none) ∧ SameSeqsBut s t k ∧ SameBytes s t) ∧
    (s.hasSeq q = true → s.running (keyOf q) = true → s.fetchable (s.pc (keyOf q)) = true → (s.seq (keyOf q)).bitten = true →
      f.sub = 0 → TrapsWith (exec (.add q f) s) s (keyOf q) 0x0E (s.pc (keyOf q))) ∧
    (k < 16 → s.rd state = 1 → Completes (exec (.commonSliceFail k) s) fun t => t = s) ∧
    (k < 16 → s.rd state ≠ 1 → Completes (exec (.commonSliceFail k) s) fun t =>
      t.rd state = 1 ∧ t.rd (Reg.PAD_STATUS_mirror_lost (s.par.clusters + other)) = 1 ∧
      (∃ x, t.fm.detected = s.fm.detected ++ [x] ∧ x.res = .slice k ∧ x.cause = 0x0018 ∧
        (s.recoveringSev (.slice k) = none → x.sev = 2)) ∧
      SameRegsBut s t [state, Reg.PAD_STATUS_mirror_lost (s.par.clusters + other)] ∧ SameBytes s t)

/-! ### Health, self-trim and the fault manager (R525 to R571) -/

/-- R525 to R531: a sample is kept and shown, each level's flag follows eight samples in a row, the thermal and rate states
follow the flags, and the CRIT flag shuts the chip down; eight readings out of range fail a sensor. -/
def Obligations.ThermalSamplesDriveTheStates : Prop :=
  ∀ (s : State) (t : Nat) (r0 r1 r2 : BitVec 16),
    let o := exec (.thermalSample t r0 r1 r2) s
    let r (d : Nat) : Int := if d = 0 then r0.toInt else if d = 1 then r1.toInt else r2.toInt
    let good (d : Nat) : Prop := -640 ≤ r d ∧ r d ≤ 2400
    let top := max (r 0) (max (r 1) (r 2))
    let kept := ((⟨t, r 0, r 1, r 2⟩ : Sample) :: s.health.samples).take 64
    let rate (d : Nat) : Int := if kept.length < 64 then 0 else
      ((r d - (kept.getD 63 ⟨0, 0, 0, 0⟩).die d) * 1000000) / ((t : Int) - (kept.getD 63 ⟨0, 0, 0, 0⟩).t)
    let turn := max (rate 0) (max (rate 1) (rate 2))
    let fits (d : Nat) : Prop := -32768 ≤ rate d ∧ rate d ≤ 32767
    let fresh := ∀ x ∈ s.health.samples, x.t < t
    let follows (u : State) (l : Nat) (v at_ clear : Int) : Prop :=
      if at_ ≤ v ∧ 7 ≤ Tab.get 0 s.health.above l then bit u.health.flags l = true
      else if v < clear ∧ 7 ≤ Tab.get 0 s.health.below l ∧ l ≠ 2 then bit u.health.flags l = false
      else bit u.health.flags l = bit s.health.flags l
    let named (a b c : Bool) : Int := if a then 3 else if b then 2 else if c then 1 else 0
    (¬ fresh → Completes o fun u => u = s) ∧
    (fresh → (∀ d, d < 3 → good d) → s.rd Reg.HEALTH_STATE_sensor_failed = 0 → s.health.shutdown = false →
      Completes o fun u =>
        u.health.samples = kept ∧ u.rd Reg.HEALTH_TEMP_die0 = r 0 ∧ u.rd Reg.HEALTH_TEMP_die1 = r 1 ∧
        u.rd Reg.HEALTH_TEMP_hub = r 2 ∧ u.rd Reg.HEALTH_TEMP_governing = top ∧
        (fits 0 → u.rd Reg.HEALTH_RATE_die0 = rate 0) ∧ (fits 1 → u.rd Reg.HEALTH_RATE_die1 = rate 1) ∧
        (fits 2 → u.rd Reg.HEALTH_RATE_hub = rate 2) ∧
        (fits 0 → fits 1 → fits 2 → u.rd Reg.HEALTH_RATE_governing = turn) ∧
        follows u 0 top (s.ef Reg.HEALTH_TH_warn) (s.ef Reg.HEALTH_TH_warn - 48) ∧
        follows u 1 top (s.ef Reg.HEALTH_TH_throttle) (s.ef Reg.HEALTH_TH_throttle - 48) ∧
        follows u 2 top 1760 0 ∧
        follows u 3 turn (s.ef Reg.HEALTH_RATE_TH_rate_warn) (s.ef Reg.HEALTH_RATE_TH_rate_warn - 16) ∧
        follows u 4 turn (s.ef Reg.HEALTH_RATE_TH_rate_act) (s.ef Reg.HEALTH_RATE_TH_rate_act - 16) ∧
        u.rd Reg.HEALTH_STATE_state = named (bit u.health.flags 2) (bit u.health.flags 1) (bit u.health.flags 0) ∧
        u.rd Reg.HEALTH_STATE_rate_state = named false (bit u.health.flags 4) (bit u.health.flags 3) ∧
        (u.rd Reg.HEALTH_STATE_rate_state ≠ s.rd Reg.HEALTH_STATE_rate_state → (u.seq 0).events.getLsbD 10 = true) ∧
        (u.rd Reg.HEALTH_STATE_state ≠ s.rd Reg.HEALTH_STATE_state → (u.seq 0).events.getLsbD 10 = true) ∧
        u.health.shutdown = bit u.health.flags 2 ∧
        (bit u.health.flags 2 = true → u.pins.thermAlert = true ∧
          ∀ k, k ≤ s.par.clusters → u.rd (stateReg k) ≠ 1 ∧ (u.seq k).lock = none ∧ (u.seq k).stores = []) ∧
        (bit u.health.flags 2 = false → SameBytes s u)) ∧
    (∀ d, d < 3 → fresh → ¬ good d → (∀ e, e < 3 → e ≠ d → good e) → s.rd Reg.HEALTH_STATE_sensor_failed = 0 →
      s.health.shutdown = false → 7 ≤ Tab.get 0 s.health.invalid d → bit s.health.flags 2 = false →
      Tab.get 0 s.health.above 2 < 7 → Completes o fun u =>
        u.rd Reg.HEALTH_STATE_sensor_failed = 2 ^ d ∧
        (∃ f, u.fm.detected = s.fm.detected ++ [f] ∧ f.res = .sensor d ∧ f.cause = 0x0039 ∧
          (s.recoveringSev (.sensor d) = none → f.sev = 1)) ∧
        (∃ x ∈ u.health.samples, x.t = t ∧ (∃ e, e < 3 ∧ e ≠ d ∧ x.die d = r e + 160) ∧
          ∀ e, e < 3 → e ≠ d → x.die e = r e ∧ r e + 160 ≤ x.die d))

/-- R554, R557 to R562, R565: a detected fault is taken, preempts what is less severe, waits, or at S4 brings the safe state;
the end of a handling writes its record and goes on with the next; a safe-state SYNC comes a nominal period after the last; a
hub-die engine that fails is out of service. -/
def Obligations.FaultsAreTakenAndHandled : Prop :=
  ∀ (s : State) (f : FaultItem) (rest : List FaultItem) (dt cls inst : Nat),
    let fm := s.fm
    let n := fm.queue.length
    let o := exec .faultDetected s
    let head := s.rdN Reg.FM_LOG_head
    let level (x : FaultItem) (gone : Nat) : Nat := x.sev + 2 + 8 * (if x.before = 0 then 0 else 1) +
      16 * (if x.queued then 1 else 0) + 32 * (if x.preempted then 1 else 0) + 64 * gone
    let wrote (t : State) (m : Nat) (x : FaultItem) : Prop :=
      let k := (head + m) % 2 ^ 32
      Tab.getBytes t.fm.ring (32 * (k % 1024)) 32 = leBytes 4 k ++ leBytes 1 (level x 0) ++ leBytes 1 x.unit ++
        leBytes 2 (x.inst % 4096) ++ leBytes 2 x.cause ++ leBytes 1 (if x.before = 0 then 0 else x.before + 2) ++
        leBytes 1 x.depth ++ leBytes 4 x.d0 ++ leBytes 8 x.d1 ++ leBytes 8 x.time ∧
      t.rdN Reg.FM_LOG_head = (head + m + 1) % 2 ^ 32
    let worst (t : State) : Prop := t.rdN Reg.FM_STATUS_worst = max f.sev (s.rdN Reg.FM_STATUS_worst)
    let safe (t : State) : Prop := t.rd Reg.FM_STATUS_state = 2 ∧ t.fm.handling = none ∧ t.fm.preempted = [] ∧
      t.fm.queue = [] ∧ t.fm.detected = rest ∧ t.rd Reg.FM_STATUS_worst = 4 ∧ (t.seq 0).events.getLsbD 7 = true ∧
      (∀ k, k ≤ s.par.clusters → t.rd (stateReg k) ≠ 1) ∧ t.rd Reg.FRAME_COUNT_count = s.rd Reg.FRAME_COUNT_count
    let given (t : State) (h : FaultItem) : Prop :=
      t.fm.handling = some h ∧ t.rd Reg.FM_STATUS_state = 1 ∧ t.rdN Reg.FM_STATUS_handling = h.sev
    (fm.detected = [] → Completes o fun t => t = s) ∧
    (fm.detected = f :: rest → s.rd Reg.FM_STATUS_state = 2 → Completes o fun t =>
      wrote t 0 f ∧ worst t ∧ t.fm.handling = fm.handling ∧ t.fm.queue = fm.queue ∧ t.fm.detected = rest) ∧
    (fm.detected = f :: rest → s.rd Reg.FM_STATUS_state ≠ 2 →
      (f.sev = 4 → Completes o fun t => safe t ∧
        wrote t (fm.handling.toList.length + fm.preempted.length + n) { f with depth := n }) ∧
      (f.sev < 4 → fm.handling = none → Completes o fun t => given t { f with depth := n } ∧ t.fm.queue = fm.queue ∧
        t.fm.detected = rest ∧ worst t ∧ t.fm.ring = fm.ring ∧ SameBytes s t) ∧
      (∀ h, f.sev < 4 → fm.handling = some h → h.sev < f.sev → Completes o fun t =>
        given t { f with depth := n, preempted := true } ∧ t.fm.preempted = h :: fm.preempted ∧ t.fm.queue = fm.queue ∧
        t.fm.detected = rest ∧ worst t ∧ t.fm.ring = fm.ring ∧
        t.rdN Reg.FM_CNT_preemptions = min 0xFFFFFFFF (s.rdN Reg.FM_CNT_preemptions + 1) ∧ SameBytes s t) ∧
      (∀ h, f.sev < 4 → fm.handling = some h → f.sev ≤ h.sev → n < 16 → Completes o fun t =>
        given t h ∧ t.fm.queue = fm.queue ++ [{ f with queued := true, depth := n + 1 }] ∧ t.fm.detected = rest ∧
        worst t ∧ t.fm.ring = fm.ring ∧ SameBytes s t) ∧
      (∀ h, f.sev < 4 → fm.handling = some h → f.sev ≤ h.sev → 16 ≤ n → Completes o fun t => safe t)) ∧
    (fm.handling = none → Completes (exec .faultHandled s) fun t => t = s) ∧
    (fm.handling = some f → Completes (exec .faultHandled s) fun t =>
      wrote t 0 f ∧ (2 ≤ f.sev → (t.seq 0).events.getLsbD 7 = true) ∧ (f.sev = 3 → ∃ h ∈ t.fm.holds, h.res = f.res) ∧
      (∀ h p, fm.preempted = h :: p → given t h ∧ t.fm.preempted = p ∧ t.fm.queue = fm.queue) ∧
      (fm.preempted = [] → fm.queue = [] → t.fm.handling = none ∧ t.rd Reg.FM_STATUS_state = 0) ∧
      (fm.preempted = [] → fm.queue ≠ [] → ∃ g ∈ fm.queue, given t g ∧ t.fm.queue = fm.queue.erase g ∧
        ∀ h ∈ fm.queue, h.sev ≤ g.sev ∧ (h.sev = g.sev → g.res.rank ≤ h.res.rank))) ∧
    (let u := s.advance dt
     let next := u.fm.safeShow + nsUnits (u.efN Reg.FT_PERIOD_nominal_ns)
     let due := u.rd Reg.FM_STATUS_state = 2 ∧ next ≤ u.active + nsUnits (1000 * u.efN Reg.LINK_SYNC_lead_us)
     (due → Completes (exec (.safeStateSync dt) s) fun t => t.fm.safeShow = next ∧ t.frame.lastFrame = u.frame.lastFrame ∧
       t.rd Reg.FRAME_COUNT_count = u.rd Reg.FRAME_COUNT_count ∧ SameBytes u t) ∧
     (¬ due → Completes (exec (.safeStateSync dt) s) fun t => t = u)) ∧
    (3 ≤ cls → s.queueExists cls inst 0 = true →
      (s.engineDown cls inst = true → Completes (exec (.hubEngineFault cls inst) s) fun t => t = s) ∧
      (s.engineDown cls inst = false → Completes (exec (.hubEngineFault cls inst) s) fun t =>
        t.engineDown cls inst = true ∧ ∃ x, t.fm.detected = fm.detected ++ [x] ∧ x.res = .hub cls inst ∧ x.cause = 0x0040 ∧
          (s.recoveringSev (.hub cls inst) = none → x.sev = 2)))

/-- R618 to R622: a lost reference that is selected gives way to a good one, the loss of both starts holdover, in which M0
comes to run freely, and a reference that returns ends holdover or takes a switch that waits for it. -/
def Obligations.ReferencesSwitchAndHold : Prop :=
  ∀ (s : State) (w : RefId),
    let n := if w = .a then 0 else 1
    let present (k : Nat) := if k = 0 then Reg.REF_STATUS_a_present else Reg.REF_STATUS_b_present
    let good (k : Nat) : Prop := s.rd (present k) = 1 ∧ s.refOut k = false
    let selected := s.rdN Reg.REF_STATUS_active = n
    let o := exec (.referenceMissing w) s
    let takes := selected ∧ s.rd Reg.REF_CTRL_auto = 1 ∧ good (1 - n)
    let switched (t : State) (k : Nat) : Prop := t.rdN Reg.REF_STATUS_active = k ∧ t.rd Reg.REF_STATUS_pending = 0 ∧
      t.rdN Reg.REF_STATUS_switches = min 0xFFFFFFFF (s.rdN Reg.REF_STATUS_switches + 1) ∧
      t.host.raised = s.host.raised ++ [13]
    let faulted (t : State) (sev : Nat) : Prop := ∃ f, t.fm.detected = s.fm.detected ++ [f] ∧ f.res = .reference n ∧
      f.cause = 0x002A ∧ (s.recoveringSev (.reference n) = none → f.sev = sev)
    let select := s.efN Reg.REF_CTRL_select
    let waits := s.rd Reg.REF_STATUS_pending = 1 ∧ s.refOut select = false ∧ (select = n ∨ s.rd (present select) = 1)
    (s.rd (present n) ≠ 1 → Completes o fun t => t = s) ∧
    (s.rd (present n) = 1 → takes → s.refOut n = true → Completes o fun t =>
      switched t (1 - n) ∧ faulted t 2 ∧ t.rd (present n) = 1) ∧
    (s.rd (present n) = 1 → takes → s.refOut n = false → Completes o fun t =>
      switched t (1 - n) ∧ faulted t 2 ∧ t.rd (present n) = 0) ∧
    (s.rd (present n) = 1 → ¬ takes → s.rd (present (1 - n)) = 1 → Completes o fun t =>
      t.rd (present n) = 0 ∧ SameRegsBut s t [present n] ∧ t = { s with regs := t.regs }) ∧
    (s.rd (present n) = 1 → s.rd (present (1 - n)) ≠ 1 → Completes o fun t =>
      t.rd (present n) = 0 ∧ t.rd Reg.REF_STATUS_internal = 1 ∧ t.pins.holdover = true ∧ t.pins.freeRun = false ∧
      faulted t 4 ∧ SameRegsBut s t [present n, Reg.REF_STATUS_internal] ∧ SameBytes s t) ∧
    Completes (exec .holdoverExpiry s) (fun t =>
      t = { s with pins := { s.pins with freeRun := s.pins.freeRun || s.pins.holdover } }) ∧
    (s.pins.holdover = true → Completes (exec (.referenceReturn w) s) fun t =>
      t.rd (present n) = 1 ∧ t.pins.holdover = false ∧ t.pins.freeRun = false ∧ t.rd Reg.REF_STATUS_internal = 0 ∧
      t.rdN Reg.REF_STATUS_active = n ∧ (¬ selected → switched t n) ∧
      (selected → t.cell Reg.REF_STATUS_switches = s.cell Reg.REF_STATUS_switches) ∧ SameBytes s t) ∧
    (s.pins.holdover = false → select < 2 → Completes (exec (.referenceReturn w) s) fun t =>
      t.rd (present n) = 1 ∧ (waits → switched t select) ∧
      (¬ waits → SameRegsBut s t [present n] ∧ t = { s with regs := t.regs }) ∧ SameBytes s t)

/-! ### Reset and boot (R531, R533, R605 to R617) -/

/-- R531, R533, R591, R605 to R612, R617: the power pins, the reset sources and the lock of M0. A boot begins with its cause
and with no image admitted; power and cold resets start at stage 1 and go on to the main rails unless TEST_EN is high, and a
warm reset starts at stage 4 and keeps the counters and the bytes of DRAM. Which registers a warm reset keeps is log 21. -/
def Obligations.PowerAndResetsBeginABoot : Prop :=
  ∀ s : State,
    let begins (t : State) (cause stage : Nat) : Prop := t.rdN Reg.RST_STATUS_cause = cause ∧ t.rdN Reg.RST_STATUS_stage = stage ∧
      t.rdN Reg.RST_STATUS_slot = 3 ∧ t.rd Reg.RST_STATUS_fail0 = 0 ∧ t.rd Reg.RST_STATUS_fail1 = 0
    let empty (t : State) : Prop := (∀ k, t.seq k = blankSeq) ∧ (∀ a, t.byte a = 0) ∧ t.part = s.part ∧
      t.pending = s.pending ∧ t.host = State.reset.host ∧ t.fm.detected = []
    let cold (t : State) (cause : Nat) : Prop := begins t cause (if s.pins.testEn then 1 else 2) ∧
      t.pins.pwrEnMain = !s.pins.testEn ∧ t.pins.pwrOkAon = true ∧ t.pins.pwrOkMain = false ∧ t.health.shutdown = false ∧
      t.rd Reg.REF_STATUS_a_present = 1 ∧ t.rd Reg.REF_STATUS_b_present = 1 ∧ empty t
    let cool := ∃ x l, s.health.samples = x :: l ∧ ∀ y ∈ s.health.samples, x.t ≤ y.t + 1000 → ∀ d, d < 3 →
      bit (s.rdN Reg.HEALTH_STATE_sensor_failed) d = true ∨ y.die d < 1360
    let stage (n : Nat) : Prop := s.rdN Reg.RST_STATUS_stage = n
    let shown := ∀ w, s.frame.showDue = some w → s.wordUnits w ≤ s.active
    let only (t : State) : Prop := SameRegsBut s t [Reg.RST_STATUS_stage] ∧ t.nvm = s.nvm ∧ t.sq = s.sq ∧ SameBytes s t
    (s.pins.pwrOkAon = true → Completes (exec .powerOn s) fun t => t = s) ∧
    (s.pins.pwrOkAon = false → Completes (exec .powerOn s) fun t => cold t 1) ∧
    Completes (exec .powerLoss s) (fun t => empty t ∧ t.pins.pwrOkAon = false ∧ t.pins.pwrEnMain = false ∧
      t.nvm.cells = s.nvm.cells ∧ t.nvm.passwords = s.nvm.passwords ∧ t.nvm.writes = []) ∧
    (s.pins.pwrOkAon = false ∨ s.health.shutdown = true → Completes (exec .resetNRelease s) fun t => t = s) ∧
    (s.pins.pwrOkAon = true → s.health.shutdown = false → Completes (exec .resetNRelease s) fun t => cold t 2) ∧
    (s.health.shutdown = true → cool → Completes (exec .thermalRelease s) fun t => cold t 3) ∧
    (s.health.shutdown = false ∨ ¬ cool → Completes (exec .thermalRelease s) fun t => t = s) ∧
    (s.health.shutdown = true → s.pins.pwrEnMain = true → shown → Completes (exec .shutdownRailCut s) fun t =>
      t.pins.pwrEnMain = false ∧ t.pins.pwrOkMain = false ∧ t.health.shutdown = true ∧ t.nvm = s.nvm ∧
      t.pins.thermAlert = s.pins.thermAlert ∧ empty t) ∧
    (s.health.shutdown = false ∨ s.pins.pwrEnMain = false ∨ ¬ shown →
      Completes (exec .shutdownRailCut s) fun t => t = s) ∧
    (s.pins.pwrEnMain = true → Completes (exec .pwrOkMainRise s) fun t => t.pins.pwrOkMain = true ∧
      (stage 2 → s.pins.tapHolds = false → t.rdN Reg.RST_STATUS_stage = 3) ∧
      (¬ stage 2 ∨ s.pins.tapHolds = true → SameRegsBut s t []) ∧ only t) ∧
    (stage 2 → s.pins.pwrEnMain = true → s.pins.pwrOkMain = false → Completes (exec .mainPowerTimeout s) fun t =>
      t.rdN Reg.RST_STATUS_stage = 15 ∧ t.pins.pwrEnMain = false ∧ only t) ∧
    (¬ stage 2 ∨ s.pins.pwrEnMain = false ∨ s.pins.pwrOkMain = true → Completes (exec .mainPowerTimeout s) fun t => t = s) ∧
    (s.pins.pwrOkMain = true → s.pins.pwrEnMain = true → s.health.shutdown = false →
      Completes (exec .pwrOkMainFall s) fun t => begins t 7 2 ∧ t.pins.pwrOkMain = false ∧ t.pins.pwrEnMain = true ∧
        t.rd Reg.NVM_LOCKS_open = 0 ∧ t.nvm = s.nvm ∧ empty t) ∧
    (stage 3 → Completes (exec .m0Lock s) fun t => t.rd Reg.CLK_STATUS_m0_lock = 1 ∧
      (s.pins.tapHolds = false → t.rdN Reg.RST_STATUS_stage = 4) ∧ (s.pins.tapHolds = true → t.rdN Reg.RST_STATUS_stage = 3) ∧
      SameRegsBut s t [Reg.RST_STATUS_stage, Reg.CLK_STATUS_m0_lock] ∧ SameBytes s t) ∧
    (¬ stage 3 → Completes (exec .m0Lock s) fun t => t = s) ∧
    (s.pins.warmDue = 0 ∨ s.health.shutdown = true → Completes (exec .warmReset s) fun t => t = s) ∧
    (s.pins.warmDue ≠ 0 → s.health.shutdown = false → Completes (exec .warmReset s) fun t =>
      begins t s.pins.warmDue 4 ∧ t.pins.warmDue = 0 ∧ t.rd Reg.NVM_LOCKS_open = 0 ∧ t.rd Reg.HOST_LINK_speed = 0 ∧
      t.clk = s.clk ∧ (∀ k, t.seq k = blankSeq) ∧ t.rd Reg.FRAME_COUNT_count = 0 ∧
      (∀ a, t.byte a = if dramBase ≤ a then s.byte a else 0))

/-- R612 to R614: the image is fetched into the staging area and verified; one that passes is admitted and boot goes on to
DRAM training and to the loading of its program, and one that fails gives way to the next slot, or to the host. -/
def Obligations.BootFetchesVerifiesAndLoads : Prop :=
  ∀ (s : State) (image : Bytes) (failed : BitVec 24),
    let at_ (n : Nat) : Prop := s.rdN Reg.RST_STATUS_stage = n ∧ s.pins.tapHolds = false
    let slot := if s.rd Reg.RST_STATUS_fail0 = 0 then 0 else if s.rd Reg.RST_STATUS_fail1 = 0 then 1 else 2
    let outcome := outcomeOf s.bootFails
    let stage (t : State) (n : Nat) : Prop := t.rdN Reg.RST_STATUS_stage = n
    let n := min image.length stagingSize
    (¬ at_ 4 → Completes (exec (.imageFetchComplete image) s) fun t => t = s) ∧
    (at_ 4 → Completes (exec (.imageFetchComplete image) s) fun t =>
      stage t 5 ∧ t.pins.stageAddr = 0x15000000 ∧ t.pins.stageLen = n ∧
      ((∀ a, 0x15000000 ≤ a → a < 0x15000000 + n → s.region a = .common) → (∀ k, k < 16 → s.sliceFailed k = false) →
        s.mem.zonesOn = false → n % 8 = 0 → t.bytes 0x15000000 n = image.take n ∧ SameBytesBut s t 0x15000000 n)) ∧
    (¬ at_ 5 → Completes (exec .bootImageVerified s) fun t => t = s) ∧
    (at_ 5 → s.bootFails = [] → Completes (exec .bootImageVerified s) fun t =>
      stage t 8 ∧ t.rdN Reg.RST_STATUS_slot = slot ∧ t.rd Reg.TRUST_STATUS_last_failed = 0 ∧ t.mem.zonesOn = true) ∧
    (at_ 5 → s.bootFails ≠ [] → Completes (exec .bootImageVerified s) fun t =>
      (slot = 0 → stage t 4 ∧ t.rdN Reg.RST_STATUS_fail0 = outcome) ∧
      (slot = 1 → stage t 12 ∧ t.rdN Reg.RST_STATUS_fail1 = outcome) ∧ (slot = 2 → stage t 12) ∧
      (slot ≠ 0 → t.host.raised = s.host.raised ++ [12]) ∧ SameBytes s t) ∧
    (¬ at_ 8 → Completes (exec (.dramTrainingComplete failed) s) fun t => t = s) ∧
    (at_ 8 → Completes (exec (.dramTrainingComplete failed) s) fun t => stage t 9 ∧
      (s.hasBoard = true → ∀ ch, ch < s.par.channels → failed.getLsbD ch = true →
        t.rd (Reg.DRAM_STATUS_state ch) = 1 ∧ t.rd (Reg.DRAM_FAIL_cause ch) = 3) ∧
      (s.hasBoard = true → s.mem.bad = [] → s.mem.badPar = [] → ∀ ch, ch < s.par.channels → failed.getLsbD ch = false →
        s.rd (Reg.DRAM_STATUS_state ch) = 0 ∨ s.rd (Reg.DRAM_STATUS_state ch) = 3 → t.rd (Reg.DRAM_STATUS_state ch) = 0)) ∧
    (¬ at_ 9 → Completes (exec .bootSectionsLoaded s) fun t => t = s) ∧
    (at_ 9 → Completes (exec .bootSectionsLoaded s) fun t =>
      (stage t 10 ∨ stage t 11) ∧ t.rdN Reg.MSH_PROG_active = s.pins.stageAddr ∧ t.rd (stateReg 0) = 1)

/-! ### Test access (R662 to R665) -/

/-- R612, R662 to R665: the TAP runs from stage 2. A test instruction holds the lands in the stages that admit it, IDCODE
captures the identification register, DEBUG_HALT and DEBUG_RELEASE set and clear debug halt, and Test-Logic-Reset releases
both and lets boot advance. IDCODE is the instruction in Test-Logic-Reset (log 23). -/
def Obligations.TapInstructionsAndDebugHalt : Prop :=
  ∀ s : State,
    let st := s.rdN Reg.RST_STATUS_stage
    let runs := 2 ≤ st ∧ (s.pins.pwrEnMain = true ∨ s.health.shutdown = false)
    let testStage := (2 ≤ st ∧ st ≤ 6) ∨ st = 12 ∨ st = 15
    let idCode := BitVec.ofNat 32 (s.rdN Reg.FAMILY_stepping % 16 * 2 ^ 28 + s.par.deviceId * 2 ^ 12 + 0x4B6 * 2 + 1)
    let test (c : Instr) (i : TapInstr) : Prop := Completes (exec c s) fun t =>
      t = { s with pins := { s.pins with tap := i, tapHolds := s.pins.tapHolds || decide testStage } }
    let plain (c : Instr) (i : TapInstr) : Prop := Completes (exec c s) fun t => t = { s with pins := { s.pins with tap := i } }
    (¬ runs → ∀ c ∈ [Instr.extest, .idcode, .samplePreload, .extestPulse, .extestTrain, .clamp, .highz, .debugHalt, .debugRelease,
      .bypass, .testLogicReset], Completes (exec c s) fun t => t = s) ∧
    (runs → test .extest .extest ∧ test .extestPulse .extestPulse ∧ test .extestTrain .extestTrain ∧ test .clamp .clamp ∧
      test .highz .highz ∧ plain .samplePreload .samplePreload ∧ plain .bypass .bypass ∧
      (Completes (exec .idcode s) fun t => t = { s with pins := { s.pins with tap := .idcode, idReg := idCode } }) ∧
      (Completes (exec .debugHalt s) fun t => t.sq.debugHalt = true ∧ t.pins = { s.pins with tap := .debugHalt } ∧
        t.sq.seqs = s.sq.seqs ∧ t.clk = s.clk ∧ SameRegsBut s t [Reg.ARB_SPUR_debug] ∧ SameBytes s t) ∧
      (Completes (exec .debugRelease s) fun t => t = { s with pins := { s.pins with tap := .debugRelease }, sq := t.sq } ∧
        t.sq = { s.sq with debugHalt := false }) ∧
      (Completes (exec .testLogicReset s) fun t =>
        t.pins = { s.pins with tap := .idcode, tapHolds := false, idReg := idCode } ∧ t.sq = { s.sq with debugHalt := false } ∧
        t.rdN Reg.RST_STATUS_stage = (if st = 2 ∧ s.pins.pwrOkMain = true then 3
          else if st = 3 ∧ s.rd Reg.CLK_STATUS_m0_lock = 1 then 4 else st) ∧
        SameRegsBut s t [Reg.RST_STATUS_stage] ∧ SameBytes s t))

/-! ### Reset and memory -/

/-- R17, R34 to R36, R67, R511, R612: after reset every field of the register map has its reset value, in effect as well and
with nothing pending; the VL-X512 shows its parameters in FAMILY and FAMILY_EXT; every sequencer is halted; and memory is in
canonical form. -/
def Obligations.ResetLeavesTheStatedValues : Prop :=
  ∀ (h : Nat) (x : Field) (m : Member),
    let s := { State.reset with part := m }
    (fieldOf s.par h = some x →
      s.rd h = x.row.rst s.par x.inst x.rep ∧ s.ef h = s.rd h ∧ (s.cell h).nxt = none ∧ (s.cell h).aft = none) ∧
    (State.reset.regRead 0x8 false).1 = 0x02007804 ∧ (State.reset.regRead 0xC false).1 = 0x533C4009 ∧
    (State.reset.regRead 0x10 false).1 = 0x8020 ∧
    (∀ k, k ≤ s.par.clusters → s.rd (stateReg k) = 0) ∧
    s.rd Reg.FRAME_COUNT_count = 0 ∧ s.rd Reg.RST_STATUS_stage = 1 ∧ s.pending = [] ∧ Memory.wf s.mem.cells = true

/-- R79 to R83, R256, R259, R284: paddock and DRAM keep their canonical form (log 6) under every command that stores through
the fabric, and while no command waits. -/
def Obligations.MemoryStaysCanonical : Prop :=
  ∀ (s t : State) (q : SeqId) (f : KFmt) (j : JFmt) (off a : Nat) (b : Bytes) (w : List (Option Byte))
    (o : Host.Outcome State Fault Refusal),
    Memory.wf s.mem.cells = true → o = .next t →
    o = exec (.ld q f) s ∨ o = exec (.ldw32 q f) s ∨ o = exec (.st q f) s ∨ o = exec (.stw32 q f) s ∨ o = exec (.cas q f) s ∨
    o = exec (.fadd q f) s ∨ o = exec (.fence q j) s ∨ o = exec (.bar2Write off w) s ∨ o = exec (.dramWriteGather a b) s ∨
    o = exec (.imageFetchComplete b) s ∨ o = step { s with pending := [] } → Memory.wf t.mem.cells = true
end

