-- ==== Sys2Proof/Laws/Tab.lean ====
section
/-! SUPPORT. What the table operations do at each key, and that they keep the canonical form. -/
namespace Sys2Proof.Machine

variable {α : Type}

@[simp] theorem Tab.find_nil (i : Nat) : Tab.find ([] : Tab α) i = none := rfl

theorem Tab.find_cons (k : Nat) (v : α) (t : Tab α) (i : Nat) :
    Tab.find ((k, v) :: t) i = if k = i then some v else Tab.find t i := rfl

theorem Tab.mem_of_find {t : Tab α} {i : Nat} {v : α} (h : Tab.find t i = some v) : (i, v) ∈ t := by
  induction t with
  | nil => simp at h
  | cons x t ih =>
    rw [Tab.find_cons] at h
    split at h
    · rename_i hx
      obtain rfl : x.2 = v := by simpa using h
      exact List.mem_cons.2 (.inl (by rw [← hx]))
    · exact List.mem_cons_of_mem _ (ih h)

theorem Tab.find_del (t : Tab α) (i j : Nat) :
    Tab.find (Tab.del t i) j = if j = i then none else Tab.find t j := by
  induction t with
  | nil => simp [Tab.del]
  | cons x t ih =>
    obtain ⟨k, v⟩ := x
    simp only [Tab.del, Tab.find_cons]
    split <;> rename_i hk
    · rw [ih]; by_cases hj : j = i
      · simp [hj]
      · have : k ≠ j := fun h => hj (h ▸ hk)
        simp [hj, this]
    · rw [Tab.find_cons, ih]; by_cases hj : j = i
      · subst hj; simp [hk]
      · simp [hj]

theorem Tab.find_ins (t : Tab α) (i j : Nat) (v : α) (h : Tab.find t i = none) :
    Tab.find (Tab.ins t i v) j = if j = i then some v else Tab.find t j := by
  induction t with
  | nil => simp only [Tab.ins, Tab.find_cons, Tab.find_nil, eq_comm]
  | cons x t ih =>
    obtain ⟨k, w⟩ := x
    simp only [Tab.find_cons] at h
    split at h
    · cases h
    · rename_i hk
      simp only [Tab.ins]
      split
      · simp only [Tab.find_cons, eq_comm (a := i)]
      · simp only [Tab.find_cons]; rw [ih h]
        by_cases hj : j = i
        · subst hj; simp [hk]
        · simp [hj]

/-- What `set` does at each key. -/
@[simp] theorem Tab.find_set (t : Tab α) (i j : Nat) (v : α) :
    Tab.find (Tab.set t i v) j = if j = i then some v else Tab.find t j := by
  rw [Tab.set, Tab.find_ins _ _ _ _ (by simp [Tab.find_del]), Tab.find_del]
  by_cases h : j = i <;> simp [h]

/-- What `put` does at each key. -/
@[simp] theorem Tab.get_put [DecidableEq α] (d : α) (t : Tab α) (i j : Nat) (v : α) :
    Tab.get d (Tab.put d t i v) j = if j = i then v else Tab.get d t j := by
  unfold Tab.get Tab.put
  split
  · rename_i h; rw [Tab.find_del]; by_cases hj : j = i <;> simp [hj, h]
  · rw [Tab.find_set]; by_cases hj : j = i <;> simp [hj]

@[simp] theorem Tab.get_nil (d : α) (i : Nat) : Tab.get d [] i = d := rfl

/-! ### The canonical form -/

variable [DecidableEq α]

theorem Tab.wfFrom_mono (d : α) {a b : Nat} (h : a ≤ b) (t : Tab α) (w : Tab.wfFrom d b t = true) :
    Tab.wfFrom d a t = true := by
  cases t with
  | nil => rfl
  | cons x t =>
    obtain ⟨k, v⟩ := x
    simp only [Tab.wfFrom, Bool.and_eq_true, decide_eq_true_eq] at *
    exact ⟨⟨Nat.le_trans h w.1.1, w.1.2⟩, w.2⟩

theorem Tab.wfFrom_del (d : α) (lo i : Nat) (t : Tab α) (w : Tab.wfFrom d lo t = true) :
    Tab.wfFrom d lo (Tab.del t i) = true := by
  induction t generalizing lo with
  | nil => rfl
  | cons x t ih =>
    obtain ⟨k, v⟩ := x
    simp only [Tab.wfFrom, Bool.and_eq_true, decide_eq_true_eq] at w
    simp only [Tab.del]
    split
    · exact Tab.wfFrom_mono d (by omega) _ (ih (k + 1) w.2)
    · simp only [Tab.wfFrom, Bool.and_eq_true, decide_eq_true_eq]
      exact ⟨w.1, ih (k + 1) w.2⟩

theorem Tab.wfFrom_ins (d : α) (lo i : Nat) (v : α) (t : Tab α) (hl : lo ≤ i) (hv : v ≠ d)
    (hf : Tab.find t i = none) (w : Tab.wfFrom d lo t = true) : Tab.wfFrom d lo (Tab.ins t i v) = true := by
  induction t generalizing lo with
  | nil => simp [Tab.ins, Tab.wfFrom, hl, hv]
  | cons x t ih =>
    obtain ⟨k, u⟩ := x
    simp only [Tab.find_cons] at hf
    split at hf
    · cases hf
    · rename_i hk
      simp only [Tab.wfFrom, Bool.and_eq_true, decide_eq_true_eq] at w
      simp only [Tab.ins]
      split
      · simp only [Tab.wfFrom, Bool.and_eq_true, decide_eq_true_eq]
        exact ⟨⟨hl, hv⟩, ⟨by omega, w.1.2⟩, w.2⟩
      · simp only [Tab.wfFrom, Bool.and_eq_true, decide_eq_true_eq]
        exact ⟨w.1, ih (k + 1) (by omega) hf w.2⟩

/-- `put` keeps the canonical form. -/
theorem Tab.wf_put (d : α) (t : Tab α) (i : Nat) (v : α) (w : Tab.wf d t = true) : Tab.wf d (Tab.put d t i v) = true := by
  unfold Tab.wf Tab.put at *
  split
  · exact Tab.wfFrom_del d 0 i t w
  · rename_i h
    exact Tab.wfFrom_ins d 0 i v _ (Nat.zero_le i) h (by simp [Tab.find_del]) (Tab.wfFrom_del d 0 i t w)

theorem Tab.wfFrom_filter (d : α) (p : Nat × α → Bool) (lo : Nat) (t : Tab α) (w : Tab.wfFrom d lo t = true) :
    Tab.wfFrom d lo (t.filter p) = true := by
  induction t generalizing lo with
  | nil => rfl
  | cons x t ih =>
    obtain ⟨k, v⟩ := x
    simp only [Tab.wfFrom, Bool.and_eq_true, decide_eq_true_eq] at w
    rw [List.filter_cons]
    split
    · simp only [Tab.wfFrom, Bool.and_eq_true, decide_eq_true_eq]
      exact ⟨w.1, ih (k + 1) w.2⟩
    · exact Tab.wfFrom_mono d (by omega) _ (ih (k + 1) w.2)

/-- A selection of entries keeps the canonical form. -/
theorem Tab.wf_filter (d : α) (p : Nat × α → Bool) (t : Tab α) (w : Tab.wf d t = true) :
    Tab.wf d (t.filter p : Tab α) = true := Tab.wfFrom_filter d p 0 t w

end Sys2Proof.Machine
end

