-- ==== Sys2Proof/Laws/State.lean ====
section
/-! SUPPORT. What the named updates of State leave alone, field by field, and what they do to what they change. -/
namespace Sys2Proof.Machine
open Sys2Proof

@[simp] theorem State.setCell_part (s : State) (h : Nat) (c : Cell) : (s.setCell h c).part = s.part := rfl
@[simp] theorem State.setCell_pending (s : State) (h : Nat) (c : Cell) : (s.setCell h c).pending = s.pending := rfl
@[simp] theorem State.setCell_clk (s : State) (h : Nat) (c : Cell) : (s.setCell h c).clk = s.clk := rfl
@[simp] theorem State.setCell_sq (s : State) (h : Nat) (c : Cell) : (s.setCell h c).sq = s.sq := rfl
@[simp] theorem State.setCell_eng (s : State) (h : Nat) (c : Cell) : (s.setCell h c).eng = s.eng := rfl
@[simp] theorem State.setCell_engDown (s : State) (h : Nat) (c : Cell) : (s.setCell h c).engDown = s.engDown := rfl
@[simp] theorem State.setCell_mem (s : State) (h : Nat) (c : Cell) : (s.setCell h c).mem = s.mem := rfl
@[simp] theorem State.setCell_fm (s : State) (h : Nat) (c : Cell) : (s.setCell h c).fm = s.fm := rfl
@[simp] theorem State.setCell_host (s : State) (h : Nat) (c : Cell) : (s.setCell h c).host = s.host := rfl
@[simp] theorem State.setCell_clusters (s : State) (h : Nat) (c : Cell) : (s.setCell h c).clusters = s.clusters := rfl
@[simp] theorem State.setCell_links (s : State) (h : Nat) (c : Cell) : (s.setCell h c).links = s.links := rfl
@[simp] theorem State.setCell_svc (s : State) (h : Nat) (c : Cell) : (s.setCell h c).svc = s.svc := rfl
@[simp] theorem State.setCell_tiles (s : State) (h : Nat) (c : Cell) : (s.setCell h c).tiles = s.tiles := rfl
@[simp] theorem State.setCell_hub (s : State) (h : Nat) (c : Cell) : (s.setCell h c).hub = s.hub := rfl
@[simp] theorem State.setCell_ing (s : State) (h : Nat) (c : Cell) : (s.setCell h c).ing = s.ing := rfl
@[simp] theorem State.setCell_dec (s : State) (h : Nat) (c : Cell) : (s.setCell h c).dec = s.dec := rfl
@[simp] theorem State.setCell_frame (s : State) (h : Nat) (c : Cell) : (s.setCell h c).frame = s.frame := rfl
@[simp] theorem State.setCell_health (s : State) (h : Nat) (c : Cell) : (s.setCell h c).health = s.health := rfl
@[simp] theorem State.setCell_nvm (s : State) (h : Nat) (c : Cell) : (s.setCell h c).nvm = s.nvm := rfl
@[simp] theorem State.setCell_trust (s : State) (h : Nat) (c : Cell) : (s.setCell h c).trust = s.trust := rfl
@[simp] theorem State.setCell_ptp (s : State) (h : Nat) (c : Cell) : (s.setCell h c).ptp = s.ptp := rfl
@[simp] theorem State.setCell_corr (s : State) (h : Nat) (c : Cell) : (s.setCell h c).corr = s.corr := rfl
@[simp] theorem State.setCell_pins (s : State) (h : Nat) (c : Cell) : (s.setCell h c).pins = s.pins := rfl
@[simp] theorem State.setCell_out (s : State) (h : Nat) (c : Cell) : (s.setCell h c).out = s.out := rfl
@[simp] theorem State.setCell_nfree (s : State) (h : Nat) (c : Cell) : (s.setCell h c).nfree = s.nfree := rfl

@[simp] theorem State.wr_part (s : State) (h : Nat) (v : Int) : (s.wr h v).part = s.part := rfl
@[simp] theorem State.wr_pending (s : State) (h : Nat) (v : Int) : (s.wr h v).pending = s.pending := rfl
@[simp] theorem State.wr_clk (s : State) (h : Nat) (v : Int) : (s.wr h v).clk = s.clk := rfl
@[simp] theorem State.wr_sq (s : State) (h : Nat) (v : Int) : (s.wr h v).sq = s.sq := rfl
@[simp] theorem State.wr_eng (s : State) (h : Nat) (v : Int) : (s.wr h v).eng = s.eng := rfl
@[simp] theorem State.wr_engDown (s : State) (h : Nat) (v : Int) : (s.wr h v).engDown = s.engDown := rfl
@[simp] theorem State.wr_mem (s : State) (h : Nat) (v : Int) : (s.wr h v).mem = s.mem := rfl
@[simp] theorem State.wr_fm (s : State) (h : Nat) (v : Int) : (s.wr h v).fm = s.fm := rfl
@[simp] theorem State.wr_host (s : State) (h : Nat) (v : Int) : (s.wr h v).host = s.host := rfl
@[simp] theorem State.wr_clusters (s : State) (h : Nat) (v : Int) : (s.wr h v).clusters = s.clusters := rfl
@[simp] theorem State.wr_links (s : State) (h : Nat) (v : Int) : (s.wr h v).links = s.links := rfl
@[simp] theorem State.wr_svc (s : State) (h : Nat) (v : Int) : (s.wr h v).svc = s.svc := rfl
@[simp] theorem State.wr_tiles (s : State) (h : Nat) (v : Int) : (s.wr h v).tiles = s.tiles := rfl
@[simp] theorem State.wr_hub (s : State) (h : Nat) (v : Int) : (s.wr h v).hub = s.hub := rfl
@[simp] theorem State.wr_ing (s : State) (h : Nat) (v : Int) : (s.wr h v).ing = s.ing := rfl
@[simp] theorem State.wr_dec (s : State) (h : Nat) (v : Int) : (s.wr h v).dec = s.dec := rfl
@[simp] theorem State.wr_frame (s : State) (h : Nat) (v : Int) : (s.wr h v).frame = s.frame := rfl
@[simp] theorem State.wr_health (s : State) (h : Nat) (v : Int) : (s.wr h v).health = s.health := rfl
@[simp] theorem State.wr_nvm (s : State) (h : Nat) (v : Int) : (s.wr h v).nvm = s.nvm := rfl
@[simp] theorem State.wr_trust (s : State) (h : Nat) (v : Int) : (s.wr h v).trust = s.trust := rfl
@[simp] theorem State.wr_ptp (s : State) (h : Nat) (v : Int) : (s.wr h v).ptp = s.ptp := rfl
@[simp] theorem State.wr_corr (s : State) (h : Nat) (v : Int) : (s.wr h v).corr = s.corr := rfl
@[simp] theorem State.wr_pins (s : State) (h : Nat) (v : Int) : (s.wr h v).pins = s.pins := rfl
@[simp] theorem State.wr_out (s : State) (h : Nat) (v : Int) : (s.wr h v).out = s.out := rfl
@[simp] theorem State.wr_nfree (s : State) (h : Nat) (v : Int) : (s.wr h v).nfree = s.nfree := rfl

@[simp] theorem State.wrN_part (s : State) (h v : Nat) : (s.wrN h v).part = s.part := rfl
@[simp] theorem State.wrN_pending (s : State) (h v : Nat) : (s.wrN h v).pending = s.pending := rfl
@[simp] theorem State.wrN_clk (s : State) (h v : Nat) : (s.wrN h v).clk = s.clk := rfl
@[simp] theorem State.wrN_sq (s : State) (h v : Nat) : (s.wrN h v).sq = s.sq := rfl
@[simp] theorem State.wrN_eng (s : State) (h v : Nat) : (s.wrN h v).eng = s.eng := rfl
@[simp] theorem State.wrN_engDown (s : State) (h v : Nat) : (s.wrN h v).engDown = s.engDown := rfl
@[simp] theorem State.wrN_mem (s : State) (h v : Nat) : (s.wrN h v).mem = s.mem := rfl
@[simp] theorem State.wrN_fm (s : State) (h v : Nat) : (s.wrN h v).fm = s.fm := rfl
@[simp] theorem State.wrN_host (s : State) (h v : Nat) : (s.wrN h v).host = s.host := rfl
@[simp] theorem State.wrN_clusters (s : State) (h v : Nat) : (s.wrN h v).clusters = s.clusters := rfl
@[simp] theorem State.wrN_links (s : State) (h v : Nat) : (s.wrN h v).links = s.links := rfl
@[simp] theorem State.wrN_svc (s : State) (h v : Nat) : (s.wrN h v).svc = s.svc := rfl
@[simp] theorem State.wrN_tiles (s : State) (h v : Nat) : (s.wrN h v).tiles = s.tiles := rfl
@[simp] theorem State.wrN_hub (s : State) (h v : Nat) : (s.wrN h v).hub = s.hub := rfl
@[simp] theorem State.wrN_ing (s : State) (h v : Nat) : (s.wrN h v).ing = s.ing := rfl
@[simp] theorem State.wrN_dec (s : State) (h v : Nat) : (s.wrN h v).dec = s.dec := rfl
@[simp] theorem State.wrN_frame (s : State) (h v : Nat) : (s.wrN h v).frame = s.frame := rfl
@[simp] theorem State.wrN_health (s : State) (h v : Nat) : (s.wrN h v).health = s.health := rfl
@[simp] theorem State.wrN_nvm (s : State) (h v : Nat) : (s.wrN h v).nvm = s.nvm := rfl
@[simp] theorem State.wrN_trust (s : State) (h v : Nat) : (s.wrN h v).trust = s.trust := rfl
@[simp] theorem State.wrN_ptp (s : State) (h v : Nat) : (s.wrN h v).ptp = s.ptp := rfl
@[simp] theorem State.wrN_corr (s : State) (h v : Nat) : (s.wrN h v).corr = s.corr := rfl
@[simp] theorem State.wrN_pins (s : State) (h v : Nat) : (s.wrN h v).pins = s.pins := rfl
@[simp] theorem State.wrN_out (s : State) (h v : Nat) : (s.wrN h v).out = s.out := rfl
@[simp] theorem State.wrN_nfree (s : State) (h v : Nat) : (s.wrN h v).nfree = s.nfree := rfl

@[simp] theorem State.bump_part (s : State) (h k : Nat) : (s.bump h k).part = s.part := rfl
@[simp] theorem State.bump_pending (s : State) (h k : Nat) : (s.bump h k).pending = s.pending := rfl
@[simp] theorem State.bump_clk (s : State) (h k : Nat) : (s.bump h k).clk = s.clk := rfl
@[simp] theorem State.bump_sq (s : State) (h k : Nat) : (s.bump h k).sq = s.sq := rfl
@[simp] theorem State.bump_eng (s : State) (h k : Nat) : (s.bump h k).eng = s.eng := rfl
@[simp] theorem State.bump_engDown (s : State) (h k : Nat) : (s.bump h k).engDown = s.engDown := rfl
@[simp] theorem State.bump_mem (s : State) (h k : Nat) : (s.bump h k).mem = s.mem := rfl
@[simp] theorem State.bump_fm (s : State) (h k : Nat) : (s.bump h k).fm = s.fm := rfl
@[simp] theorem State.bump_host (s : State) (h k : Nat) : (s.bump h k).host = s.host := rfl
@[simp] theorem State.bump_clusters (s : State) (h k : Nat) : (s.bump h k).clusters = s.clusters := rfl
@[simp] theorem State.bump_links (s : State) (h k : Nat) : (s.bump h k).links = s.links := rfl
@[simp] theorem State.bump_svc (s : State) (h k : Nat) : (s.bump h k).svc = s.svc := rfl
@[simp] theorem State.bump_tiles (s : State) (h k : Nat) : (s.bump h k).tiles = s.tiles := rfl
@[simp] theorem State.bump_hub (s : State) (h k : Nat) : (s.bump h k).hub = s.hub := rfl
@[simp] theorem State.bump_ing (s : State) (h k : Nat) : (s.bump h k).ing = s.ing := rfl
@[simp] theorem State.bump_dec (s : State) (h k : Nat) : (s.bump h k).dec = s.dec := rfl
@[simp] theorem State.bump_frame (s : State) (h k : Nat) : (s.bump h k).frame = s.frame := rfl
@[simp] theorem State.bump_health (s : State) (h k : Nat) : (s.bump h k).health = s.health := rfl
@[simp] theorem State.bump_nvm (s : State) (h k : Nat) : (s.bump h k).nvm = s.nvm := rfl
@[simp] theorem State.bump_trust (s : State) (h k : Nat) : (s.bump h k).trust = s.trust := rfl
@[simp] theorem State.bump_ptp (s : State) (h k : Nat) : (s.bump h k).ptp = s.ptp := rfl
@[simp] theorem State.bump_corr (s : State) (h k : Nat) : (s.bump h k).corr = s.corr := rfl
@[simp] theorem State.bump_pins (s : State) (h k : Nat) : (s.bump h k).pins = s.pins := rfl
@[simp] theorem State.bump_out (s : State) (h k : Nat) : (s.bump h k).out = s.out := rfl
@[simp] theorem State.bump_nfree (s : State) (h k : Nat) : (s.bump h k).nfree = s.nfree := rfl

@[simp] theorem State.setPc_part (s : State) (k : Nat) (v : Int) : (s.setPc k v).part = s.part := rfl
@[simp] theorem State.setPc_pending (s : State) (k : Nat) (v : Int) : (s.setPc k v).pending = s.pending := rfl
@[simp] theorem State.setPc_clk (s : State) (k : Nat) (v : Int) : (s.setPc k v).clk = s.clk := rfl
@[simp] theorem State.setPc_sq (s : State) (k : Nat) (v : Int) : (s.setPc k v).sq = s.sq := rfl
@[simp] theorem State.setPc_eng (s : State) (k : Nat) (v : Int) : (s.setPc k v).eng = s.eng := rfl
@[simp] theorem State.setPc_engDown (s : State) (k : Nat) (v : Int) : (s.setPc k v).engDown = s.engDown := rfl
@[simp] theorem State.setPc_mem (s : State) (k : Nat) (v : Int) : (s.setPc k v).mem = s.mem := rfl
@[simp] theorem State.setPc_fm (s : State) (k : Nat) (v : Int) : (s.setPc k v).fm = s.fm := rfl
@[simp] theorem State.setPc_host (s : State) (k : Nat) (v : Int) : (s.setPc k v).host = s.host := rfl
@[simp] theorem State.setPc_clusters (s : State) (k : Nat) (v : Int) : (s.setPc k v).clusters = s.clusters := rfl
@[simp] theorem State.setPc_links (s : State) (k : Nat) (v : Int) : (s.setPc k v).links = s.links := rfl
@[simp] theorem State.setPc_svc (s : State) (k : Nat) (v : Int) : (s.setPc k v).svc = s.svc := rfl
@[simp] theorem State.setPc_tiles (s : State) (k : Nat) (v : Int) : (s.setPc k v).tiles = s.tiles := rfl
@[simp] theorem State.setPc_hub (s : State) (k : Nat) (v : Int) : (s.setPc k v).hub = s.hub := rfl
@[simp] theorem State.setPc_ing (s : State) (k : Nat) (v : Int) : (s.setPc k v).ing = s.ing := rfl
@[simp] theorem State.setPc_dec (s : State) (k : Nat) (v : Int) : (s.setPc k v).dec = s.dec := rfl
@[simp] theorem State.setPc_frame (s : State) (k : Nat) (v : Int) : (s.setPc k v).frame = s.frame := rfl
@[simp] theorem State.setPc_health (s : State) (k : Nat) (v : Int) : (s.setPc k v).health = s.health := rfl
@[simp] theorem State.setPc_nvm (s : State) (k : Nat) (v : Int) : (s.setPc k v).nvm = s.nvm := rfl
@[simp] theorem State.setPc_trust (s : State) (k : Nat) (v : Int) : (s.setPc k v).trust = s.trust := rfl
@[simp] theorem State.setPc_ptp (s : State) (k : Nat) (v : Int) : (s.setPc k v).ptp = s.ptp := rfl
@[simp] theorem State.setPc_corr (s : State) (k : Nat) (v : Int) : (s.setPc k v).corr = s.corr := rfl
@[simp] theorem State.setPc_pins (s : State) (k : Nat) (v : Int) : (s.setPc k v).pins = s.pins := rfl
@[simp] theorem State.setPc_out (s : State) (k : Nat) (v : Int) : (s.setPc k v).out = s.out := rfl
@[simp] theorem State.setPc_nfree (s : State) (k : Nat) (v : Int) : (s.setPc k v).nfree = s.nfree := rfl

@[simp] theorem State.setSeq_part (s : State) (k : Nat) (q : Seq) : (s.setSeq k q).part = s.part := rfl
@[simp] theorem State.setSeq_pending (s : State) (k : Nat) (q : Seq) : (s.setSeq k q).pending = s.pending := rfl
@[simp] theorem State.setSeq_clk (s : State) (k : Nat) (q : Seq) : (s.setSeq k q).clk = s.clk := rfl
@[simp] theorem State.setSeq_regs (s : State) (k : Nat) (q : Seq) : (s.setSeq k q).regs = s.regs := rfl
@[simp] theorem State.setSeq_eng (s : State) (k : Nat) (q : Seq) : (s.setSeq k q).eng = s.eng := rfl
@[simp] theorem State.setSeq_engDown (s : State) (k : Nat) (q : Seq) : (s.setSeq k q).engDown = s.engDown := rfl
@[simp] theorem State.setSeq_mem (s : State) (k : Nat) (q : Seq) : (s.setSeq k q).mem = s.mem := rfl
@[simp] theorem State.setSeq_fm (s : State) (k : Nat) (q : Seq) : (s.setSeq k q).fm = s.fm := rfl
@[simp] theorem State.setSeq_host (s : State) (k : Nat) (q : Seq) : (s.setSeq k q).host = s.host := rfl
@[simp] theorem State.setSeq_clusters (s : State) (k : Nat) (q : Seq) : (s.setSeq k q).clusters = s.clusters := rfl
@[simp] theorem State.setSeq_links (s : State) (k : Nat) (q : Seq) : (s.setSeq k q).links = s.links := rfl
@[simp] theorem State.setSeq_svc (s : State) (k : Nat) (q : Seq) : (s.setSeq k q).svc = s.svc := rfl
@[simp] theorem State.setSeq_tiles (s : State) (k : Nat) (q : Seq) : (s.setSeq k q).tiles = s.tiles := rfl
@[simp] theorem State.setSeq_hub (s : State) (k : Nat) (q : Seq) : (s.setSeq k q).hub = s.hub := rfl
@[simp] theorem State.setSeq_ing (s : State) (k : Nat) (q : Seq) : (s.setSeq k q).ing = s.ing := rfl
@[simp] theorem State.setSeq_dec (s : State) (k : Nat) (q : Seq) : (s.setSeq k q).dec = s.dec := rfl
@[simp] theorem State.setSeq_frame (s : State) (k : Nat) (q : Seq) : (s.setSeq k q).frame = s.frame := rfl
@[simp] theorem State.setSeq_health (s : State) (k : Nat) (q : Seq) : (s.setSeq k q).health = s.health := rfl
@[simp] theorem State.setSeq_nvm (s : State) (k : Nat) (q : Seq) : (s.setSeq k q).nvm = s.nvm := rfl
@[simp] theorem State.setSeq_trust (s : State) (k : Nat) (q : Seq) : (s.setSeq k q).trust = s.trust := rfl
@[simp] theorem State.setSeq_ptp (s : State) (k : Nat) (q : Seq) : (s.setSeq k q).ptp = s.ptp := rfl
@[simp] theorem State.setSeq_corr (s : State) (k : Nat) (q : Seq) : (s.setSeq k q).corr = s.corr := rfl
@[simp] theorem State.setSeq_pins (s : State) (k : Nat) (q : Seq) : (s.setSeq k q).pins = s.pins := rfl
@[simp] theorem State.setSeq_out (s : State) (k : Nat) (q : Seq) : (s.setSeq k q).out = s.out := rfl
@[simp] theorem State.setSeq_nfree (s : State) (k : Nat) (q : Seq) : (s.setSeq k q).nfree = s.nfree := rfl

@[simp] theorem State.setEngQ_part (s : State) (k : Nat) (q : EngQ) : (s.setEngQ k q).part = s.part := rfl
@[simp] theorem State.setEngQ_pending (s : State) (k : Nat) (q : EngQ) : (s.setEngQ k q).pending = s.pending := rfl
@[simp] theorem State.setEngQ_clk (s : State) (k : Nat) (q : EngQ) : (s.setEngQ k q).clk = s.clk := rfl
@[simp] theorem State.setEngQ_regs (s : State) (k : Nat) (q : EngQ) : (s.setEngQ k q).regs = s.regs := rfl
@[simp] theorem State.setEngQ_sq (s : State) (k : Nat) (q : EngQ) : (s.setEngQ k q).sq = s.sq := rfl
@[simp] theorem State.setEngQ_engDown (s : State) (k : Nat) (q : EngQ) : (s.setEngQ k q).engDown = s.engDown := rfl
@[simp] theorem State.setEngQ_mem (s : State) (k : Nat) (q : EngQ) : (s.setEngQ k q).mem = s.mem := rfl
@[simp] theorem State.setEngQ_fm (s : State) (k : Nat) (q : EngQ) : (s.setEngQ k q).fm = s.fm := rfl
@[simp] theorem State.setEngQ_host (s : State) (k : Nat) (q : EngQ) : (s.setEngQ k q).host = s.host := rfl
@[simp] theorem State.setEngQ_clusters (s : State) (k : Nat) (q : EngQ) : (s.setEngQ k q).clusters = s.clusters := rfl
@[simp] theorem State.setEngQ_links (s : State) (k : Nat) (q : EngQ) : (s.setEngQ k q).links = s.links := rfl
@[simp] theorem State.setEngQ_svc (s : State) (k : Nat) (q : EngQ) : (s.setEngQ k q).svc = s.svc := rfl
@[simp] theorem State.setEngQ_tiles (s : State) (k : Nat) (q : EngQ) : (s.setEngQ k q).tiles = s.tiles := rfl
@[simp] theorem State.setEngQ_hub (s : State) (k : Nat) (q : EngQ) : (s.setEngQ k q).hub = s.hub := rfl
@[simp] theorem State.setEngQ_ing (s : State) (k : Nat) (q : EngQ) : (s.setEngQ k q).ing = s.ing := rfl
@[simp] theorem State.setEngQ_dec (s : State) (k : Nat) (q : EngQ) : (s.setEngQ k q).dec = s.dec := rfl
@[simp] theorem State.setEngQ_frame (s : State) (k : Nat) (q : EngQ) : (s.setEngQ k q).frame = s.frame := rfl
@[simp] theorem State.setEngQ_health (s : State) (k : Nat) (q : EngQ) : (s.setEngQ k q).health = s.health := rfl
@[simp] theorem State.setEngQ_nvm (s : State) (k : Nat) (q : EngQ) : (s.setEngQ k q).nvm = s.nvm := rfl
@[simp] theorem State.setEngQ_trust (s : State) (k : Nat) (q : EngQ) : (s.setEngQ k q).trust = s.trust := rfl
@[simp] theorem State.setEngQ_ptp (s : State) (k : Nat) (q : EngQ) : (s.setEngQ k q).ptp = s.ptp := rfl
@[simp] theorem State.setEngQ_corr (s : State) (k : Nat) (q : EngQ) : (s.setEngQ k q).corr = s.corr := rfl
@[simp] theorem State.setEngQ_pins (s : State) (k : Nat) (q : EngQ) : (s.setEngQ k q).pins = s.pins := rfl
@[simp] theorem State.setEngQ_out (s : State) (k : Nat) (q : EngQ) : (s.setEngQ k q).out = s.out := rfl
@[simp] theorem State.setEngQ_nfree (s : State) (k : Nat) (q : EngQ) : (s.setEngQ k q).nfree = s.nfree := rfl

@[simp] theorem State.setClu_part (s : State) (c : Nat) (x : Cluster) : (s.setClu c x).part = s.part := rfl
@[simp] theorem State.setClu_pending (s : State) (c : Nat) (x : Cluster) : (s.setClu c x).pending = s.pending := rfl
@[simp] theorem State.setClu_clk (s : State) (c : Nat) (x : Cluster) : (s.setClu c x).clk = s.clk := rfl
@[simp] theorem State.setClu_regs (s : State) (c : Nat) (x : Cluster) : (s.setClu c x).regs = s.regs := rfl
@[simp] theorem State.setClu_sq (s : State) (c : Nat) (x : Cluster) : (s.setClu c x).sq = s.sq := rfl
@[simp] theorem State.setClu_eng (s : State) (c : Nat) (x : Cluster) : (s.setClu c x).eng = s.eng := rfl
@[simp] theorem State.setClu_engDown (s : State) (c : Nat) (x : Cluster) : (s.setClu c x).engDown = s.engDown := rfl
@[simp] theorem State.setClu_mem (s : State) (c : Nat) (x : Cluster) : (s.setClu c x).mem = s.mem := rfl
@[simp] theorem State.setClu_fm (s : State) (c : Nat) (x : Cluster) : (s.setClu c x).fm = s.fm := rfl
@[simp] theorem State.setClu_host (s : State) (c : Nat) (x : Cluster) : (s.setClu c x).host = s.host := rfl
@[simp] theorem State.setClu_links (s : State) (c : Nat) (x : Cluster) : (s.setClu c x).links = s.links := rfl
@[simp] theorem State.setClu_svc (s : State) (c : Nat) (x : Cluster) : (s.setClu c x).svc = s.svc := rfl
@[simp] theorem State.setClu_tiles (s : State) (c : Nat) (x : Cluster) : (s.setClu c x).tiles = s.tiles := rfl
@[simp] theorem State.setClu_hub (s : State) (c : Nat) (x : Cluster) : (s.setClu c x).hub = s.hub := rfl
@[simp] theorem State.setClu_ing (s : State) (c : Nat) (x : Cluster) : (s.setClu c x).ing = s.ing := rfl
@[simp] theorem State.setClu_dec (s : State) (c : Nat) (x : Cluster) : (s.setClu c x).dec = s.dec := rfl
@[simp] theorem State.setClu_frame (s : State) (c : Nat) (x : Cluster) : (s.setClu c x).frame = s.frame := rfl
@[simp] theorem State.setClu_health (s : State) (c : Nat) (x : Cluster) : (s.setClu c x).health = s.health := rfl
@[simp] theorem State.setClu_nvm (s : State) (c : Nat) (x : Cluster) : (s.setClu c x).nvm = s.nvm := rfl
@[simp] theorem State.setClu_trust (s : State) (c : Nat) (x : Cluster) : (s.setClu c x).trust = s.trust := rfl
@[simp] theorem State.setClu_ptp (s : State) (c : Nat) (x : Cluster) : (s.setClu c x).ptp = s.ptp := rfl
@[simp] theorem State.setClu_corr (s : State) (c : Nat) (x : Cluster) : (s.setClu c x).corr = s.corr := rfl
@[simp] theorem State.setClu_pins (s : State) (c : Nat) (x : Cluster) : (s.setClu c x).pins = s.pins := rfl
@[simp] theorem State.setClu_out (s : State) (c : Nat) (x : Cluster) : (s.setClu c x).out = s.out := rfl
@[simp] theorem State.setClu_nfree (s : State) (c : Nat) (x : Cluster) : (s.setClu c x).nfree = s.nfree := rfl

@[simp] theorem State.setLnk_part (s : State) (n : Nat) (l : Link) : (s.setLnk n l).part = s.part := rfl
@[simp] theorem State.setLnk_pending (s : State) (n : Nat) (l : Link) : (s.setLnk n l).pending = s.pending := rfl
@[simp] theorem State.setLnk_clk (s : State) (n : Nat) (l : Link) : (s.setLnk n l).clk = s.clk := rfl
@[simp] theorem State.setLnk_regs (s : State) (n : Nat) (l : Link) : (s.setLnk n l).regs = s.regs := rfl
@[simp] theorem State.setLnk_sq (s : State) (n : Nat) (l : Link) : (s.setLnk n l).sq = s.sq := rfl
@[simp] theorem State.setLnk_eng (s : State) (n : Nat) (l : Link) : (s.setLnk n l).eng = s.eng := rfl
@[simp] theorem State.setLnk_engDown (s : State) (n : Nat) (l : Link) : (s.setLnk n l).engDown = s.engDown := rfl
@[simp] theorem State.setLnk_mem (s : State) (n : Nat) (l : Link) : (s.setLnk n l).mem = s.mem := rfl
@[simp] theorem State.setLnk_fm (s : State) (n : Nat) (l : Link) : (s.setLnk n l).fm = s.fm := rfl
@[simp] theorem State.setLnk_host (s : State) (n : Nat) (l : Link) : (s.setLnk n l).host = s.host := rfl
@[simp] theorem State.setLnk_clusters (s : State) (n : Nat) (l : Link) : (s.setLnk n l).clusters = s.clusters := rfl
@[simp] theorem State.setLnk_svc (s : State) (n : Nat) (l : Link) : (s.setLnk n l).svc = s.svc := rfl
@[simp] theorem State.setLnk_tiles (s : State) (n : Nat) (l : Link) : (s.setLnk n l).tiles = s.tiles := rfl
@[simp] theorem State.setLnk_hub (s : State) (n : Nat) (l : Link) : (s.setLnk n l).hub = s.hub := rfl
@[simp] theorem State.setLnk_ing (s : State) (n : Nat) (l : Link) : (s.setLnk n l).ing = s.ing := rfl
@[simp] theorem State.setLnk_dec (s : State) (n : Nat) (l : Link) : (s.setLnk n l).dec = s.dec := rfl
@[simp] theorem State.setLnk_frame (s : State) (n : Nat) (l : Link) : (s.setLnk n l).frame = s.frame := rfl
@[simp] theorem State.setLnk_health (s : State) (n : Nat) (l : Link) : (s.setLnk n l).health = s.health := rfl
@[simp] theorem State.setLnk_nvm (s : State) (n : Nat) (l : Link) : (s.setLnk n l).nvm = s.nvm := rfl
@[simp] theorem State.setLnk_trust (s : State) (n : Nat) (l : Link) : (s.setLnk n l).trust = s.trust := rfl
@[simp] theorem State.setLnk_ptp (s : State) (n : Nat) (l : Link) : (s.setLnk n l).ptp = s.ptp := rfl
@[simp] theorem State.setLnk_corr (s : State) (n : Nat) (l : Link) : (s.setLnk n l).corr = s.corr := rfl
@[simp] theorem State.setLnk_pins (s : State) (n : Nat) (l : Link) : (s.setLnk n l).pins = s.pins := rfl
@[simp] theorem State.setLnk_out (s : State) (n : Nat) (l : Link) : (s.setLnk n l).out = s.out := rfl
@[simp] theorem State.setLnk_nfree (s : State) (n : Nat) (l : Link) : (s.setLnk n l).nfree = s.nfree := rfl

@[simp] theorem State.setLsvc_part (s : State) (n : Nat) (l : LinkSvc) : (s.setLsvc n l).part = s.part := rfl
@[simp] theorem State.setLsvc_pending (s : State) (n : Nat) (l : LinkSvc) : (s.setLsvc n l).pending = s.pending := rfl
@[simp] theorem State.setLsvc_clk (s : State) (n : Nat) (l : LinkSvc) : (s.setLsvc n l).clk = s.clk := rfl
@[simp] theorem State.setLsvc_regs (s : State) (n : Nat) (l : LinkSvc) : (s.setLsvc n l).regs = s.regs := rfl
@[simp] theorem State.setLsvc_sq (s : State) (n : Nat) (l : LinkSvc) : (s.setLsvc n l).sq = s.sq := rfl
@[simp] theorem State.setLsvc_eng (s : State) (n : Nat) (l : LinkSvc) : (s.setLsvc n l).eng = s.eng := rfl
@[simp] theorem State.setLsvc_engDown (s : State) (n : Nat) (l : LinkSvc) : (s.setLsvc n l).engDown = s.engDown := rfl
@[simp] theorem State.setLsvc_mem (s : State) (n : Nat) (l : LinkSvc) : (s.setLsvc n l).mem = s.mem := rfl
@[simp] theorem State.setLsvc_fm (s : State) (n : Nat) (l : LinkSvc) : (s.setLsvc n l).fm = s.fm := rfl
@[simp] theorem State.setLsvc_host (s : State) (n : Nat) (l : LinkSvc) : (s.setLsvc n l).host = s.host := rfl
@[simp] theorem State.setLsvc_clusters (s : State) (n : Nat) (l : LinkSvc) : (s.setLsvc n l).clusters = s.clusters := rfl
@[simp] theorem State.setLsvc_links (s : State) (n : Nat) (l : LinkSvc) : (s.setLsvc n l).links = s.links := rfl
@[simp] theorem State.setLsvc_tiles (s : State) (n : Nat) (l : LinkSvc) : (s.setLsvc n l).tiles = s.tiles := rfl
@[simp] theorem State.setLsvc_hub (s : State) (n : Nat) (l : LinkSvc) : (s.setLsvc n l).hub = s.hub := rfl
@[simp] theorem State.setLsvc_ing (s : State) (n : Nat) (l : LinkSvc) : (s.setLsvc n l).ing = s.ing := rfl
@[simp] theorem State.setLsvc_dec (s : State) (n : Nat) (l : LinkSvc) : (s.setLsvc n l).dec = s.dec := rfl
@[simp] theorem State.setLsvc_frame (s : State) (n : Nat) (l : LinkSvc) : (s.setLsvc n l).frame = s.frame := rfl
@[simp] theorem State.setLsvc_health (s : State) (n : Nat) (l : LinkSvc) : (s.setLsvc n l).health = s.health := rfl
@[simp] theorem State.setLsvc_nvm (s : State) (n : Nat) (l : LinkSvc) : (s.setLsvc n l).nvm = s.nvm := rfl
@[simp] theorem State.setLsvc_trust (s : State) (n : Nat) (l : LinkSvc) : (s.setLsvc n l).trust = s.trust := rfl
@[simp] theorem State.setLsvc_ptp (s : State) (n : Nat) (l : LinkSvc) : (s.setLsvc n l).ptp = s.ptp := rfl
@[simp] theorem State.setLsvc_corr (s : State) (n : Nat) (l : LinkSvc) : (s.setLsvc n l).corr = s.corr := rfl
@[simp] theorem State.setLsvc_pins (s : State) (n : Nat) (l : LinkSvc) : (s.setLsvc n l).pins = s.pins := rfl
@[simp] theorem State.setLsvc_out (s : State) (n : Nat) (l : LinkSvc) : (s.setLsvc n l).out = s.out := rfl
@[simp] theorem State.setLsvc_nfree (s : State) (n : Nat) (l : LinkSvc) : (s.setLsvc n l).nfree = s.nfree := rfl

@[simp] theorem State.setTile_part (s : State) (k : Nat) (x : Tile) : (s.setTile k x).part = s.part := rfl
@[simp] theorem State.setTile_pending (s : State) (k : Nat) (x : Tile) : (s.setTile k x).pending = s.pending := rfl
@[simp] theorem State.setTile_clk (s : State) (k : Nat) (x : Tile) : (s.setTile k x).clk = s.clk := rfl
@[simp] theorem State.setTile_regs (s : State) (k : Nat) (x : Tile) : (s.setTile k x).regs = s.regs := rfl
@[simp] theorem State.setTile_sq (s : State) (k : Nat) (x : Tile) : (s.setTile k x).sq = s.sq := rfl
@[simp] theorem State.setTile_eng (s : State) (k : Nat) (x : Tile) : (s.setTile k x).eng = s.eng := rfl
@[simp] theorem State.setTile_engDown (s : State) (k : Nat) (x : Tile) : (s.setTile k x).engDown = s.engDown := rfl
@[simp] theorem State.setTile_mem (s : State) (k : Nat) (x : Tile) : (s.setTile k x).mem = s.mem := rfl
@[simp] theorem State.setTile_fm (s : State) (k : Nat) (x : Tile) : (s.setTile k x).fm = s.fm := rfl
@[simp] theorem State.setTile_host (s : State) (k : Nat) (x : Tile) : (s.setTile k x).host = s.host := rfl
@[simp] theorem State.setTile_clusters (s : State) (k : Nat) (x : Tile) : (s.setTile k x).clusters = s.clusters := rfl
@[simp] theorem State.setTile_links (s : State) (k : Nat) (x : Tile) : (s.setTile k x).links = s.links := rfl
@[simp] theorem State.setTile_svc (s : State) (k : Nat) (x : Tile) : (s.setTile k x).svc = s.svc := rfl
@[simp] theorem State.setTile_hub (s : State) (k : Nat) (x : Tile) : (s.setTile k x).hub = s.hub := rfl
@[simp] theorem State.setTile_ing (s : State) (k : Nat) (x : Tile) : (s.setTile k x).ing = s.ing := rfl
@[simp] theorem State.setTile_dec (s : State) (k : Nat) (x : Tile) : (s.setTile k x).dec = s.dec := rfl
@[simp] theorem State.setTile_frame (s : State) (k : Nat) (x : Tile) : (s.setTile k x).frame = s.frame := rfl
@[simp] theorem State.setTile_health (s : State) (k : Nat) (x : Tile) : (s.setTile k x).health = s.health := rfl
@[simp] theorem State.setTile_nvm (s : State) (k : Nat) (x : Tile) : (s.setTile k x).nvm = s.nvm := rfl
@[simp] theorem State.setTile_trust (s : State) (k : Nat) (x : Tile) : (s.setTile k x).trust = s.trust := rfl
@[simp] theorem State.setTile_ptp (s : State) (k : Nat) (x : Tile) : (s.setTile k x).ptp = s.ptp := rfl
@[simp] theorem State.setTile_corr (s : State) (k : Nat) (x : Tile) : (s.setTile k x).corr = s.corr := rfl
@[simp] theorem State.setTile_pins (s : State) (k : Nat) (x : Tile) : (s.setTile k x).pins = s.pins := rfl
@[simp] theorem State.setTile_out (s : State) (k : Nat) (x : Tile) : (s.setTile k x).out = s.out := rfl
@[simp] theorem State.setTile_nfree (s : State) (k : Nat) (x : Tile) : (s.setTile k x).nfree = s.nfree := rfl

@[simp] theorem State.emit_part (s : State) (e : Emission) : (s.emit e).part = s.part := rfl
@[simp] theorem State.emit_pending (s : State) (e : Emission) : (s.emit e).pending = s.pending := rfl
@[simp] theorem State.emit_clk (s : State) (e : Emission) : (s.emit e).clk = s.clk := rfl
@[simp] theorem State.emit_regs (s : State) (e : Emission) : (s.emit e).regs = s.regs := rfl
@[simp] theorem State.emit_sq (s : State) (e : Emission) : (s.emit e).sq = s.sq := rfl
@[simp] theorem State.emit_eng (s : State) (e : Emission) : (s.emit e).eng = s.eng := rfl
@[simp] theorem State.emit_engDown (s : State) (e : Emission) : (s.emit e).engDown = s.engDown := rfl
@[simp] theorem State.emit_mem (s : State) (e : Emission) : (s.emit e).mem = s.mem := rfl
@[simp] theorem State.emit_fm (s : State) (e : Emission) : (s.emit e).fm = s.fm := rfl
@[simp] theorem State.emit_host (s : State) (e : Emission) : (s.emit e).host = s.host := rfl
@[simp] theorem State.emit_clusters (s : State) (e : Emission) : (s.emit e).clusters = s.clusters := rfl
@[simp] theorem State.emit_links (s : State) (e : Emission) : (s.emit e).links = s.links := rfl
@[simp] theorem State.emit_svc (s : State) (e : Emission) : (s.emit e).svc = s.svc := rfl
@[simp] theorem State.emit_tiles (s : State) (e : Emission) : (s.emit e).tiles = s.tiles := rfl
@[simp] theorem State.emit_hub (s : State) (e : Emission) : (s.emit e).hub = s.hub := rfl
@[simp] theorem State.emit_ing (s : State) (e : Emission) : (s.emit e).ing = s.ing := rfl
@[simp] theorem State.emit_dec (s : State) (e : Emission) : (s.emit e).dec = s.dec := rfl
@[simp] theorem State.emit_frame (s : State) (e : Emission) : (s.emit e).frame = s.frame := rfl
@[simp] theorem State.emit_health (s : State) (e : Emission) : (s.emit e).health = s.health := rfl
@[simp] theorem State.emit_nvm (s : State) (e : Emission) : (s.emit e).nvm = s.nvm := rfl
@[simp] theorem State.emit_trust (s : State) (e : Emission) : (s.emit e).trust = s.trust := rfl
@[simp] theorem State.emit_ptp (s : State) (e : Emission) : (s.emit e).ptp = s.ptp := rfl
@[simp] theorem State.emit_corr (s : State) (e : Emission) : (s.emit e).corr = s.corr := rfl
@[simp] theorem State.emit_pins (s : State) (e : Emission) : (s.emit e).pins = s.pins := rfl
@[simp] theorem State.emit_nfree (s : State) (e : Emission) : (s.emit e).nfree = s.nfree := rfl

@[simp] theorem State.putCells_part (s : State) (a : Nat) (b : List (Option Byte)) : (s.putCells a b).part = s.part := rfl
@[simp] theorem State.putCells_pending (s : State) (a : Nat) (b : List (Option Byte)) : (s.putCells a b).pending = s.pending := rfl
@[simp] theorem State.putCells_clk (s : State) (a : Nat) (b : List (Option Byte)) : (s.putCells a b).clk = s.clk := rfl
@[simp] theorem State.putCells_regs (s : State) (a : Nat) (b : List (Option Byte)) : (s.putCells a b).regs = s.regs := rfl
@[simp] theorem State.putCells_sq (s : State) (a : Nat) (b : List (Option Byte)) : (s.putCells a b).sq = s.sq := rfl
@[simp] theorem State.putCells_eng (s : State) (a : Nat) (b : List (Option Byte)) : (s.putCells a b).eng = s.eng := rfl
@[simp] theorem State.putCells_engDown (s : State) (a : Nat) (b : List (Option Byte)) : (s.putCells a b).engDown = s.engDown := rfl
@[simp] theorem State.putCells_fm (s : State) (a : Nat) (b : List (Option Byte)) : (s.putCells a b).fm = s.fm := rfl
@[simp] theorem State.putCells_host (s : State) (a : Nat) (b : List (Option Byte)) : (s.putCells a b).host = s.host := rfl
@[simp] theorem State.putCells_clusters (s : State) (a : Nat) (b : List (Option Byte)) : (s.putCells a b).clusters = s.clusters := rfl
@[simp] theorem State.putCells_links (s : State) (a : Nat) (b : List (Option Byte)) : (s.putCells a b).links = s.links := rfl
@[simp] theorem State.putCells_svc (s : State) (a : Nat) (b : List (Option Byte)) : (s.putCells a b).svc = s.svc := rfl
@[simp] theorem State.putCells_tiles (s : State) (a : Nat) (b : List (Option Byte)) : (s.putCells a b).tiles = s.tiles := rfl
@[simp] theorem State.putCells_hub (s : State) (a : Nat) (b : List (Option Byte)) : (s.putCells a b).hub = s.hub := rfl
@[simp] theorem State.putCells_ing (s : State) (a : Nat) (b : List (Option Byte)) : (s.putCells a b).ing = s.ing := rfl
@[simp] theorem State.putCells_dec (s : State) (a : Nat) (b : List (Option Byte)) : (s.putCells a b).dec = s.dec := rfl
@[simp] theorem State.putCells_frame (s : State) (a : Nat) (b : List (Option Byte)) : (s.putCells a b).frame = s.frame := rfl
@[simp] theorem State.putCells_health (s : State) (a : Nat) (b : List (Option Byte)) : (s.putCells a b).health = s.health := rfl
@[simp] theorem State.putCells_nvm (s : State) (a : Nat) (b : List (Option Byte)) : (s.putCells a b).nvm = s.nvm := rfl
@[simp] theorem State.putCells_trust (s : State) (a : Nat) (b : List (Option Byte)) : (s.putCells a b).trust = s.trust := rfl
@[simp] theorem State.putCells_ptp (s : State) (a : Nat) (b : List (Option Byte)) : (s.putCells a b).ptp = s.ptp := rfl
@[simp] theorem State.putCells_corr (s : State) (a : Nat) (b : List (Option Byte)) : (s.putCells a b).corr = s.corr := rfl
@[simp] theorem State.putCells_pins (s : State) (a : Nat) (b : List (Option Byte)) : (s.putCells a b).pins = s.pins := rfl
@[simp] theorem State.putCells_out (s : State) (a : Nat) (b : List (Option Byte)) : (s.putCells a b).out = s.out := rfl
@[simp] theorem State.putCells_nfree (s : State) (a : Nat) (b : List (Option Byte)) : (s.putCells a b).nfree = s.nfree := rfl

/-! ### Registers -/

@[simp] theorem State.cell_setCell (s : State) (h h' : Nat) (c : Cell) :
    (s.setCell h c).cell h' = if h' = h then c else s.cell h' := by
  unfold State.cell State.setCell
  simp only [Tab.find_set]
  by_cases e : h' = h <;> simp [e]

@[simp] theorem State.cell_wr (s : State) (h h' : Nat) (v : Int) :
    (s.wr h v).cell h' = if h' = h then ⟨v, v, none, none⟩ else s.cell h' := State.cell_setCell ..

@[simp] theorem State.cell_wrN (s : State) (h h' v : Nat) :
    (s.wrN h v).cell h' = if h' = h then ⟨v, v, none, none⟩ else s.cell h' := State.cell_setCell ..

@[simp] theorem State.rd_wr (s : State) (h h' : Nat) (v : Int) :
    (s.wr h v).rd h' = if h' = h then v else s.rd h' := by
  unfold State.rd; rw [State.cell_wr]; split <;> rfl

@[simp] theorem State.rd_wrN (s : State) (h h' v : Nat) :
    (s.wrN h v).rd h' = if h' = h then (v : Int) else s.rd h' := State.rd_wr ..

@[simp] theorem State.ef_wr (s : State) (h h' : Nat) (v : Int) :
    (s.wr h v).ef h' = if h' = h then v else s.ef h' := by
  unfold State.ef; rw [State.cell_wr]; split <;> rfl

@[simp] theorem State.ef_wrN (s : State) (h h' v : Nat) :
    (s.wrN h v).ef h' = if h' = h then (v : Int) else s.ef h' := State.ef_wr ..

@[simp] theorem State.rdN_wrN (s : State) (h h' v : Nat) :
    (s.wrN h v).rdN h' = if h' = h then v else s.rdN h' := by
  unfold State.rdN; rw [State.rd_wrN]; split <;> simp

@[simp] theorem State.efN_wrN (s : State) (h h' v : Nat) :
    (s.wrN h v).efN h' = if h' = h then v else s.efN h' := by
  unfold State.efN; rw [State.ef_wrN]; split <;> simp

/-- A count that grows: no other register moves. -/
@[simp] theorem State.rdN_bump (s : State) (h h' k : Nat) :
    (s.bump h k).rdN h' = if h' = h then min (topOf s.par h) (s.rdN h + k) else s.rdN h' := State.rdN_wrN ..

/-- Reads of a state depend on its registers and its member alone. -/
theorem State.cell_congr {s t : State} (hp : t.part = s.part) (hr : t.regs = s.regs) (h : Nat) : t.cell h = s.cell h := by
  unfold State.cell; rw [hp, hr]

theorem State.rd_congr {s t : State} (hp : t.part = s.part) (hr : t.regs = s.regs) (h : Nat) : t.rd h = s.rd h := by
  unfold State.rd; rw [State.cell_congr hp hr]

/-! ### Records by key -/

@[simp] theorem State.seq_setSeq (s : State) (k j : Nat) (q : Seq) :
    (s.setSeq k q).seq j = if j = k then q else s.seq j := Tab.get_put ..

@[simp] theorem State.engQ_setEngQ (s : State) (k j : Nat) (q : EngQ) :
    (s.setEngQ k q).engQ j = if j = k then q else s.engQ j := Tab.get_put ..

@[simp] theorem State.clu_setClu (s : State) (c j : Nat) (x : Cluster) :
    (s.setClu c x).clu j = if j = c then x else s.clu j := Tab.get_put ..

@[simp] theorem State.lnk_setLnk (s : State) (n j : Nat) (l : Link) :
    (s.setLnk n l).lnk j = if j = n then l else s.lnk j := Tab.get_put ..

@[simp] theorem State.lsvc_setLsvc (s : State) (n j : Nat) (l : LinkSvc) :
    (s.setLsvc n l).lsvc j = if j = n then l else s.lsvc j := Tab.get_put ..

@[simp] theorem State.tile_setTile (s : State) (k j : Nat) (x : Tile) :
    (s.setTile k x).tile j = if j = k then x else s.tile j := Tab.get_put ..

@[simp] theorem State.cell_setSeq (s : State) (k h : Nat) (q : Seq) : (s.setSeq k q).cell h = s.cell h := rfl
@[simp] theorem State.rd_setSeq (s : State) (k h : Nat) (q : Seq) : (s.setSeq k q).rd h = s.rd h := rfl
@[simp] theorem State.seq_wr (s : State) (h k : Nat) (v : Int) : (s.wr h v).seq k = s.seq k := rfl
@[simp] theorem State.seq_wrN (s : State) (h v k : Nat) : (s.wrN h v).seq k = s.seq k := rfl

/-! ### General registers (R69) -/

@[simp] theorem State.greg_zero (s : State) (k : Nat) : s.greg k 0#5 = 0#64 := rfl

/-- R69: a write reaches its own register alone, and g0 keeps reading zero. -/
theorem State.greg_setGreg (s : State) (k j : Nat) (d r : BitVec 5) (v : Word) :
    (s.setGreg k d v).greg j r = if j = k ∧ r = d ∧ d ≠ 0 then v else s.greg j r := by
  unfold State.setGreg
  by_cases hd : d = 0
  · simp [hd]
  · simp only [hd, if_false, ne_eq, not_false_eq_true, and_true]
    unfold State.greg
    by_cases hr : r = 0
    · simp only [hr, if_true]; rw [if_neg]; intro h; exact hd h.2.symm
    · simp only [hr, if_false, State.seq_setSeq]
      by_cases hj : j = k
      · subst hj
        simp only [if_true, Tab.get_put, true_and]
        by_cases e : r = d
        · simp [e]
        · have : r.toNat ≠ d.toNat := fun h => e (BitVec.eq_of_toNat_eq h)
          simp [e, this]
      · simp [hj]

/-! ### Memory -/

theorem Tab.get_putBytes (t : Tab Byte) (off : Nat) (b : Bytes) (i : Nat) :
    Tab.get 0 (Tab.putBytes t off b) i =
      if off ≤ i ∧ i < off + b.length then b.getD (i - off) 0 else Tab.get 0 t i := by
  induction b generalizing t off with
  | nil => simp only [Tab.putBytes, List.length_nil]; rw [if_neg]; omega
  | cons x r ih =>
    simp only [Tab.putBytes, ih, Tab.get_put, List.length_cons]
    by_cases h1 : i = off
    · subst h1; rw [if_neg (by omega), if_pos rfl, if_pos (by omega)]; simp
    · by_cases h2 : off + 1 ≤ i ∧ i < off + 1 + r.length
      · have e : i - off = (i - (off + 1)) + 1 := by omega
        rw [if_pos h2, if_pos (by omega), e]; simp
      · rw [if_neg h2, if_neg h1, if_neg (by omega)]

/-- Enabled bytes of a table: the bytes that are there, and no other. -/
theorem Tab.get_putEnabled (t : Tab Byte) (off : Nat) (b : List (Option Byte)) (i : Nat) :
    Tab.get 0 (Tab.putEnabled t off b) i =
      if off ≤ i then ((b.getD (i - off) none).getD (Tab.get 0 t i)) else Tab.get 0 t i := by
  induction b generalizing t off with
  | nil => simp [Tab.putEnabled]
  | cons x r ih =>
    have step : Tab.get 0 (Tab.putEnabled t off (x :: r)) i =
        if off + 1 ≤ i then (r.getD (i - (off + 1)) none).getD (Tab.get 0 t i) else
          if i = off then x.getD (Tab.get 0 t i) else Tab.get 0 t i := by
      cases x <;> simp only [Tab.putEnabled, ih, Tab.get_put] <;> by_cases h : i = off <;>
        simp only [h, if_true, if_false, Option.getD, ite_self] <;> rw [if_neg (by omega)] <;> rw [if_neg (by omega)]
    rw [step]
    by_cases h2 : off + 1 ≤ i
    · have e : i - off = (i - (off + 1)) + 1 := by omega
      rw [if_pos h2, if_pos (by omega), e, List.getD_cons_succ]
    · by_cases h1 : i = off
      · subst h1; rw [if_neg h2, if_pos rfl, if_pos (Nat.le_refl i), Nat.sub_self, List.getD_cons_zero]
      · rw [if_neg h2, if_neg h1, if_neg (by omega)]

/-- A write of enabled bytes: those bytes at their addresses, and no other. -/
theorem State.byte_putCells (s : State) (a : Nat) (b : List (Option Byte)) (i : Nat) :
    (s.putCells a b).byte i = if a ≤ i then ((b.getD (i - a) none).getD (s.byte i)) else s.byte i :=
  Tab.get_putEnabled ..

end Sys2Proof.Machine
end

