-- ==== Sys2Proof/Laws/Memory.lean ====
section
/-! SUPPORT. What reads and writes of paddock and DRAM do: which bytes a write can change, how whole memory serves a read,
that grants, rows, ranks and gather buffers hold no byte, and that every memory operation keeps the canonical form. -/
namespace Sys2Proof.Machine
open Sys2Proof

/-! ### Bytes of a table -/

theorem Tab.wf_putEnabled (t : Tab Byte) (a : Nat) (b : List (Option Byte)) (w : Tab.wf 0 t = true) :
    Tab.wf 0 (Tab.putEnabled t a b) = true := by
  induction b generalizing t a with
  | nil => exact w
  | cons x r ih =>
    cases x with
    | none => exact ih _ _ w
    | some v => exact ih _ _ (Tab.wf_put 0 t a v w)

theorem Tab.wf_putBytes (t : Tab Byte) (a : Nat) (b : Bytes) (w : Tab.wf 0 t = true) : Tab.wf 0 (Tab.putBytes t a b) = true := by
  induction b generalizing t a with
  | nil => exact w
  | cons x r ih => exact ih _ _ (Tab.wf_put 0 t a x w)

/-- Equal bytes are equal words. -/
theorem State.bytes_congr {s t : State} {a n : Nat} (h : ∀ i, i < n → t.byte (a + i) = s.byte (a + i)) :
    t.bytes a n = s.bytes a n := List.map_congr_left fun i hi => h i (List.mem_range.mp hi)

theorem State.byte_of_cells {s t : State} (h : t.mem.cells = s.mem.cells) (i : Nat) : t.byte i = s.byte i := by
  simp only [State.byte, h]

/-- A fold of steps that each leave the cells leaves them. -/
theorem State.cells_foldl {α : Type} (f : State → α → State) (h : ∀ s x, (f s x).mem.cells = s.mem.cells) (l : List α) (s : State) :
    (l.foldl f s).mem.cells = s.mem.cells := by
  induction l generalizing s with
  | nil => rfl
  | cons x t ih => rw [List.foldl_cons, ih, h]

/-! ### Grants, rows, ranks and error counts hold no byte -/

@[simp] theorem State.raise_mem (s : State) (r : Resource) (c v u i d0 d1 : Nat) : (s.raise r c v u i d0 d1).mem = s.mem := by
  simp only [State.raise]

@[simp] theorem State.claim_cells (s : State) (m : Master) (rs : List Nat) : (s.claim m rs).mem.cells = s.mem.cells := by
  simp only [State.claim]
  split <;> (split <;> rfl)

/-- A transaction that reaches no arbitrated resource takes no grant. -/
@[simp] theorem State.claim_nil (s : State) (m : Master) : s.claim m [] = s := rfl

@[simp] theorem State.wakeRank_mem (s : State) (ch rank : Nat) : (s.wakeRank ch rank).mem = s.mem := by
  simp only [State.wakeRank]; repeat' (split <;> try rfl)

@[simp] theorem State.touchRow_cells (s : State) (l : DramLoc) : (s.touchRow l).mem.cells = s.mem.cells := by
  simp only [State.touchRow]; split <;> rfl

@[simp] theorem State.access_cells (s : State) (l : DramLoc) : (s.access l).mem.cells = s.mem.cells := by
  rw [State.access, touchRow_cells, wakeRank_mem]

@[simp] theorem State.padError_mem (s : State) (a : Nat) : (s.padError a).mem = s.mem := rfl

@[simp] theorem State.failChannel_mem (s : State) (ch c : Nat) : (s.failChannel ch c).mem = s.mem := by
  simp only [State.failChannel]; repeat' (split <;> try simp only [raise_mem, wrN_mem])

@[simp] theorem State.eccError_cells (s : State) (ch : Nat) : (s.eccError ch).mem.cells = s.mem.cells := by
  simp only [State.eccError]
  split <;> simp only [failChannel_mem, bump_mem]

@[simp] theorem State.cleanBurst_cells (s : State) (a : Nat) : (s.cleanBurst a).mem.cells = s.mem.cells := rfl
@[simp] theorem State.cleanGroup_cells (s : State) (g : Nat) : (s.cleanGroup g).mem.cells = s.mem.cells := rfl
@[simp] theorem State.setParity_cells (s : State) (g co : Nat) : (s.setParity g co).mem.cells = s.mem.cells := rfl

@[simp] theorem State.rewriteBurst_cells (s : State) (l : DramLoc) (i : Nat) :
    (s.rewriteBurst l i).mem.cells = s.mem.cells := by
  simp only [State.rewriteBurst]
  repeat' (split <;> try simp only [cleanBurst_cells, bump_mem, access_cells])

@[simp] theorem State.readOthers_cells (s : State) (l : DramLoc) (i : Nat) : (s.readOthers l i).mem.cells = s.mem.cells := by
  refine cells_foldl _ (fun s k => ?_) _ s
  dsimp only
  repeat' (split <;> try simp only [eccError_cells, access_cells])

/-! ### Reads -/

@[simp] theorem State.serveGroup_cells (s : State) (a : Nat) : (s.serveGroup a).2.mem.cells = s.mem.cells := by
  simp only [State.serveGroup]
  split <;> rfl

@[simp] theorem State.readBurst_cells (s : State) (a : Nat) : (s.readBurst a).2.mem.cells = s.mem.cells := by
  simp only [State.readBurst]
  repeat' (split <;> try simp only [rewriteBurst_cells, readOthers_cells, eccError_cells, access_cells, bump_mem])

theorem State.readGroupsFrom_cells (s : State) (last : Option Nat) (l : List Nat) :
    (s.readGroupsFrom last l).2.mem.cells = s.mem.cells := by
  induction l generalizing s last with
  | nil => rfl
  | cons g t ih =>
    simp only [State.readGroupsFrom, ih]
    repeat' (split <;> try simp only [readBurst_cells, serveGroup_cells])

/-- Reads move no byte. -/
@[simp] theorem State.readMem_cells (s : State) (m : Master) (a n : Nat) : (s.readMem m a n).2.mem.cells = s.mem.cells := by
  rw [State.readMem, State.readGroups]; exact (readGroupsFrom_cells ..).trans (claim_cells ..)

@[simp] theorem State.readMem_byte (s : State) (m : Master) (a n i : Nat) : (s.readMem m a n).2.byte i = s.byte i :=
  byte_of_cells (readMem_cells ..) i

theorem State.serveGroup_plain {s : State} {a : Nat} (h : s.serve a = .plain) : s.serveGroup a = (true, s) := by
  rw [State.serveGroup, h]

/-- Groups of paddock that need no repair are read, and nothing moves. -/
theorem State.readGroupsFrom_plain {s : State} (l : List Nat) (last : Option Nat)
    (h : ∀ g ∈ l, s.region g ≠ .dram ∧ s.serve g = .plain) : s.readGroupsFrom last l = (true, s) := by
  induction l generalizing last with
  | nil => rfl
  | cons g t ih =>
    obtain ⟨hr, hp⟩ := h g (List.mem_cons_self ..)
    simp only [State.readGroupsFrom, serveGroup_plain hp, ih _ fun x hx => h x (List.mem_cons_of_mem _ hx)]
    cases s.region g <;> rfl

/-- A cluster slice without errors is served plainly. -/
theorem State.serve_clusterSlice {s : State} {a : Nat} (h : a < 0x300000 * s.par.clusters) (hb : s.mem.bad = [])
    (hs : s.mem.soft = []) : s.region a = .clusterSlice (a / 0x300000) ∧ s.serve a = .plain := by
  have hr : s.region a = .clusterSlice (a / 0x300000) := by rw [State.region, if_pos h]
  refine ⟨hr, ?_⟩
  simp only [State.serve, hr, hb, hs, List.contains_nil, Bool.false_eq_true, if_false]

/-- The groups of a range lie from its first group to its last byte. -/
theorem mem_groupsOf {a n g : Nat} (h : g ∈ groupsOf a n) : a / 8 * 8 ≤ g ∧ g < a + n ∧ g % 8 = 0 := by
  unfold groupsOf at h
  split at h
  · cases h
  · obtain ⟨i, hi, rfl⟩ := List.mem_map.mp h
    rw [List.mem_range] at hi
    omega

/-- The bursts of a range lie from its first burst to its last byte. -/
theorem mem_burstsOf {a n g : Nat} (h : g ∈ burstsOf a n) : g < a + n := by
  unfold burstsOf at h
  split at h
  · cases h
  · obtain ⟨i, hi, rfl⟩ := List.mem_map.mp h
    rw [List.mem_range] at hi
    omega

theorem State.mem_txnsFrom {s : State} {x : Nat} (l : List Nat) (p : Option Nat) (h : x ∈ s.txnsFrom p l) : x ∈ l := by
  induction l generalizing p with
  | nil => exact h
  | cons y t ih =>
    rw [State.txnsFrom] at h
    split at h
    · exact List.mem_cons_of_mem _ (ih _ h)
    · obtain rfl | h := List.mem_cons.mp h
      · exact List.mem_cons_self ..
      · exact List.mem_cons_of_mem _ (ih _ h)

/-- Reads of the cluster slices take no grant (R251). -/
theorem State.readGrants_clusterSlice {s : State} (l : List Nat) (h : ∀ x ∈ l, x < 0x300000 * s.par.clusters) :
    s.readGrants l = [] := by
  refine List.filterMap_eq_nil_iff.mpr fun x hx => ?_
  have hr : s.region x = .clusterSlice (x / 0x300000) := by rw [State.region, if_pos (h x (mem_txnsFrom _ _ hx))]
  simp only [State.readRes, hr]

/-- A read inside the cluster slices, without errors: its bytes, and nothing moves. -/
theorem State.readMem_clusterSlices {s : State} {m : Master} {a n : Nat} (h : a + n ≤ 0x300000 * s.par.clusters)
    (hb : s.mem.bad = []) (hs : s.mem.soft = []) : s.readMem m a n = (some (s.bytes a n), s) := by
  have hg : s.readGrants (burstsOf a n) = [] :=
    readGrants_clusterSlice _ fun x hx => by have := mem_burstsOf hx; omega
  have hp : ∀ g ∈ groupsOf a n, s.region g ≠ .dram ∧ s.serve g = .plain := fun g hx => by
    have hl := mem_groupsOf hx
    obtain ⟨hr, hp⟩ := serve_clusterSlice (a := g) (by omega) hb hs
    exact ⟨by rw [hr]; exact Region.noConfusion, hp⟩
  rw [State.readMem, hg, claim_nil, State.readGroups, readGroupsFrom_plain _ _ hp]
  rfl

/-! ### The gather buffers hold no byte -/

@[simp] theorem State.drainLine_cells (s : State) (g co : Nat) (f : Bool) : (s.drainLine g co f).mem.cells = s.mem.cells := by
  simp only [State.drainLine]; repeat' (split <;> try rfl)

@[simp] theorem State.drainRead_cells (s : State) (l : GatherLine) (i : Nat) : (s.drainRead l i).mem.cells = s.mem.cells := by
  simp only [State.drainRead]
  repeat' (split <;> try simp only [rewriteBurst_cells, readOthers_cells, eccError_cells, access_cells])

@[simp] theorem State.drainWrite_cells (s : State) (l : GatherLine) (i : Nat) : (s.drainWrite l i).mem.cells = s.mem.cells := by
  simp only [State.drainWrite]
  split <;> simp only [cleanBurst_cells, access_cells]

@[simp] theorem State.drainAccesses_cells (s : State) (l : GatherLine) : (s.drainAccesses l).mem.cells = s.mem.cells := by
  simp only [State.drainAccesses, setParity_cells]
  rw [cells_foldl _ (fun s i => s.drainWrite_cells l i), cells_foldl _ (fun s i => s.drainRead_cells l i), bump_mem]

@[simp] theorem State.drainDone_cells (s : State) (g co : Nat) : (s.drainDone g co).mem.cells = s.mem.cells := by
  simp only [State.drainDone]
  split
  · rfl
  · split <;> simp only [drainLine_cells, drainAccesses_cells]

@[simp] theorem State.drainOut_cells (s : State) (l : GatherLine) (f : Bool) : (s.drainOut l f).mem.cells = s.mem.cells := by
  simp only [State.drainOut, drainDone_cells]
  repeat' (split <;> try simp only [drainLine_cells])

@[simp] theorem State.gatherBurst_cells (s : State) (a cls : Nat) : (s.gatherBurst a cls).mem.cells = s.mem.cells := by
  simp only [State.gatherBurst]
  repeat' (split <;> try simp only [drainLine_cells, drainOut_cells])

@[simp] theorem State.burstWritten_cells (s : State) (cls a : Nat) : (s.burstWritten cls a).mem.cells = s.mem.cells := by
  simp only [State.burstWritten]
  repeat' (split <;> try simp only [gatherBurst_cells, access_cells])

/-! ### Writes -/

/-- A write of one group leaves the cells, or replaces the bytes it names. -/
theorem State.writeGroup_cells (s : State) (a : Nat) (b : List (Option Byte)) :
    (s.writeGroup a b).mem.cells = s.mem.cells ∨ (s.writeGroup a b).mem.cells = Tab.putEnabled s.mem.cells a b := by
  simp only [State.writeGroup]
  repeat' (split <;> try simp only [State.putCells, padError_mem, cleanGroup_cells, true_or, or_true])

/-- A write of one group changes no byte outside its own. -/
theorem State.writeGroup_byte {s : State} {a i : Nat} {b : List (Option Byte)} (h : i < a ∨ a + b.length ≤ i) :
    (s.writeGroup a b).byte i = s.byte i := by
  obtain e | e := s.writeGroup_cells a b
  · exact byte_of_cells e i
  · rw [State.byte, e, Tab.get_putEnabled]
    split
    · rw [List.getD_eq_getElem?_getD, List.getElem?_eq_none (by omega)]; rfl
    · rfl

/-- The pieces of a run lie inside it. -/
theorem cutGroups_within {α : Type} {x : Nat × List α} (n a : Nat) (b : List α) (h : x ∈ cutGroups n a b) :
    a ≤ x.1 ∧ x.1 + x.2.length ≤ a + b.length := by
  induction n generalizing a b with
  | zero => cases h
  | succ n ih =>
    cases b with
    | nil => cases h
    | cons y r =>
      rw [cutGroups] at h
      · obtain rfl | h := List.mem_cons.mp h
        · simp only [List.length_take]; omega
        · obtain hd | hd := Nat.lt_or_ge (8 - a % 8) (y :: r).length
          · have := ih _ _ h
            rw [List.length_drop] at this
            omega
          · rw [List.drop_eq_nil_of_le hd] at h
            cases n <;> cases h
      · exact fun e => by cases e

/-- A fold of steps that each leave a byte leaves it. -/
theorem State.byte_foldl {α : Type} (f : State → α → State) {i : Nat} (l : List α) (s : State)
    (h : ∀ s, ∀ x ∈ l, (f s x).byte i = s.byte i) : (l.foldl f s).byte i = s.byte i := by
  induction l generalizing s with
  | nil => rfl
  | cons x t ih =>
    rw [List.foldl_cons, ih _ fun s y hy => h s y (List.mem_cons_of_mem _ hy), h s x (List.mem_cons_self ..)]

/-- A write changes no byte outside the bytes it names. -/
theorem State.writeEnabled_byte {s : State} {m : Master} {a i : Nat} {b : List (Option Byte)}
    (h : i < a ∨ a + b.length ≤ i) : (s.writeEnabled m a b).byte i = s.byte i := by
  simp only [State.writeEnabled]
  rw [byte_foldl _ _ _ fun s x _ => byte_of_cells (s.burstWritten_cells m.cls x) i, byte_foldl _ _ _ fun s x hx => ?_]
  · exact byte_of_cells (claim_cells ..) i
  · have := cutGroups_within _ _ _ (List.mem_filter.mp hx).1
    exact writeGroup_byte (by omega)

theorem State.writeMem_byte {s : State} {m : Master} {a i : Nat} {b : Bytes} (h : i < a ∨ a + b.length ≤ i) :
    (s.writeMem m a b).byte i = s.byte i := writeEnabled_byte (by rwa [List.length_map])

/-! ### The canonical form -/

theorem State.wf_writeGroup (s : State) (a : Nat) (b : List (Option Byte)) (w : Memory.wf s.mem.cells = true) :
    Memory.wf (s.writeGroup a b).mem.cells = true := by
  obtain h | h := s.writeGroup_cells a b <;> rw [h]
  · exact w
  · exact Tab.wf_putEnabled _ a b w

/-- A fold of steps that each keep the form keeps it. -/
theorem State.wf_foldl {α : Type} (f : State → α → State) (h : ∀ s x, Memory.wf s.mem.cells = true → Memory.wf (f s x).mem.cells = true)
    (l : List α) (s : State) (w : Memory.wf s.mem.cells = true) : Memory.wf (l.foldl f s).mem.cells = true := by
  induction l generalizing s with
  | nil => exact w
  | cons x t ih => exact ih _ (h s x w)

theorem State.wf_writeEnabled (s : State) (m : Master) (a : Nat) (b : List (Option Byte)) (w : Memory.wf s.mem.cells = true) :
    Memory.wf (s.writeEnabled m a b).mem.cells = true := by
  simp only [State.writeEnabled]
  rw [cells_foldl _ fun s x => s.burstWritten_cells m.cls x]
  exact wf_foldl (fun (s : State) (x : Nat × List (Option Byte)) => s.writeGroup x.1 x.2) (fun s x h => s.wf_writeGroup x.1 x.2 h) _ _
    (by rw [claim_cells]; exact w)

theorem State.wf_writeMem (s : State) (m : Master) (a : Nat) (b : Bytes) (w : Memory.wf s.mem.cells = true) :
    Memory.wf (s.writeMem m a b).mem.cells = true := s.wf_writeEnabled m a _ w

theorem State.wf_drainOne (s : State) (k : Nat) (w : Memory.wf s.mem.cells = true) :
    Memory.wf (s.drainOne k).mem.cells = true := by
  simp only [State.drainOne]
  split
  · exact w
  · split
    · exact w
    · exact wf_writeMem _ _ _ _ w

theorem State.wf_drainList (s : State) (k : Nat) (l : List StoreReq) (w : Memory.wf s.mem.cells = true) :
    Memory.wf (s.drainList k l).mem.cells = true := by
  induction l generalizing s with
  | nil => exact w
  | cons _ t ih => exact ih _ (s.wf_drainOne k w)

theorem State.wf_drainAll (s : State) (k : Nat) (w : Memory.wf s.mem.cells = true) :
    Memory.wf (s.drainAll k).mem.cells = true := s.wf_drainList k _ w

/-- A command that waits keeps what either outcome keeps. -/
theorem State.wf_orWait {s t : State} (ws : Memory.wf s.mem.cells = true) (wt : Memory.wf t.mem.cells = true) :
    Memory.wf (s.orWait t).mem.cells = true := by
  unfold State.orWait; split <;> assumption

/-- After reset memory lists nothing, in canonical form. -/
theorem reset_memory_wf : Memory.wf State.reset.mem.cells = true := rfl

end Sys2Proof.Machine
end

