-- ==== Sys2Proof/Tests/Slice0.lean ====
section
/-! SUPPORT. Tests of the model on the spec's worked examples, and on ill-formed commands. The witnesses of the statements stand
in Tests/Witness.lean. -/
open Sys2Proof Sys2Proof.Machine
namespace Sys2Proof.Tests
set_option Elab.async false

/-! ### Cheul words, written out from R115 to R117 (the words of the chapter's five examples among them) -/

theorem test_ldi_word : Cheul.decode .marshal 0x4680000000000001 = .ldi .marshal ⟨20, 0, 0, 1⟩ := by decide +kernel
theorem test_ldhi_word : Cheul.decode .marshal 0x4A40000000000020 = .ldhi .marshal ⟨18, 0, 0, 0x20⟩ := by decide +kernel
theorem test_wait_word : Cheul.decode .marshal 0xAB14020000000000 = .wait .marshal ⟨24, 20, 0, 2, 0⟩ := by decide +kernel
theorem test_setfv_word : Cheul.decode .marshal 0xCA7DE00000000000 = .setfv .marshal ⟨19, 29, 28, 0, 0⟩ := by decide +kernel
theorem test_setf_word : Cheul.decode .marshal 0xC0A0300800000022 = .setf .marshal ⟨5, 0, 6, 1, 0x22⟩ := by decide +kernel
theorem test_zero_word : Cheul.decode .marshal 0 = .nop .marshal ⟨0, 0, 0, 0⟩ := by decide +kernel
theorem test_ldi_encodes : Cheul.encode (.ldi .marshal ⟨20, 0, 0, 1⟩) = some 0x4680000000000001 := by decide +kernel

/-! ### Rays: the worked ray of its chapter (R45 to R54) -/

/-- Layer 1 of the worked ray, around patch pixel (74, 92): hogel (40, 60) of its plot. -/
def rayLayer (u v : Nat) : Pixel :=
  let p := fun r a => Pixel.mk r 1200 600 a 40 (-20) 16 false false
  if u = 74 then (if v = 92 then p 2000 800 else p 2400 900) else (if v = 92 then p 2100 820 else p 2600 1000)

theorem test_tangents : tangent 50 64 13107 = 7577 ∧ tangent 6 8 4096 = 2560 ∧ kqOf 13107 = 3495 := by decide +kernel
theorem test_shifts : shift 336 7577 = 155 ∧ shift 336 2560 = 53 := by decide +kernel
theorem test_ray :
    (composite ⟨7577, 2560, 3495⟩ 40 60 [200, 300, 400]
      [(0, fun _ _ => ⟨1000, 1500, 800, 1023, 0, 0, 0, true, false⟩), (336, rayLayer)]).d = [2393, 1294, 653] := by decide +kernel

/-! ### The block codec: the worked plane of its chapter (R212 to R217) -/

/-- Every row of the block rises by 2 from 18,960. -/
def rampBlock : List Nat := (List.range 256).map fun i => 18960 + 2 * (i % 16)

theorem test_codec_header : (encodeBlock 16 [0, 1, 2] [] rampBlock).take 12 =
    [0x1E, 0x3E, 0, 0, 0xFF, 0xFF, 0x20, 0x94, 0x08, 0, 0x02, 0x40] := by decide +kernel
theorem test_codec_length : (encodeBlock 16 [0, 1, 2] [] rampBlock).length = 66 := by decide +kernel

/-! ### Memory maps (R248 to R256, R279, R280) -/

theorem test_dram_map : dramMap 1245430464 2048 (2 ^ 31) 0 3 24 = ⟨2, 59306688, 18, 17, 0, 0, 14, 1809, 11⟩ := by decide +kernel
theorem test_mirror_copy : commonWord 0x10801240 = 131145 ∧ 131072 + copyWord 589824 73 = 426049 := by decide +kernel

/-! ### Registers (R34, R36, R662) and the checker (R90) -/

theorem test_family : (State.reset.regRead 0x8 false).1 = 0x02007804 ∧ (State.reset.regRead 0xC false).1 = 0x533C4009 := by
  decide +kernel
theorem test_idcode : State.reset.idCode = 0x0051296D := by decide +kernel
theorem test_family_read_only : (State.reset.checkValue 0xFE 0x10 3).1 = ⟨4, 4⟩ := by decide +kernel
theorem test_no_field : (State.reset.checkValue 0xFE 0xFFFFFFFF 3).1.status = 5 := by decide +kernel
theorem test_clamp_step : clampStep 100 1000 25 462 = ⟨3, 450⟩ ∧ clampStep 100 1000 25 87 = ⟨1, 100⟩ ∧
    clampStep 100 1000 25 1013 = ⟨2, 1000⟩ := by decide +kernel

/-! ### Gait and correction (R394 to R399, R376) -/

theorem test_gait_entries : gaitOf 0x003240C4 = ⟨4, 12, 0, 1, false, true, 12, 0⟩ ∧
    (gaitOf 0x00E78F94).word = 0x00E78F94 ∧ (gaitOf 0x00E78F94).step = 15 := by decide +kernel

/-- The table of the worked transition: len(4, 12, 1) and len(4, 12, 2) are 40, len(4, 9, 2) is 24. -/
def gaitTable1 : GaitTable := ⟨0, true, false, (List.range 1024).map fun i =>
  if i = waveform 4 12 1 ∨ i = waveform 4 12 2 then 40 else if i = waveform 4 9 2 then 24 else 0⟩

theorem test_gait_starts : ((GaitEntry.advance gaitTable1 1 1000 1 ⟨4, 4, 0, 1, false, false, 12, 3⟩).1.word) = 0x003240C4 := by
  decide +kernel
theorem test_gait_continues :
    ((GaitEntry.advance gaitTable1 1 1015 2 ⟨4, 12, 14, 2, false, true, 9, 2⟩).1.word) = 0x00E78F94 := by decide +kernel
theorem test_gait_ends :
    (GaitEntry.advance gaitTable1 1 1024 2 ⟨4, 9, 23, 2, true, true, 9, 3⟩).1 = ⟨4, 9, 0, 2, false, false, 9, 0⟩ := by decide +kernel
theorem test_load_class : loadClass 20000 = 12 ∧ loadClass 6000 = 9 ∧ gaitGain 1500 2170 = 1589 := by decide +kernel
theorem test_fault_entry : emitterKey 1000 128 1 = 0x00200FA1 ∧ emitterKey 1000 130 1 = 0x00208FA1 := by decide +kernel
theorem test_corr_window : corrDefined State.reset.par 0x1055AC = true ∧
    corrDefined State.reset.par 0x160000 = false := by decide +kernel

/-! ### Links and the governor (R415, R416, R454, R536, R542) -/

/-- From 0x7FFF_FFFF, bit 30 and bit 27 agree for 28 bits and then differ for three. -/
theorem test_scrambler : (LineEnd.start.send false [0, 0, 0, 0]).2 =
    List.replicate 28 false ++ [true, true, true, false] := by decide +kernel
theorem test_stuffing : (LineEnd.start.send true [0xFF, 0xFF, 0xFF, 0xFF]).2 =
    List.replicate 31 true ++ [false, true] := by decide +kernel
theorem test_unstuffing : (LineEnd.start.take (List.replicate 31 true ++ [false, true])).1 = List.replicate 32 true ∧
    (LineEnd.start.take (List.replicate 32 true)).2.1 = 1 := by decide +kernel

theorem test_window : slabCells 8333333 3 8 = 1008288 ∧ packetCells 24776 = 800 := by decide +kernel
theorem test_clock_gear : clockGear 3 0 90 8333333 = 0 := by decide +kernel
theorem test_ceiling : nextCeiling 32768 30000 28500 655 328 5 = 32113 := by decide +kernel

/-! ### Ill-formed commands, one for each check of well-formedness -/

theorem test_wf_rejects :
    [Instr.nop (.cluster 68) ⟨0, 0, 0, 0⟩, .fieldWrite 0x4000000 false 0, .fieldWrite 6 false 0, .datumLowWordRead 0x40004,
     .corrWindowWrite 0x2000000 false 0, .msixTableWrite (.table 1024 0), .bar2Read 0 4097, .bar2Write (2 ^ 32) [none],
     .portEnableWrite 8 true, .sceneFrameRx 0 4 [], .gatherTimeout 3 0, .encode 68, .plotLoad 0 2, .decodeLayer 32,
     .engineDescriptorComplete 8 0 0, .hubEngineFault 0 4096, .markerSend 512, .upstreamMarker 0 [], .status 0 [],
     .failoverTrigger 0 6, .bcSweepComplete 512 0 0, .datumLoss ⟨0, 2⟩, .nvmRead 4, .streamLoss ⟨0, 2⟩, .guardOutcome 32,
     .dramWriteGather 60 [0, 0, 0, 0, 0], .dramChannelFail 24 1, .refreshDebtTick 0 2, .mr4Poll 0 8, .holdTimerBite ⟨48, none⟩,
     .commonSliceFail 16, .trimMeasurement ⟨0, 34, 0, 0⟩, .hostLinkChange 6 1].all (fun i => !i.wf) = true := by decide +kernel
theorem test_wf_accepts :
    [Instr.nop (.cluster 67) ⟨0, 0, 0, 0⟩, .fieldWrite 0x3FFFFF8 true 0, .markerSend 511, .trimMeasurement ⟨23, 33, 0, 127⟩,
     .dramWriteGather 60 [0, 0, 0, 0]].all Instr.wf = true := by decide +kernel

end Sys2Proof.Tests
end

