-- ==== Sys2Proof/Tests/Witness.lean ====
section
/-! SUPPORT. Witnesses: for every statement with hypotheses, concrete states and operands that meet them, clause by clause, at
the bounds of their ranges. -/
open Sys2Proof Sys2Proof.Machine
namespace Sys2Proof.Tests
set_option Elab.async false
open Reg

/-! ### The states -/

def withRegs (s : State) (l : List (Nat × Int)) : State := l.foldl (fun s x => s.wr x.1 x.2) s

/-- The marshal and cluster 0 execute, boot is done, and a period runs. -/
def live : State := withRegs State.reset [(MSH_STATUS_state, 1), (MSH_PC_pc, 0x10000000), (SEQ_STATUS_state 0, 1),
  (SEQ_PC_pc 0, 0x10002000), (RST_STATUS_stage, 11), (FT_STATE_state, 1)]

def dram : State := withRegs live [(DRAM_CFG_rank_mib, 2048), (DRAM_CFG_usable_mib, 86016)]

def gprs (s : State) (k : Nat) (l : List (Nat × Nat)) : State :=
  l.foldl (fun s x => s.setGreg k (BitVec.ofNat 5 x.1) (BitVec.ofNat 64 x.2)) s

/-- The marshal's g2 and g3. -/
def ab (a b : Nat) (s : State) : State := gprs s 0 [(2, a), (3, b)]

/-- Words of eight bytes from an address. -/
def words (a : Nat) (l : List Nat) (s : State) : State :=
  { s with mem := { s.mem with cells := Tab.putBytes s.mem.cells a (l.flatMap (leBytes 8 ·)) } }

/-- Bytes from an address. -/
def place (a : Nat) (b : Bytes) (s : State) : State :=
  { s with mem := { s.mem with cells := Tab.putBytes s.mem.cells a b } }

/-- A queue with one descriptor at 0x100, of ticket 4, which its engine has not read. -/
def d1 : QEntry := ⟨0x100, 4, 1, [], false, false⟩
def q1 (key : Nat) (s : State) : State := s.setEngQ key ⟨4, 3, [d1]⟩

def kf (sub : Nat) : KFmt := ⟨1, 2, 3, BitVec.ofNat 8 sub, 0⟩
def tf (mode : Nat) : TFmt := ⟨1, 2, 3, BitVec.ofNat 3 mode, 0⟩

/-- No group of memory has an error, and no slice and no channel has failed. -/
def wholeMemory (s : State) : Bool :=
  s.mem.bad.isEmpty && s.mem.soft.isEmpty && (List.range 16).all (fun k => !s.sliceFailed k) &&
    (List.range (8 * s.par.groups + max 1 s.par.channels)).all fun c => !s.chFailed c

theorem dramMap_ch_lt (o g r order p c : Nat) : (dramMap o g r order p c).ch < 8 * p + max 1 c := by
  have h1 : o / g % max 1 c < max 1 c := Nat.mod_lt _ (by omega)
  have h2 : 0 < p → o / g % p < p := Nat.mod_lt _
  unfold dramMap
  dsimp only
  split <;> omega

theorem wholeMemory_spec {s : State} (h : wholeMemory s = true) : s.mem.bad = [] ∧ s.mem.soft = [] ∧
    (∀ k, k < 16 → s.sliceFailed k = false) ∧ ∀ c, c < 8 * s.par.groups + max 1 s.par.channels → s.chFailed c = false := by
  simp only [wholeMemory, Bool.and_eq_true, List.isEmpty_iff, Bool.not_eq_true', List.all_eq_true, List.mem_range] at h
  exact ⟨h.1.1.1, h.1.1.2, h.1.2, h.2⟩

theorem loc_ch_lt (s : State) (a : Nat) : (s.loc a).ch < 8 * s.par.groups + max 1 s.par.channels := by
  rw [State.loc]
  exact dramMap_ch_lt ..

/-- Memory that is whole serves every address plainly. -/
theorem serve_plain {s : State} (h : wholeMemory s = true) (a : Nat) : s.serve a = .plain := by
  obtain ⟨hb, hso, hs, hc⟩ := wholeMemory_spec h
  have hch := hc _ (loc_ch_lt s a)
  have hw : s.sliceFailed (commonWord a % 16) = false := hs _ (Nat.mod_lt _ (by decide))
  have hl : s.chLost (s.loc a).ch (s.loc a).co = false := by
    simp only [State.chFailed, Bool.or_eq_false_iff] at hch
    simp [State.chLost, hch.1, hch.2]
  have hbad : s.burstBad a = false := by simp [State.burstBad, hb]
  have hsoft : s.burstSoft a = false := by simp [State.burstSoft, hso]
  simp only [State.serve, hb, hso, List.contains_nil]
  split
  · simp
  · split <;> simp [hw]
  · simp [hch, hl, hbad, hsoft]
  · rfl

/-- No sequencer holds a resource, and no debug halt does. -/
def freeFabric (s : State) : Bool := !s.sq.debugHalt && s.sq.seqs.all fun x => x.2.lock.isNone && x.2.stores.all (·.lock.isNone)

/-- Where no lock is held, nothing holds a resource, from any master. -/
theorem held_of {s : State} (h : freeFabric s = true) (k r : Nat) : s.heldFrom k r = false := by
  simp only [freeFabric, Bool.and_eq_true, Bool.not_eq_true', List.all_eq_true, Option.isNone_iff_eq_none] at h
  simp only [State.heldFrom, h.1, Bool.false_or, List.any_eq_false, Bool.and_eq_true, not_and, Bool.not_eq_true]
  intro x hx _
  simp only [Seq.holds, (h.2 x hx).1, Bool.or_eq_false_iff, List.any_eq_false]
  exact ⟨by simp, fun y hy => by simp [(h.2 x hx).2 y hy]⟩

theorem unheld_of {s : State} (h : freeFabric s = true) : s.unheld := held_of h noSeq

/-- Every group of the bytes from `a` can be read. -/
def canRead (s : State) (a n : Nat) : Bool := (groupsOf a n).all fun g => decide (s.region g ≠ .dram) && decide (s.serve g ≠ .lost)

theorem canRead_spec {s : State} {a n : Nat} (h : canRead s a n = true) : s.readable a n := fun g hg => by
  have := List.all_eq_true.1 h g hg
  simpa using this

theorem canStart_of {s : State} {d : QEntry} {n : Nat} (h : canRead s d.addr (8 * n) = true) : s.canStart d n := fun _ => canRead_spec h

/-- Bytes of cluster slices can be read where memory is whole. -/
theorem readable_of {s : State} {a n : Nat} (hw : wholeMemory s = true) (h : a + n ≤ 0x300000 * s.par.clusters) : s.readable a n :=
  fun g hg => by
    obtain ⟨hb, hso, -, -⟩ := wholeMemory_spec hw
    have hl := mem_groupsOf hg
    obtain ⟨hr, hp⟩ := State.serve_clusterSlice (a := g) (by omega) hb hso
    exact ⟨by rw [hr]; exact Region.noConfusion, by rw [hp]; exact Serve.noConfusion⟩

theorem wit_memory : wholeMemory live = true ∧ wholeMemory dram = true ∧ freeFabric live = true ∧ freeFabric dram = true := by
  decide +kernel

/-- The zones are in effect, and groups of memory are in error. -/
def zoned (s : State) : State := { s with mem := { s.mem with zonesOn := true } }
def hurt (l : List Nat) (s : State) : State := { s with mem := { s.mem with bad := l } }

/-! ### Cheul -/

theorem wit_Sequencers : live.ready .marshal = true ∧ live.ready (.cluster 0) = true ∧ live.hasSeq .marshal = true := by
  decide +kernel

theorem wit_CheulDecodeInvertsEncode : Cheul.encode (.commitFrameProgram .marshal (kf 1)) ≠ none ∧
    Cheul.rowFits (.commitFrameProgram .marshal (kf 1)) = true ∧ Cheul.rowFits (.gearQueryLink .marshal (kf 255)) = true := by
  decide +kernel

theorem wit_ComputeWritesItsResultOrTraps : live.ready .marshal = true ∧ (kf 1).sub.toNat < 2 ∧ (kf 3).sub.toNat < 4 ∧
    2 ≤ (kf 2).sub.toNat ∧ 4 ≤ (kf 4).sub.toNat := by decide +kernel

theorem wit_ImmediateCompareSelectWriteTheirResult : live.ready .marshal = true ∧ (kf 31).sub.toNat < 32 ∧
    12 ≤ (kf 12).sub.toNat ∧ 32 ≤ (kf 32).sub.toNat ∧
    ∀ n, n < 6 → (kf (2 * n)).sub.toNat / 2 = n ∧ (kf (2 * n + 1)).sub.toNat / 2 = n := by decide +kernel

theorem wit_FlowInstructionsMoveThePc :
    (let back := (live.setGreg 0 31 8).greg 0 31; back ≠ 0 ∧ back.toNat % 8 = 0) ∧ live.greg 0 31 = 0 ∧
    ((live.setGreg 0 31 9).greg 0 31).toNat % 8 ≠ 0 ∧ (live.setGreg 0 31 8).ready .marshal = true := by decide +kernel

theorem wit_HaltTrapAndIllegalWordsTrap : live.ready (.cluster 0) = true ∧
    Cheul.decode (.cluster 0) ((63 : BitVec 6) ++ 0#58) = .illegalOpcode (.cluster 0) 63 ∧
    live.region 0x700000000 ≠ .common ∧ (zoned live).region 0x10400000 = .common ∧ (zoned live).upperHalf 0x10400000 = true ∧
    (∀ s ∈ [live, zoned live, hurt [0x10000000 / 8] live], s.ready (.cluster 0) = true ∧ s.region 0x10000000 = .common ∧
      s.upperHalf 0x10000000 = false) ∧
    (hurt [0x10000000 / 8] live).serve 0x10000000 = .lost ∧ live.serve 0x10000000 ≠ .lost ∧ (zoned live).serve 0x10000000 ≠ .lost ∧
    (hurt (live.mem.bad ++ [0x10000000 / 8]) live).serve 0x10000000 = .lost ∧
    (hurt ((zoned live).mem.bad ++ [0x10000000 / 8]) (zoned live)).serve 0x10000000 ≠ .lost := by decide +kernel

/-! ### Memory as the sequencers reach it -/

theorem wit_FabricAccessChecksTrap : (kf 0).sub = 0 ∧ (ab (2 ^ 40) 0 live).ready .marshal = true ∧
    (((ab (2 ^ 40) 0 live).greg 0 2).toNat : Int) ≥ 2 ^ 40 ∧ ((ab (2 ^ 40 - 1) 0 live).greg 0 2).toNat % 4 ≠ 0 ∧
    live.populated 0x700000000 = false ∧ live.region 0x800000000 = .regs ∧ live.populated 0x800000000 = true := by
  decide +kernel

/-- What an access of n bytes by sequencer k needs. -/
def fine (s : State) (k a n : Nat) : Prop := a < 2 ^ 40 ∧ a % n = 0 ∧ s.populated a = true ∧ s.region a ≠ .regs ∧
  s.lockedOut k a = false ∧ (s.seq k).stores.length < 8

/-- Both kinds of paddock and DRAM, at their ends, and an access at the end of a cluster slice. -/
theorem wit_LoadsReadMemory : ∀ a ∈ [0, 0x2FFFF8, 0xCBFFFF8, 0x10000000, 0x17FFFFF8, 0x1000000000, 0x24FFFFFFF8],
    fine dram 0 a 8 ∧ fine dram 1 a 8 ∧ fine dram 1 (a + 4) 4 ∧ dram.serve (a / 8 * 8) ≠ .lost ∧
    ((ab a 0 dram).greg 0 2).toNat = a ∧ (ab a 0 dram).ready .marshal = true := by
  unfold fine; decide +kernel

/-- Marshal stores that wait: an aligned word and an aligned half word in cluster slices. -/
def storing : State := dram.setSeq 0 { dram.seq 0 with
  stores := [⟨0x100, leBytes 8 0x1234, none⟩, ⟨0x2FFFFC, leBytes 4 0x56, none⟩] }

theorem wit_StoresBufferAndFenceDrains : fine storing 0 0x2FFFF8 8 ∧ fine storing 0 0x10000000 4 ∧
    storing.ready .marshal = true ∧ freeFabric storing = true ∧ storing.mem.bad = [] ∧
    ∀ r ∈ (storing.seq 0).stores, (r.data.length = 4 ∨ r.data.length = 8) ∧ r.addr % r.data.length = 0 ∧
      r.addr < storing.par.clusters * 0x300000 := by
  unfold fine; decide +kernel

theorem wit_AtomicsReadThenWriteOneWord : ∀ a ∈ [0, 0x2FFFF8, 0x10000000, 0x24FFFFFFF8], fine dram 0 a 8 ∧
    dram.writeLockedOut 0 a = false ∧ dram.dramDrops (dram.loc a) = false ∧ dram.serve a = .plain ∧ (dram.seq 0).stores = [] ∧
    (ab a 0 dram).word a 8 = 0 := by unfold fine; decide +kernel

/-! ### Engine queues -/

def pf (cls inst queue : Nat) : PFmt := ⟨1, 2, 3, BitVec.ofNat 5 cls, BitVec.ofNat 12 inst, BitVec.ofNat 3 queue, 0⟩
def fullQueue : EngQ := ⟨20, 4, (List.range 16).map fun i => ⟨0x100, 5 + i, 0, [], false, false⟩⟩

theorem wit_IssueTakesATicket : (pf 4 0 1).cls.toNat < 8 ∧ (pf 4 0 1).rsv = 0 ∧ live.engineInst 0 (pf 4 0 1) = some 0 ∧
    live.engineInst 1 (pf 0 0xFFF 7) = some 0 ∧ live.inPaddock 0 = true ∧ live.inPaddock 0x17FFFFF8 = true ∧
    live.inPaddock 0x1000000000 = false ∧ (live.engQ (qKey 4 0 1)).held < 16 ∧
    16 ≤ ((live.setEngQ (qKey 4 0 1) fullQueue).engQ (qKey 4 0 1)).held ∧ (live.seq 0).stores = [] := by decide +kernel

theorem wit_PollWritesTheStatusWord : live.engineInst 0 (pf 4 0 1) = some 0 ∧ live.engineInst 0 (pf 0 0xFFF 0) = none ∧
    live.engineInst 1 (pf 1 0xFFF 1) = some 0 ∧ live.engineInst 1 (pf 4 0 0) = none := by decide +kernel

/-! ### Events and time -/

def flags (e : Nat) (s : State) : State := s.setEvents 0 (BitVec.ofNat 64 e)
def sleep (w : Waiting) (s : State) : State := s.setSeq 0 { s.seq 0 with waiting := some w }

theorem wit_WaitsCompleteSleepAndWake :
    (let s := flags 6 (ab 6 0 live)
     s.ready .marshal = true ∧ (tf 3).rsv = 0 ∧ (s.greg 0 2).getLsbD 0 = false ∧ (s.seq 0).events &&& s.greg 0 2 = s.greg 0 2) ∧
    (let s := flags 4 (ab 6 1 live); (s.seq 0).events &&& s.greg 0 2 ≠ 0 ∧ ¬ (s.seq 0).events &&& s.greg 0 2 = s.greg 0 2 ∧
      s.greg 0 3 ≠ 0) ∧ live.greg 0 2 = 0 ∧ live.greg 0 3 = 0 ∧
    (sleep (.flags 6 3 1 true) live).asleep 0 = some (.flags 6 3 1 true) ∧
    (∀ w ∈ [0, 5 * 2 ^ 30], (sleep (.time 3 w 1 true) live).asleep 0 = some (.time 3 w 1 true)) ∧ (live.seq 0).bitten = false ∧
    0 ≤ live.domainWord 3 ∧ live.domainWord 3 < 5 * 2 ^ 30 ∧
    waitMet (live.seq 0).events 6 3 = false ∧ waitMet ((flags 6 live).seq 0).events 6 3 = true ∧
    (sleep (.flags 6 3 1 true) (flags 6 live)).asleep 0 = some (.flags 6 3 1 true) ∧
    waitMet 6 6 3 = true ∧ waitMet 4 6 2 = true ∧ (6 : BitVec 64).getLsbD 0 = false ∧
    (let s := flags 7 (ab 3 0 live)
     (s.greg 0 2).getLsbD 0 = true ∧ (s.seq 0).events.getLsbD 0 = true ∧ waitMet (s.seq 0).events (s.greg 0 2) 3 = true) := by
  decide +kernel

theorem wit_SignalDeliversAndClearClears :
    (∀ x ∈ [(0, [0]), (1, [1]), (0xFFE, [1]), (0xFFF, [0])],
      let s := withRegs (ab (2 ^ 48) x.1 live) [(SEQ_STATUS_logical 0, 0)]
      s.greg 0 2 &&& ~~~softMask = 0 ∧ (s.signalTargets 0 (s.greg 0 3)).map (·.take 1) = some x.2 ∧ s.ready .marshal = true) ∧
    (ab 1 0 live).greg 0 2 &&& ~~~softMask ≠ 0 ∧ (tf 0).mode = 0 ∧
    ({ live with sq := { live.sq with signals := [⟨0, 1⟩] } } : State).sq.signals = ⟨0, 1⟩ :: [] := by decide +kernel

/-- A clock that shows 5 s and 3 ns in every domain. -/
def clock (s : State) : State := { s with clk := { s.clk with a := ⟨5, 3, 0⟩, b := ⟨5, 3, 0⟩, free := ⟨5, 3, 0⟩ } }

theorem wit_AtAndStampFollowTheDatums :
    (tf 3).mode.toNat < 4 ∧ (tf 4).mode.toNat < 5 ∧
    999999999 < ((ab (5 * 2 ^ 30 + 1000000000) 0 live).greg 0 2).toNat % 2 ^ 30 ∧
    (∀ d, d < 4 → (clock live).domainWord d = 5 * 2 ^ 30 + 3 ∧
      ((ab (5 * 2 ^ 30 + 3) 0 (clock live)).greg 0 2).toNat = 5 * 2 ^ 30 + 3 ∧
      ((ab (5 * 2 ^ 30 + 4) 0 (clock live)).greg 0 2).toNat = 5 * 2 ^ 30 + 4) ∧
    (let u := sleep (.time 3 (5 * 2 ^ 30 + 3) 1 false) (clock live)
     u.hasSeq .marshal = true ∧ (u.advance 0).asleep 0 = some (.time 3 (5 * 2 ^ 30 + 3) 1 false) ∧
     ((u.advance 0).seq 0).bitten = false ∧ 5 * 2 ^ 30 + 3 ≤ (u.advance 0).domainWord 3) := by decide +kernel

/-! ### Fields -/

/-- A field of each access class, and of each apply point but REST. -/
theorem wit_fields :
    ([FRAME_COUNT_count, ARB_BITE_count, HOST_IRQ_cause, FM_FIRST_clear].map fun h =>
      (fieldOf live.par h).map (·.row.access)) = [some .ro, some .rc, some .w1c, some .wo] ∧
    ([HEALTH_TH_warn, GOV_CTRL_zone_ramp, PAD_MIRZ_base 68 0].map fun h =>
      (fieldOf live.par h).map fun x => (x.row.access, x.row.apply)) = [some (.rw, .now), some (.rw, .frame), some (.rw, .boot)] ∧
    fieldOf live.par 0xFFFFFFFF = none := by decide +kernel

/-- ARB_HOLD.limit: 256 to 65,280 in steps of 256. The value written lies in g3. -/
theorem wit_SetfWritesTheAppliedValueAndStatus :
    (∀ v ∈ [255, 256, 384, 65280, 65281], let s := ab ARB_HOLD_limit v live
      s.ready .marshal = true ∧ (s.greg 0 2).toNat = ARB_HOLD_limit ∧ (s.greg 0 3).toInt = v ∧ s.fecRefused ARB_HOLD_limit v = false) ∧
    (∃ x, fieldOf live.par ARB_HOLD_limit = some x ∧ x.row.access = .rw ∧ live.minOf x = 256 ∧ live.maxOf x = 65280 ∧
      x.row.step = 256) ∧
    ringOf ARB_HOLD_limit = none ∧ (live.seq 0).stores = [] ∧
    (⟨1, 2, 3, 1, BitVec.ofNat 35 ARB_HOLD_limit⟩ : KFmt).imm.toNat < 2 ^ 32 :=
  ⟨by decide +kernel, ⟨_, rfl, by decide +kernel⟩, by decide +kernel⟩

theorem wit_AcceptedValuesWaitAndClampsAreLogged :
    (∃ x, fieldOf live.par HEALTH_TH_warn = some x ∧ x.row.access = .rw ∧ x.row.apply = .now ∧ live.judge HEALTH_TH_warn x 1000 = ⟨0, 1000⟩) ∧
    (∃ x, fieldOf live.par GOV_CTRL_zone_ramp = some x ∧ x.row.access = .rw ∧ x.row.apply = .frame ∧
      live.judge GOV_CTRL_zone_ramp x 33 = ⟨0, 33⟩) ∧
    (∃ x, fieldOf live.par (PAD_MIRZ_base 68 0) = some x ∧ x.row.access = .rw ∧ x.row.apply = .boot ∧
      live.judge (PAD_MIRZ_base 68 0) x 2047 = ⟨0, 2047⟩) ∧
    (∀ h ∈ [HEALTH_TH_warn, GOV_CTRL_zone_ramp, PAD_MIRZ_base 68 0, ENC_CTRL_ref_span 0],
      h / 2 ^ 24 ∈ [0x05, 0x06, 0x08, 0x12, 0x13, 0x30] ∧ ((ab h 33 live).greg 0 2).toNat = h) ∧
    live.latched = false ∧ (withRegs live [(FT_STATE_state, 2)]).latched = true ∧ fieldOf live.par 0xFFFFFFFF = none ∧
    live.clogUnread = 0 ∧ (withRegs live [(CLOG_IDX_head, 100), (CLOG_IDX_tail, 65380)]).clogUnread = 256 :=
  ⟨⟨_, rfl, by decide +kernel⟩, ⟨_, rfl, by decide +kernel⟩, ⟨_, rfl, by decide +kernel⟩, by decide +kernel⟩

theorem wit_GetfReturnsTheAttribute : ∀ n, n < 7 → ∀ h ∈ [HEALTH_TH_warn, ARB_BITE_count, FM_FIRST_clear, CLOG_IDX_tail],
    let s := ab h n live
    s.ready .marshal = true ∧ (s.greg 0 3).toNat % 256 = n ∧ (fieldOf s.par (s.greg 0 2).toNat).isSome = true ∧
      (kf 1).sub.toNat < 2 := by decide +kernel

theorem wit_SetfvChecksATable :
    65535 < ((ab 0 65536 live).greg 0 3).toNat ∧ ((ab 8 65535 live).greg 0 2).toNat % 16 ≠ 0 ∧
    live.paddockRange 0x1000000000 16 = false ∧ live.paddockRange 0 (16 * 65535) = true ∧
    (∀ a ∈ [0, 0x17FFFFF0], live.paddockRange a 16 = true ∧ ∀ g ∈ groupsOf a 16, live.region g ≠ .dram ∧ live.serve g ≠ .lost) ∧
    freeFabric live = true ∧ (live.seq 0).stores = [] := by decide +kernel

/-! ### Device instructions -/

def frameImage : LoadedImage := ⟨0x10000080, [⟨1, 64, 0, 0x10001000⟩, ⟨2, 64, 64, 0x10002000⟩], List.replicate 128 0, 1⟩
def loaded (s : State) : State := { s with trust := { s.trust with images := [frameImage] } }

theorem wit_CommitTakesEffectInItsPeriod : live.ready (.cluster 0) = true ∧ (kf 1).sub.toNat < 2 ∧ 2 ≤ (kf 2).sub.toNat ∧
    (live.greg 0 2).toNat % 128 = 0 ∧ ((ab 32 0 live).greg 0 2).toNat % 64 ≠ 0 ∧ ((ab 64 0 live).greg 0 2).toNat % 128 ≠ 0 ∧
    live.imageAt 0 = none ∧ ((ab 0x10000080 0 live).greg 0 2).toNat % 128 = 0 ∧
    (loaded live).imageAt 0x10000080 = some frameImage ∧ frameImage.kind = 1 ∧ live.latched = false ∧
    (withRegs live [(FT_STATE_state, 2)]).latched = true := by decide +kernel

theorem wit_LogWritesAProgramRecord : (kf 2).sub.toNat < 3 ∧ (⟨1, 2, 3, 0, 2 ^ 32 - 1⟩ : KFmt).imm.toNat < 2 ^ 32 ∧
    (withRegs live [(FM_LOG_head, 2 ^ 32 - 1)]).ready .marshal = true := by decide +kernel

theorem wit_GearQueriesAndRequests : live.par.tileLinks = 512 ∧ ((ab 511 3 live).greg 0 2).toNat < 512 ∧
    live.rdN (LINK_GEAR_next 511) ≤ 3 ∧ (withRegs live [(LINK_GEAR_next 511, 2)]).rdN (LINK_GEAR_next 511) < 3 ∧
    3 ≤ (withRegs live [(LINK_GEAR_next 511, 3)]).rdN (LINK_GEAR_next 511) ∧ 512 ≤ ((ab 512 4 live).greg 0 2).toNat ∧ 3 < ((ab 512 4 live).greg 0 3).toNat ∧ ((ab 511 3 live).greg 0 3).toNat ≤ 3 ∧
    live.par.active = 64 ∧ (withRegs live [(SEQ_STATUS_logical 0, 0)]).physOf 0 = some 0 := by decide +kernel

def checkpoint : Checkpoint := ⟨0x10000008, [(3, 5)], 0x11, 4⟩

theorem wit_LockstepErrorAndResume : live.stopped = false ∧ live.rd MSH_STATUS_state = 1 ∧
    (let s := { live with sq := { live.sq with ckpt := some checkpoint, restartDue := true } }
     s.stopped = false ∧ s.sq.restartDue = true ∧ s.fm.standing.contains .marshal = false ∧ s.sq.ckpt = some checkpoint) := by
  decide +kernel

/-! ### The host interface -/

theorem wit_RegisterWritesAreCheckedFieldByField : live.hostUp = true ∧
    (let off := 327704  -- the word of HEALTH_TH.warn
     off % 8 = 0 ∧ off % 4 = 0 ∧ msixOffset off = false ∧ pbaOffset off = false ∧ off < 0x1000000 ∧ live.blockOut off = false ∧
     live.fieldsAt off false ≠ [] ∧ ∃ x p post, live.fieldsAt off false = [] ++ (x, p) :: post ∧ live.unchanged x p 32 104858600 = false ∧
     (∀ y ∈ post, (live.checkValue 0xFF x.handle (writtenValue x p 32 104858600)).2.unchanged y.1 y.2 32 104858600 = true)) ∧
    (let off := 327704; (∀ x ∈ live.fieldsAt off false, live.unchanged x.1 x.2 32 (live.word32 off) = true)) ∧
    live.fieldsAt 0x3FFFFF8 true = [] ∧ (withRegs live [(RST_STATUS_stage, 6)]).blockOut 0x1300000 = false ∧
    (withRegs live [(RST_STATUS_stage, 6)]).blockOut 0x130000 = true :=
  ⟨by decide +kernel, ⟨by decide +kernel, by decide +kernel, by decide +kernel, by decide +kernel, by decide +kernel,
    by decide +kernel, by decide +kernel, ⟨_, _, _, rfl, by decide +kernel⟩⟩, by decide +kernel⟩

/-- Each field that a command of its own writes exists, as an unsigned field outside the blocks that stage 7 opens. -/
theorem wit_HostFieldCommandsReachTheChecker : live.hostUp = true ∧
    ∀ h ∈ [MSH_DOORBELL_events, CLOG_IDX_tail, CLOG_CTRL_clear_ovf, PORT_CTRL_enable 3, PORT_CTRL_split 0, CLIP_CTRL_stop,
      ARB_HOLD_limit, TRV_CTRL_release 67, GUARD_CTRL_release, CORR_CTRL_swap, LANE_ADAPT_retry 511, SVC_SLOTS_table_hi 511,
      DATUM_CTRL_select, DATUM_step_go 1, PTP_RX_tail 3, PTP_TX_send 3, TSQ_pop 3, FT_REST_enter, FT_REST_exit, FM_LOG_tail,
      FM_LOG_clear_ovf, FM_CTRL_warm_reset, FM_ENGINE_target, FM_FIRST_clear, NVM_CMD_op, NVM_UNLOCK_go, NVM_UNLOCK_lock,
      RST_CTRL_warm, RST_BOOT_go, REF_CTRL_select, HOST_BAR2_base],
      ((fieldOf live.par h).map fun f => (live.blockOut f.offset, f.row.signed)) = some (false, false) := by decide +kernel

theorem wit_HostFieldWrites :
    (∃ f, fieldOf live.par ARB_HOLD_limit = some f ∧ live.unchanged f 0 f.row.width 300 = false ∧
      live.unchanged f 0 f.row.width (live.rdN ARB_HOLD_limit) = true) ∧
    (∃ f, fieldOf live.par DATUM_CTRL_select = some f ∧ live.unchanged f 0 f.row.width 1 = false ∧
      live.unchanged f 0 f.row.width 0 = true) := ⟨⟨_, rfl, by decide +kernel⟩, ⟨_, rfl, by decide +kernel⟩⟩

theorem wit_HostControlWritesAct :
    (let s := withRegs live [(CLOG_IDX_head, 600), (CLOG_IDX_tail, 500), (HOST_BAR2_base, 1020)]
     let d (x : Int) := (s.rd CLOG_IDX_head - x) % 65536
     s.hostUp = true ∧ d 344 ≤ 256 ∧ d 600 ≤ 256 ∧ 256 < d 343 ∧ 32768 ≤ ((343 : Int) - 600) % 65536 ∧ 256 < d 601 ∧
     ((601 : Int) - 600) % 65536 < 32768 ∧ (1020 : BitVec 10).toNat = 1020 ∧ 1020 < (1021 : BitVec 10).toNat) ∧
    (withRegs live [(FRAME_COUNT_count, 1)]).rd FRAME_COUNT_count ≠ 0 ∧ live.pins.warmDue = 0 ∧
    (let s := withRegs live [(RST_STATUS_stage, 12)]; s.stage = 12 ∧ s.hostUp = true ∧ s.pins.tapHolds = false ∧
      s.pins.tap.tests = false) := by decide +kernel

theorem wit_HostReadsAnswer : live.hostUp = true ∧ (5 : Nat) % 4 ≠ 0 ∧
    (let off := 0x80010 -- the word of ARB_BITE.count
     off % 4 = 0 ∧ live.blockOut off = false ∧ latchesHigh off = false ∧ latchesHigh (off - 4) = false ∧
     live.windowByte off = none ∧ (wordFields live.par off).any (fun x => x.1.row.access == .rc) = true) ∧
    (∀ off ∈ [0x40010, 0x40060, 0x400A0, 0x40118, 0x40130], latchesHigh off = true ∧ latchesHigh (off + 4) = false ∧
      live.blockOut off = false) := by decide +kernel

theorem wit_Bar2ReachesFabricMemory : live.hostUp = true ∧ 7 ≤ live.stage ∧
    (live.paddockRange 0x2FFFF8 8 || live.dramRange 0x2FFFF8 8) = true ∧ live.par.clusters * 0x300000 = 0xCC00000 ∧
    (live.paddockRange 0xCC00000 1 || live.dramRange 0xCC00000 1) = false ∧ live.mem.bad = [] ∧
    live.efN HOST_BAR2_base = 0 ∧ groupsOf 0xFF 10 = [0xF8, 0x100, 0x108] ∧ wholeMemory live = true ∧
    live.region 0xCBFFFF8 = .clusterSlice 67 ∧ 0xCBFFFF8 + 8 ≤ live.par.clusters * 0x300000 ∧
    (∀ a ∈ [0x2FFFF8, 0x10000000, 0x17FFFFF8], live.paddockRange a 8 = true ∧ live.hostWaits (live.bar2ReadGrants a 8) = false ∧
      live.hostWaits (live.bar2WriteGrants a (List.replicate 8 (some 0))) = false ∧ ∀ g ∈ groupsOf a 8, live.region g ≠ .dram) ∧
    live.bar2ReadGrants 0x10000000 8 ≠ [] ∧
    (let s := live.setSeq 0 { live.seq 0 with lock := some 32 }
     s.hostUp = true ∧ 7 ≤ s.stage ∧ (s.paddockRange 0x10000000 8 || s.dramRange 0x10000000 8) = true ∧
     s.hostWaits (s.bar2ReadGrants 0x10000000 8) = true ∧ s.hostWaits (s.bar2WriteGrants 0x10000000 (List.replicate 8 (some 0))) = true) ∧
    (let s := { live with mem := { live.mem with bad := [0x20] } }
     groupsOf 0x101 7 = [0x101 / 8 * 8] ∧ s.region 0x100 = .clusterSlice 0 ∧ s.serve 0x100 = .lost ∧
     (s.paddockRange 0x101 7 || s.dramRange 0x101 7) = true) := by decide +kernel

/-- An interface whose table masks no vector but 63. -/
def irq (power : PowerState) (on mask : Bool) (pba : Nat) (raised : List Nat) : State := { live with host := { live.host with
  power := power
  enable := on
  functionMask := mask
  pba := pba
  raised := raised
  table := (List.range 63).map fun v => (0x8000 + 16 * v + 12, 0) } }

theorem wit_InterruptsAndInterfaceResets :
    (irq .d0 true false 0 [62]).hostRuns = true ∧ (irq .d0 true false 0 [62]).host.raised = 62 :: [] ∧
    Tab.get 1 (irq .d0 true false 0 [62]).host.table (0x8000 + 16 * 62 + 12) % 2 = 0 ∧
    Tab.get 1 (irq .d0 true false 0 [63]).host.table (0x8000 + 16 * 63 + 12) % 2 = 1 ∧
    (irq .d0 true true 0 [0]).host.functionMask = true ∧ (irq .d0 true false (2 ^ 63) []).host.pba = 2 ^ 63 ∧
    (0xFFFFFFFE : BitVec 32).toNat % 2 = 0 ∧ live.on RST_CTRL_perst_warm = false ∧
    (let s := withRegs live [(RST_CTRL_perst_warm, 1), (FRAME_COUNT_count, 1)]
     s.on RST_CTRL_perst_warm = true ∧ s.health.shutdown = false ∧ s.pins.warmDue = 0 ∧ 1 ≤ s.rdN FRAME_COUNT_count) := by
  decide +kernel

/-! ### Scene ports and ingest -/

/-- Port 0 runs at 10.0.0.1 and FE80::7, in the group 225.1.1.1. -/
def scene : State := withRegs live [(PORT_CTRL_enable 0, 1), (PORT_STATUS_link 0, 1), (PORT_MAC_low 0, 1), (PORT_MAC_high 0, 0x200),
  (PORT_ADDR_ipv4 0, 0x0A000001), (PORT_GROUP_ipv4 0, 0xE1010101), (PORT_IPV6_w0 0, 7), (PORT_IPV6_w3 0, 0xFE800000),
  (PORT_ADDR_udp_scene 0, 5000)]
def ethernet (dst ty : Nat) (body : Bytes) : Bytes :=
  withFcs (beBytes 6 dst ++ beBytes 6 0x040000000009 ++ beBytes 2 ty ++ body)
def arp (target : Nat) : Bytes := ethernet 0xFFFFFFFFFFFF 0x0806
  (beBytes 8 0x0001080006040001 ++ beBytes 6 0x040000000009 ++ beBytes 4 0x0A000009 ++ beBytes 6 0 ++ beBytes 4 target)
def solicit (target : Nat) : Bytes :=
  let m := beBytes 4 0x87000000 ++ beBytes 4 0 ++ beBytes 16 target
  ethernet 0x3333FF000007 0x86DD (ip6Header 58 255 (0xFE800000 * 2 ^ 96 + 9) (0xFF02 * 2 ^ 112 + 7) m.length ++ m)
def overIp4 (proto dst : Nat) (m : Bytes) : Bytes :=
  ethernet 0x020000000001 0x0800 (ip4Header 1 proto 64 0x0A000009 dst m.length [] ++ m)
def echo (dst : Nat) : Bytes := overIp4 1 dst (beBytes 8 0x0800000000010002 ++ beBytes 8 77)
/-- A group query of 8 bytes (IGMPv2), and what IGMPv3 adds to it. -/
def query (g more : Nat) : Bytes := overIp4 2 0xE0000001 (beBytes 4 0x11000000 ++ beBytes 4 g ++ beBytes more 0)

theorem wit_ScenePortsCountAndAnswer : scene.subUp 0 0 = true ∧ fcsGood (arp 0) = true ∧
    fcsGood ((arp 0).set 3 (9 : Byte)) = false ∧
    (let b := overIp4 17 0x0A000001 (beBytes 8 (1234 * 2 ^ 48 + 5000 * 2 ^ 32 + 20 * 2 ^ 16) ++ beBytes 8 0 ++ beBytes 4 0)
     fcsGood b = true ∧ scene.sceneAccepts 0 (withoutFcs b) = true) ∧
    (let b := withoutFcs (arp 0); scene.sceneAccepts 0 b = false ∧ scene.ptpDatum 0 b 0 = false ∧ scene.ptpDatum 0 b 1 = false) ∧
    scene.port4 0 = 0x0A000001 ∧ scene.port6 0 = 0xFE800000 * 2 ^ 96 + 7 ∧ scene.group4 0 = 0xE1010101 ∧
    scene.on (PORT_CTRL_enable 0) = true := by decide +kernel

theorem wit_port_requests :
    (∀ a ∈ [0x0A000001, 0x0A000002], let b := withoutFcs (arp a); scene.answers 0 0 (arp a) = true ∧ etherType b = 0x0806 ∧
      fieldBe b (ipOffset b + 6) 2 = 1 ∧ fieldBe b (ipOffset b + 24) 4 = a) ∧
    (∀ a ∈ [0xFE800000 * 2 ^ 96 + 7, 0xFE800000 * 2 ^ 96 + 8], let b := withoutFcs (solicit a); let o := ipOffset b
      scene.answers 0 0 (solicit a) = true ∧ etherType b = 0x86DD ∧ fieldBe b (o + 6) 1 = 58 ∧ fieldBe b (o + 40) 1 = 135 ∧
      fieldBe b (o + 8) 16 ≠ 0 ∧ fieldBe b (o + 48) 16 = a) ∧
    (∀ a ∈ [0x0A000001, 0x0A000003], let b := withoutFcs (echo a); let o := ipOffset b
      scene.answers 0 0 (echo a) = true ∧ etherType b = 0x0800 ∧ fieldBe b (o + 9) 1 = 1 ∧ fieldBe b (ip4Body b) 2 = 0x0800 ∧
      fieldBe b (o + 16) 4 = a) ∧
    (∀ g ∈ [0, 0xE1010101, 0xE1010102], ∀ more ∈ [0, 4], let b := withoutFcs (query g more); let o := ipOffset b
      scene.answers 0 0 (query g more) = true ∧ etherType b = 0x0800 ∧ fieldBe b (o + 9) 1 = 2 ∧ fieldBe b (ip4Body b) 1 = 0x11 ∧
      fieldBe b (ip4Body b + 4) 4 = g ∧ (ip4Body b - o + 12 ≤ fieldBe b (o + 2) 2 ↔ more = 4)) := by decide +kernel

/-- A scene packet of a type, for a frame. -/
def packet (ty frame : Nat) (body : Bytes) : Bytes :=
  let h := leBytes 2 0x5653 ++ leBytes 1 1 ++ leBytes 1 ty ++ leBytes 2 0 ++ leBytes 2 (live.efN ING_SECTION_id) ++
    leBytes 4 frame ++ leBytes 2 body.length ++ leBytes 2 0
  h ++ leBytes 4 (crc32c (h ++ leBytes 4 0 ++ body)) ++ body
def frameHead (n : Nat) : Bytes := packet 1 n (leBytes 8 12345 ++ leBytes 2 2 ++ leBytes 1 1 ++ leBytes 1 3 ++ leBytes 4 0)
def cellHead (n x layers : Nat) : Bytes := packet 2 n (leBytes 1 x ++ leBytes 1 4 ++ leBytes 1 layers ++ leBytes 1 1 ++
  leBytes 8 0x10 ++ leBytes 4 5 ++ (List.range layers).flatMap fun i => leBytes 2 0x7000 ++ leBytes 2 i ++ leBytes 4 20)
def chunkOf (n off len : Nat) : Bytes := packet 3 n (leBytes 4 0x0403 ++ leBytes 4 off ++ leBytes len 1)
def guards (n r : Nat) : Bytes := packet 4 n (leBytes 4 r ++ leBytes 4 77)
def ingest : State := withRegs scene [(ING_STATE_target, 10), (ING_STATE_a_alive, 1)]

theorem wit_ScenePacketsAreSorted : ingest.portUp 0 = true ∧ ingest.target = 10 ∧
    (∀ p ∈ [(1, frameHead 10), (2, cellHead 10 3 2), (3, chunkOf 10 0 7), (4, guards 10 0)], fieldLe p.2 3 1 = p.1 ∧
      fieldLe p.2 0 2 = 0x5653 ∧ fieldLe p.2 2 1 = 1 ∧ crc32c (p.2.take 16 ++ leBytes 4 0 ++ p.2.drop 20) = fieldLe p.2 16 4 ∧
      fieldLe p.2 12 2 = p.2.length - 20 ∧ fieldLe p.2 6 2 = ingest.efN ING_SECTION_id ∧ fieldLe p.2 8 4 = 10) ∧
    (frameHead 10).length = 36 ∧ (cellHead 10 3 0).length = 36 ∧ (chunkOf 10 0 7).length = 35 ∧ (guards 10 0).length = 28 ∧
    (withRegs ingest [(ING_STATE_playback, 1)]).on ING_STATE_playback = true ∧
    -- late by 2^31 and by 1, and early by 2 and by 2^31 - 1
    (∀ n ∈ [9, 10 + 2 ^ 31], (10 + 2 ^ 32 - n) % 2 ^ 32 ≤ 2 ^ 31) ∧ (∀ n ∈ [12, 9 + 2 ^ 31], 2 ^ 31 < (10 + 2 ^ 32 - n) % 2 ^ 32) ∧
    ingest.bothLost = false ∧ (withRegs ingest [(ING_STATE_a_alive, 0)]).bothLost = true ∧ ingest.ing.cur.packets = [] ∧ ingest.ing.nxt.packets = [] ∧
    freeFabric ingest = true ∧
    (∃ t, exec (.frameHead 0 (frameHead 10)) ingest = .next t ∧ t.ing.cur.packets ≠ [] ∧ t.bothLost = false) :=
  ⟨by decide +kernel, by decide +kernel, by decide +kernel, by decide +kernel, by decide +kernel, by decide +kernel,
    by decide +kernel, by decide +kernel, by decide +kernel, by decide +kernel, by decide +kernel, by decide +kernel,
    by decide +kernel, by decide +kernel, by decide +kernel, ⟨_, rfl, by decide +kernel⟩⟩

def later (c : Instr) (s : State) : State := match exec c s with | .next t => t | _ => s

theorem wit_PacketsAreAssembledOrLost :
    (∀ b ∈ [frameHead 10, cellHead 10 3 2, cellHead 10 3 9, chunkOf 10 0 7, chunkOf 10 0 3, guards 10 31, frameHead 11, guards 11 32],
      ingest.goodPacket b = true) ∧ ingest.on ING_STATE_playback = false ∧ (10 + 1) % 2 ^ 32 = fieldLe (frameHead 11) 8 4 ∧
    ingest.target ≠ (ingest.target + 1) % 2 ^ 32 ∧ freeFabric ingest = true ∧
    (ingest.asm false).head = none ∧ ((later (.frameHead 0 (frameHead 10)) ingest).asm false).head ≠ none ∧
    ingest.cellHeadOk ((cellHead 10 3 2).drop 20) = true ∧ ingest.cellHeadOk ((cellHead 10 3 9).drop 20) = false ∧
    (ingest.cellAsm false (cellKey 3 4)).head = none ∧
    ((later (.cellHead 0 (cellHead 10 3 2)) ingest).cellAsm false (cellKey 3 4)).head ≠ none ∧
    (ingest.cellAsm false (cellKey 3 4)).chunks = [] ∧
    -- a chunk of 7 bytes is held; a copy of it, a shorter one at its offset, one that meets its end, and one past it
    (let s := later (.chunk 0 (chunkOf 10 0 7)) ingest
     let held := (s.cellAsm false (cellKey 3 4)).chunks
     freeFabric s = true ∧ (s.cellAsm false (cellKey 3 4)).head = none ∧ s.goodPacket (chunkOf 10 6 3) = true ∧
     held = [(0, 0, leBytes 7 1)] ∧
     (∀ x ∈ held, x.1 = 0 → ¬ (x.2.1 = 0 ∧ x.2.2.length = 3)) ∧ (∃ x ∈ held, x.1 = 0 ∧ 0 < x.2.1 + x.2.2.length ∧ x.2.1 < 0 + 3) ∧
     (∀ x ∈ held, x.1 = 0 → ¬ (x.2.1 = 6 ∧ x.2.2.length = 3)) ∧ (∃ x ∈ held, x.1 = 0 ∧ 6 < x.2.1 + x.2.2.length ∧ x.2.1 < 6 + 3) ∧
     (∀ x ∈ held, x.1 = 0 → x.2.1 ≠ 7 ∧ (7 + 3 ≤ x.2.1 ∨ x.2.1 + x.2.2.length ≤ 7))) ∧
    31 ∉ (ingest.asm false).guardKeys ∧ Tab.find (ingest.asm false).guards 31 = none ∧
    31 ∈ ((later (.guard 0 (guards 10 31)) ingest).asm false).guardKeys := by decide +kernel

/-- At 100 s, both streams alive or not, each with its latest packet at a time in seconds. -/
def streams (a b : Int) (seenA seenB : Nat) : State :=
  let s := withRegs ingest [(ING_STATE_a_alive, a), (ING_STATE_b_alive, b)]
  { s with
    clk := { s.clk with a := ⟨100, 0, 0⟩, free := ⟨100, 0, 0⟩ }
    ing := { s.ing with seenAt := [(0, seenA * 1000000000 * 2 ^ 32), (1, seenB * 1000000000 * 2 ^ 32)] } }
/-- Stream `j` is due. -/
def streamDue (u : State) (j : Nat) : Prop :=
  u.rd (if j = 0 then ING_STATE_a_alive else ING_STATE_b_alive) = 1 ∧
  Tab.get 0 u.ing.seenAt j + u.efN ING_TIME_loss_us * 1000 * 2 ^ 32 ≤ u.clk.free.units

theorem wit_streams_and_deadline :
    (let u := (streams 1 1 99 100).advance 0; ¬ streamDue u 1) ∧
    (∀ b ∈ [0, 1], let u := (streams 1 b 1 100).advance 0; streamDue u 0 ∧ ¬ streamDue u 1 ∧ u.rd ING_STATE_b_alive = b) ∧
    (let u := (streams 1 1 1 1).advance 0; streamDue u 0 ∧ streamDue u 1 ∧ Tab.get 0 u.ing.seenAt 1 = Tab.get 0 u.ing.seenAt 0) ∧
    (let u := (streams 1 1 2 1).advance 0; streamDue u 0 ∧ streamDue u 1 ∧ Tab.get 0 u.ing.seenAt 1 < Tab.get 0 u.ing.seenAt 0) ∧
    (let u := (ingest).advance 0; u.showUsable = false ∧ u.active < u.frame.startAt + nsUnits (u.efN FT_PERIOD_t_min_ns) -
      nsUnits (1000 * u.efN ING_TIME_margin_us)) ∧
    (∀ a ∈ [0, 1], ∀ done ∈ [0, 1], let u := (withRegs (streams a 0 1 1) [(ING_STATE_assembled, done)]).advance 0
      u.ftState = 1 ∧ u.ing.deadlineOver = false ∧ u.showUsable = false ∧ u.rd ING_STATE_assembled = done ∧
      u.rd ING_STATE_playback ≠ 1 ∧ u.bothLost = (a == 0) ∧
      u.frame.startAt + nsUnits (u.efN FT_PERIOD_t_min_ns) - nsUnits (1000 * u.efN ING_TIME_margin_us) ≤ u.active) := by
  unfold streamDue; decide +kernel

/-! ### The block codec, the encoder and the decoder slices -/

def ramp (w : Nat) : List Nat := (List.range 256).map fun i => (37 * i * i + 5) % 2 ^ w

theorem wit_BlockDecodesToItsSamples : ∀ w ∈ [8, 10, 12, 16], (ramp w).length = 256 ∧ (∀ v ∈ ramp w, v < 2 ^ w) ∧
    ∀ p ∈ [0, 1, 2, 3], p ≤ 3 := by decide +kernel

/-- A job at its first block, on link 3. -/
def job : EncJob := ⟨1, 0x200, 0x1000, 3, 5, 7, 0, false, false, 2, 0, 0, 0, false, false, 3, []⟩
/-- Cluster 0 with a descriptor of an op at the head of its encoder queue. -/
def encoding (op : Nat) : State := q1 (qKey 2 0 0) (words 0x100 [32 * op, 0x1000, 3 + 5 * 2 ^ 10 + 7 * 2 ^ 21, 0, 0] live)
def withJob (j : EncJob) (st : Int) (s : State) : State :=
  withRegs (s.setClu 0 { s.clu 0 with job := some j }) [(ENC_STATUS_state 0, st)]

theorem wit_EncoderDescriptorsActAndRowsCode :
    (∀ l ∈ [[0, 0x1000, 3 + 5 * 2 ^ 10 + 7 * 2 ^ 21, 0, 0], [0, 0x1001, 0, 0, 0], [256, 0x1000, 0, 0, 0], [0, 0x2FA000, 511 + 1023 * 2 ^ 10, 0, 0],
      [0, 0x2FA040, 0, 0, 0]], let s := q1 (qKey 2 0 0) (words 0x100 l live)
      s.headWith (encKey 0) 2 0 (fun e => bits (s.dword e 0) 5 2 == 0) = some d1 ∧ (s.clu 0).job = none ∧ (s.clu 0).failed = false ∧
      s.gated = false ∧ s.rdN (ENC_STATUS_state 0) ≠ 3 ∧ canRead s d1.addr 40 = true ∧ freeFabric s = true ∧
      (List.range 5).map (s.fetched d1 5).w = l) ∧
    (0x2FA000 + 24576 = 0x300000 * (0 + 1) ∧ live.par.tileLinks = 512 ∧ live.par.plots = 1024) ∧
    (∀ op ∈ [1, 2, 3], (encoding op).control 0 op = some d1 ∧ canRead (encoding op) d1.addr 40 = true ∧ freeFabric (encoding op) = true ∧
      ((encoding op).clu 0).job = none ∧
      (let s := withJob { job with stopped := true } 2 (encoding op)
       s.control 0 op = some d1 ∧ canRead s d1.addr 40 = true ∧ freeFabric s = true)) ∧
    d1.addr + 40 ≤ live.par.clusters * 0x300000 ∧ live.mem.bad = [] ∧
    (withJob job 1 live).rd (ENC_STATUS_state 0) = 1 ∧ (withJob job 1 live).rowReady 0 job 0 = true ∧
    (withJob job 1 live).slabRoom 3 524 = true ∧ (live.clu 0).parked = none := by decide +kernel

/-- Rows at the start, in the middle and at the end of the slab, with room in the window and without. -/
theorem wit_encoder_rows : ∀ n ∈ [0, 12, 36], let j := { job with next := n }; let s := q1 (qKey 2 0 0) (withJob j 1 live)
    (s.clu 0).job = some j ∧ (s.clu 0).parked = none ∧ s.rd (ENC_STATUS_state 0) = 1 ∧ s.stopped = false ∧ s.gated = false ∧
      s.rowReady 0 j (n / 12) = true ∧ freeFabric s = true ∧ wholeMemory s = true ∧
      j.input + 6144 * (n / 12) + 6144 ≤ 0x300000 * s.par.clusters ∧ s.slabRoom 3 6200 = true ∧ s.openLen 3 0 = 0 ∧
      (s.encEntry 0 j.ticket).isNone = true ∧ (q1 (qKey 2 0 0) (withJob { j with ticket := 4 } 1 live)).encEntry 0 4 = some d1 ∧
      s.carrier j.link = j.carrier ∧ n % 12 = 0 ∧ n < 48 ∧
      (let l := (s.setLnk 3 { s.lnk 3 with used := 0, window := 8000 }).lnk 3; l.used + 8000 ≤ l.window + l.granted) ∧
      (let l := (s.setLnk 3 { s.lnk 3 with used := 0, window := 30, granted := 0 }).lnk 3; l.window + l.granted < l.used + 31) ∧
      (s.setLnk 3 { s.lnk 3 with used := 0, window := 30, granted := 0 }).openLen 3 0 = 0 := by
  decide +kernel

theorem wit_encoder_input : (withJob job 1 live).readable (job.input + 6144 * (36 / 12)) 6144 :=
  readable_of (by decide +kernel) (by decide +kernel)

def layerBytes : Bytes := planeWidths.flatMap fun w => encodeBlock w [1] [] (List.replicate 256 3)
def decoding (w0 : Nat) : State := q1 (qKey 3 0 0) (words 0x100 [w0, 0x1000, layerBytes.length, 0x3000, 0] (place 0x1000 layerBytes live))
def decJob (ing : Bool) (frame err : Nat) : DecJob := ⟨ing, frame, cellKey 0 0, 0, 4, 0x3000, [], err, 5, 1, 0⟩
def layerJob (n : Nat) : LayerJob := ⟨n, cellKey 0 0, 0, layerBytes⟩
/-- A cell of one layer, on its way into a version slot, in the frame after the target where `after` says so. -/
def assembling (n : Nat) : State :=
  let s := (withRegs live [(ING_STATE_target, 10)]).setCellAsm (n == 11) (cellKey 0 0)
    ⟨some ⟨false, [1, 2, 3], 0, [⟨0, false, layerBytes.length⟩]⟩, [], [(0, 1)], 1, false, false⟩
  { s with ing := { s.ing with waiting := [layerJob n] } }

theorem wit_DecoderSlicesDecodeOrReject :
    (∀ w ∈ [0, 0x400, 0xC0, 0x300, 0x240], (decoding w).sliceIdle 0 = true ∧
      (decoding w).headWith (qKey 3 0 0) 3 0 (fun _ => true) = some d1 ∧ canRead (decoding w) d1.addr 48 = true ∧
      freeFabric (decoding w) = true ∧ canRead (decoding w) 0x1000 layerBytes.length = true ∧ ((decoding w).fetched d1 6).w 0 = w ∧
      ((decoding w).fetched d1 6).w 1 = 0x1000 ∧ ((decoding w).fetched d1 6).w 2 = layerBytes.length) ∧
    (∀ w ∈ [0x400, 0xC0, 0x300], w / 2 ^ 10 ≠ 0 ∨ w / 64 % 4 = 3 ∨ w / 256 % 4 = 3) ∧
    (∀ n ∈ [10, 11], let s := assembling n
      s.idleSlice = some 0 ∧ freeFabric s = true ∧ s.ing.waiting = [layerJob n] ∧
      s.jobDead (layerJob n) = false ∧ s.jobReady (layerJob n) = true ∧ s.asmOf (layerJob n).frame = some (n == 11) ∧
      ((s.cellAsm (n == 11) (cellKey 0 0)).head.map fun h => h.layers[0]?.map (·.predicted)) = some (some false) ∧
      (s.cellAsm (n == 11) (cellKey 0 0)).settled = false ∧ (s.cellAsm (n == 11) (cellKey 0 0)).slot ≠ 0) ∧
    (∀ j ∈ [decJob false 0 0, decJob false 0 7, decJob true 10 6], let s := { decoding 0 with dec := [(0, j)] }
      Tab.find s.dec 0 = some j ∧ (s.engQ (qKey 3 0 0)).entries.find? (fun e => e.ticket == j.desc) = some d1) := by
  decide +kernel

/-- Block headers that meet each rule of the table, for 12-bit samples. -/
theorem wit_block_errors :
    (let f (h : Nat) : List Nat := [h % 4, h / 4 % 16, h / 64 % 2, h / 128 % 2, h / 256 % 1024, h / 2 ^ 18]
     f 128 = [0, 0, 0, 1, 0, 0] ∧ f (2 ^ 18) = [0, 0, 0, 0, 0, 1] ∧ f (4 * 12) = [0, 12, 0, 0, 0, 0] ∧
     f (64 + 256 * 383) = [0, 0, 1, 0, 383, 0] ∧ f (256 * 384) = [0, 0, 0, 0, 384, 0] ∧ f (3 + 256 * 383) = [3, 0, 0, 0, 383, 0] ∧
     f (4 * 11 + 256 * 383) = [0, 11, 0, 0, 383, 0] ∧ 32 * 12 = 384) ∧
    fieldLe (leBytes 4 (3 + 256 * 383)) 0 4 = 3 + 256 * 383 := by decide +kernel

/-! ### Block engines and plot loaders -/

/-- A list descriptor at 0x100 in queue 1 of cluster 0. -/
def listAt (l : List Nat) : State := q1 (qKey 0 0 1) (words 0x100 l live)
def run (i : Nat) : ListRun := ⟨1, 4, 0x2000, 2, 7, true, i, i, []⟩
/-- A running list in cluster 0 whose command at index i has given words. -/
def running (i : Nat) (c : List Nat) : State :=
  let s := words (0x2000 + 32 * i) c (listAt [32, 0x2000, 2 + 7 * 2 ^ 16, 0])
  withRegs (s.setClu 0 { s.clu 0 with list := some (run i) })
    [(TRV_STATUS_state 0, 1), (SEQ_STATUS_logical 0, 0), (TRV_STATUS_band 0, 2)]

theorem wit_ListsStartAndRunInOrder :
    (∀ l ∈ [[0, 0x2000, 2, 0], [64, 0x2000, 2, 0], [0, 2 ^ 40, 2, 0], [0, 0x2000, 0, 0], [0, 0x2000, 2 ^ 48 + 1, 0], [0, 0x2001, 2, 0],
      [32, 0x17FFFFC0, 3, 0], [32, 0xCBFFFC0, 2, 0]], let s := listAt l
      s.engineOn 0 = true ∧ (s.clu 0).list = none ∧ s.headOf (qKey 0 0 1) = some d1 ∧ s.headOf (qKey 0 0 0) = none ∧
      (s.engQ (qKey 0 0 1)).entries = [d1] ∧ d1.addr + 32 ≤ s.par.clusters * 0x300000 ∧ s.mem.bad = [] ∧
      (List.range 3).map (s.fetched d1 3).w = l.take 3) ∧
    live.paddockRange 0x17FFFFC0 96 = false ∧ live.paddockRange 0xCBFFFC0 64 = true ∧
    (∀ i, i < 2 → ∀ c ∈ [[0, 0, 0, 0], [0, 1, 0, 0], [0x100, 0, 0, 0], [7, 0, 0, 0], [255, 0, 0, 0], [6 + 0xF00, 0, 0, 0],
      [6 + 0x1000, 0, 0, 0], [5, 0, 0, 0], [5 + 0x300, 0, 0, 0], [5 + 0xFE00, 0, 0, 0], [5 + 0xFF00, 0, 0, 0], [5 + 0x10300, 0, 0, 0],
      [5 + 0x200, 0, 0, 0]], let s := running i c
      s.engineOn 0 = true ∧ (s.clu 0).list = some (run i) ∧ (s.clu 0).sweep = none ∧ (s.clu 0).bandWait = 0 ∧ s.mem.bad = [] ∧
      freeFabric s = true ∧ (run i).words = [] ∧ 0x2000 + 32 * i + 32 ≤ s.par.clusters * 0x300000 ∧
      ((List.range 4).map fun j => s.word (0x2000 + 32 * i + 8 * j) 8) = c ∧ s.rdN (TRV_STATUS_band 0) = 2 ∧
      (s.engQ (qKey 0 0 1)).entries.find? (fun e => e.ticket == 4) = some d1) ∧
    (let s := withRegs live [(SEQ_STATUS_logical 0, 0), (SEQ_STATUS_logical 1, 1)]
     let u := (s.setClu 0 { s.clu 0 with bandWait := 3 }).setClu 1 { s.clu 1 with band255 := true }
     u.stopped = false ∧ (∃ x ∈ u.serving, (u.clu x).bandWait = 3) ∧
     ∀ x ∈ u.serving, (u.clu x).bandWait = 3 ∨ ((u.clu x).band255 = true ∧ (u.clu x).bandWait = 0)) := by decide +kernel

/-- The first word of a SHEAR. -/
def shear0 (plot b count bufs wm wait out : Nat) : Nat :=
  1 + plot * 2 ^ 8 + b * 2 ^ 19 + count * 2 ^ 28 + (bufs - 1) * 2 ^ 38 + wm * 2 ^ 41 + wait * 2 ^ 45 + out * 2 ^ 47
/-- A patch head: layers, flags, plot. -/
def patchHead (l fl plot : Nat) : Bytes := List.replicate 22 1 ++ leBytes 1 l ++ leBytes 1 fl ++ leBytes 4 plot ++ leBytes 4 1
def shearing (c : List Nat) (h : Bytes) : State :=
  let s := running 0 c
  place 0x10000 h s

/-- The last bearing of a sweep, with halving or without, beside a store of the rays of an even bearing. -/
def sweepAt (halving : Bool) (first next : Nat) : Sweep := ⟨5, first, next + 1 - first, 4, 2, true, 0x10000, 0x60000, 32, 16, 13107, 4096, halving,
  [], 7, patchHead 0 1 5, List.replicate 4096 ⟨[1, 2, 3], false⟩, none, [], next⟩

theorem wit_ShearSweepsABearing :
    (∀ c ∈ [[shear0 5 3 0 1 2 0 1, 0x10000, 0x60000, 0], [shear0 5 3 513 1 2 0 1, 0x10000, 0x60000, 0],
      [shear0 5 3 1 1 2 0 1 + 2 ^ 48, 0x10000, 0x60000, 0], [shear0 5 3 1 1 2 0 1, 0x10000, 0x60000, 2 ^ 32],
      [shear0 5 3 1 1 2 1 1, 0x10001, 0x60000, 0], [shear0 5 3 1 1 2 1 1, 0x2FFFC1, 0x60000, 0],
      [shear0 5 511 2 1 2 0 1, 0x10000, 0x60000, 0], [shear0 5 511 1 1 2 0 1, 0x10000, 0x60000, 0],
      [shear0 2047 3 1 1 2 0 1, 0x10000, 0x60000, 0], [shear0 5 3 1 2 15 0 1, 0x10000, 0x60000, 0],
      [shear0 5 3 1 1 15 0 1, 0x10000, 0x2FA000, 0], [shear0 5 3 1 1 2 1 1, 0x10000, 0x60000, 1]], let s := shearing c (patchHead 0 1 5)
      s.engineOn 0 = true ∧ (s.clu 0).list = some (run 0) ∧ (s.clu 0).sweep = none ∧ s.mem.bad = [] ∧ freeFabric s = true ∧
      (run 0).index + 1 < (run 0).count ∧
      ((List.range 4).map fun i => s.word (0x2000 + 8 * i) 8) = c ∧ fieldLe (s.bytes 0x10000 64) 24 2 = 5 ∧
      commonBase ≤ 64 * s.efN TRV_GLOBAL_progress_base) ∧
    (live.efN RAY_GEOM_bear_h * live.efN RAY_GEOM_bear_v = 512 ∧ live.plots ≤ 2047 ∧ 5 < live.plots ∧ live.linked 5 = true ∧
      ticketDone (live.engQ (qKey 1 0 0)).done 0 = true ∧ ticketDone (live.engQ (qKey 1 0 0)).done 1 = false ∧
      live.ef GOV_HALVE_halving ≠ 1 ∧ live.rd (WM_STATE_held 0 2) ≠ 1 ∧ (withRegs live [(WM_STATE_held 0 2, 1)]).rd (WM_STATE_held 0 2) = 1) ∧
    (∀ h ∈ [patchHead 0 1 6, patchHead 0 0 5, patchHead 0 5 5, patchHead 17 1 5, patchHead 18 1 5],
      (shearing [shear0 5 3 1 1 2 0 1, 0x10000, 0x60000, 0] h).bytes 0x10000 32 = h) := by
  decide +kernel

/-- Cluster 0 with a sweep. -/
def sweeping (x : Sweep) : State :=
  let s := shearing [1, 0, 0, 0] (patchHead 0 1 5)
  s.setClu 0 { s.clu 0 with sweep := some x }

theorem wit_sweep (x : Sweep) : ((sweeping x).clu 0).sweep = some x := rfl

theorem wit_sweep_store (h : Bool) (a b : Nat) : (sweepAt h a b).store.length = 4096 ∧ ∀ y ∈ (sweepAt h a b).store, y.d.length = 3 := by
  refine ⟨List.length_replicate, fun y hy => ?_⟩
  rw [List.eq_of_mem_replicate hy]
  rfl

theorem wit_bearing_starts :
    (∀ x ∈ [sweepAt false 3 4, sweepAt false 3 5, sweepAt true 3 4, sweepAt true 3 5], let t := sweeping x
      x.outMode = true ∧ x.next + 1 = x.bFirst + x.bCount ∧ x.bFirst ≤ x.next ∧
      (∀ held ∈ [0, 1], (withRegs t [(WM_STATE_held 0 3, held)]).rd (WM_STATE_held 0 3) = held) ∧
      t.sliceRange 0 x.patch (64 + 163840 * fieldLe x.head 22 1) = true ∧
      (∀ i ∈ [1, 2], t.sliceRange 0 (x.ringBase + 24576 * i) 24576 = true) ∧ 0 < x.ring ∧ x.wmBase + 2 < 16 ∧
      freeFabric t = true ∧ commonBase ≤ 64 * t.efN TRV_GLOBAL_progress_base) ∧
    (sweepAt true 3 5).next % max 1 (sweepAt true 3 5).bearH % 2 = 1 ∧ (sweepAt true 3 4).next % max 1 (sweepAt true 3 4).bearH % 2 ≠ 1 := by
  decide +kernel

/-- The first word of a rectangle command: op, element size code, width, height, alpha source, alpha, and composited values. -/
def rect0 (op e w h source alpha comp : Nat) : Nat :=
  op + e * 2 ^ 8 + w * 2 ^ 13 + h * 2 ^ 25 + source * 2 ^ 37 + alpha * 2 ^ 39 + comp * 2 ^ 49
def strided (a n : Nat) : Nat := a + n * 2 ^ 40

/-- FILL, COPY and BLEND: each error, each alpha source, and rectangles that abut or end with the slices. -/
theorem wit_RectangleCommandsWriteTheirElements :
    (∀ c ∈ [[rect0 3 6 3 2 1 0 0, 5, strided 0x8000 48, 0], [rect0 3 7 3 2 0 0 0, 5, strided 0x8000 48, 0],
      [rect0 3 3 3 2 0 0 0, 5, strided 0x8001 48, 0], [rect0 3 6 3 2 0 0 0, 5, strided 0x8000 48, 7],
      [rect0 2 1 4 2 0 0 0, strided 0x8000 8, strided 0x8010 8, 1], [rect0 2 1 4 2 0 0 0, strided 0x8000 8, strided 0x8010 8, 0],
      [rect0 2 1 4 2 0 0 0, strided 0x8001 8, strided 0x8010 8, 0], [rect0 2 7 4 2 0 0 0, strided 0x8000 8, strided 0x8010 8, 0],
      [rect0 4 3 4 2 0 1023 1, strided 0x8000 24, strided 0x8030 24, 0], [rect0 4 3 4 2 0 0 1, strided 0x8001 24, strided 0x8030 24, 0],
      [rect0 4 3 4 2 2 0 1, strided 0x8000 24, strided 0x8030 24, strided 0x8060 8],
      [rect0 4 3 4 2 1 0 1, strided 0x8000 24, strided 0x8030 24, 0], [rect0 4 5 4 2 1 0 0, strided 0x8000 40, strided 0x8050 40, 0],
      [rect0 4 5 4 2 0 511 0, strided 0x8000 40, strided 0x8050 40, 0],
      [rect0 4 5 4 2 2 0 0, strided 0x8000 40, strided 0x8050 40, strided 0x80A0 8],
      [rect0 4 5 4 2 1 1 0, strided 0x8000 40, strided 0x8050 40, 0],
      [rect0 3 6 3 2 0 0 0, 5, strided 0x17FFFFD0 48, 0], [rect0 3 7 3 2 0 0 0, 5, strided 0x17FFFFFD 3, 0],
      [rect0 2 1 4 2 0 0 0, strided 0x17FFFFF8 8, strided 0x8010 8, 0], [rect0 4 3 4 2 0 0 1, strided 0x8000 24, strided 0x17FFFFE8 24, 0],
      [rect0 4 0 4 2 0 0 0 + 2 ^ 50, strided 0x8000 24, strided 0x8030 24, 0]], let s := running 0 c
      s.engineOn 0 = true ∧ (s.clu 0).list = some (run 0) ∧ (s.clu 0).sweep = none ∧ s.mem.bad = [] ∧ freeFabric s = true ∧
      ((List.range 4).map fun i => s.word (0x2000 + 8 * i) 8) = c) ∧
    (let w := rect0 4 5 4 2 2 0 0
     w % 2 ^ 8 = 4 ∧ w / 2 ^ 8 % 8 = 5 ∧ w / 2 ^ 13 % 2 ^ 12 = 4 ∧ w / 2 ^ 25 % 2 ^ 12 = 2 ∧ w / 2 ^ 37 % 4 = 2 ∧
     w / 2 ^ 39 % 2 ^ 10 = 0 ∧ w / 2 ^ 49 % 2 = 0 ∧ w / 2 ^ 50 = 0 ∧ rect0 3 6 3 2 1 0 0 / 2 ^ 37 ≠ 0 ∧ rect0 3 6 3 2 0 0 0 / 2 ^ 37 = 0) ∧
    -- rectangles whose second row, or whose rows, lie past the end of paddock
    (live.paddockRange 0x18000000 48 = false ∧ live.paddockRange 0x18000000 3 = false ∧ live.paddockRange (0x17FFFFF8 + 8) 8 = false ∧
      live.paddockRange (0x17FFFFE8 + 24) 24 = false ∧ ∀ y, y < 2 → live.paddockRange (0x8000 + 48 * y) (1 * 3) = true ∧
        live.paddockRange (0x8000 + 8 * y) (1 * 4) = true ∧ live.paddockRange (0x8010 + 8 * y) (1 * 4) = true) ∧
    -- the elements of one rectangle end where the other begins
    (0x8000 + 40 * (2 - 1) + 10 * 4 = 0x8050 ∧ 10 * 4 ≤ 40 ∧ 0x8050 + 40 * (2 - 1) + 10 * 4 = 0x80A0 ∧
      0x80A0 + 8 * (2 - 1) + 2 * 4 ≤ live.par.clusters * 0x300000) := by decide +kernel

/-- A PLOT_LOAD descriptor in queue 0 of cluster 0, and a layer set at 0x3000 of one plot whose own cell has an entry. -/
def loading (l : List Nat) (own : Nat) : State :=
  q1 (qKey 1 0 0) (words 0x100 l (words (0x3040 + 16 * 4) [own] (place 0x3000 (leBytes 4 77 ++ [1, 1]) live)))
def cellEntry (l stale cold : Nat) : Nat := 0x10000 + l * 2 ^ 40 + stale * 2 ^ 44 + cold * 2 ^ 45

theorem wit_PlotLoadBuildsThePatch :
    (∀ l ∈ [[0, 0x3000, 0, 0x100000, 0, 0], [64, 0x3000, 0, 0x100000, 0, 9], [64, 0x3000, 0, 0x100000, 0, 0], [0, 0x3001, 0, 0x100000, 0, 0],
      [0, 0x3000, 0, 0x300000, 0, 0], [0, 0x3000, 0, 0x2FFFC0, 0, 0], [0, 0x3000, 0, 0x100000, 8, 0], [0, 0x20000000, 0, 0x100000, 0, 0],
      [0, 0x3000, 1, 0x100000, 0, 0]], ∀ own ∈ [cellEntry 1 1 0, cellEntry 1 0 0, cellEntry 1 0 1], let s := loading l own
      s.stopped = false ∧ (s.clu 0).failed = false ∧ (s.clu 0).loaderLost = false ∧ s.gated = false ∧ s.engineDown 1 0 = false ∧
      s.headOf (qKey 1 0 0) = some d1 ∧ wholeMemory s = true ∧ freeFabric s = true ∧ (List.range 6).map (s.fetched d1 6).w = l) ∧
    d1.addr + 56 ≤ live.par.clusters * 0x300000 ∧ d1.addr + 56 ≤ 0x100000 ∧
    ticketDone (live.engQ (qKey 0 0 0)).done 0 = true ∧ ticketDone (live.engQ (qKey 0 0 0)).done 9 = false ∧
    live.paddockRange 0x20000000 64 = false ∧ live.dramRange 0x20000000 64 = false ∧ live.paddockRange 0x10000 (64 + 40960) = true ∧
    (∀ own ∈ [cellEntry 1 1 0, cellEntry 1 0 0, cellEntry 1 0 1], let s := loading [0, 0x3000, 0, 0x100000, 0, 0] own
     s.byte 0x3004 = 1 ∧ s.byte 0x3005 = 1 ∧ s.word 0x3080 8 = own ∧
     (∀ i, i < 9 → s.paddockRange (0x3000 + 64 + 16 * (i / 3 * 3 + i % 3)) 8 = true) ∧ s.paddockRange 0x10000 64 = true ∧
     (∀ i, i < 9 → i ≠ 4 → s.word (0x3000 + 64 + 16 * (i / 3 * 3 + i % 3)) 8 = 0)) ∧
    cellEntry 1 1 0 / 2 ^ 40 % 16 = 1 ∧ bit (cellEntry 1 0 1) 45 = true ∧ 0x100000 + 64 + 163840 ≤ 0x300000 := by decide +kernel

def queued (l : List QEntry) (s : State) : State := s.setEngQ (qKey 0 0 0) ⟨5, 2, l⟩
def finished (a ticket : Nat) : QEntry := ⟨a, ticket, 1, [], true, false⟩
/-- Clusters 0 and 1 at work, the spares idle that a mask names. -/
def spares (mask : Nat) (s : State) : State := withRegs s [(TRV_SPARE_idle, mask), (SEQ_STATUS_logical 0, 0), (SEQ_STATUS_logical 1, 1)]

theorem wit_DescriptorsCompleteAndClipJobsStart : live.queueExists 0 0 0 = true ∧
    (∀ w ∈ [3, 0x13], let s := queued [finished 0x100 3, ⟨0x140, 4, 1, [], false, false⟩] (words 0x100 [w] live)
      s.dword (finished 0x100 3) 0 = w ∧ (s.engQ (qKey 0 0 0)).entries = [] ++ finished 0x100 3 :: [⟨0x140, 4, 1, [], false, false⟩]) ∧
    ((queued [⟨0x140, 3, 1, [], false, false⟩, finished 0x100 4] live).engQ (qKey 0 0 0)).entries =
      [⟨0x140, 3, 1, [], false, false⟩] ++ finished 0x100 4 :: [] ∧
    (∀ m ∈ [0, 8, 15], let s := spares m live
      (s.clu 0).failed = false ∧ (∀ q, q < 8 → ∀ e ∈ (s.engQ (qKey 0 0 q)).entries ++ (s.engQ (qKey 2 0 0)).entries, e.addr + 64 ≤ dramBase) ∧
      7 ≤ s.stage ∧ s.inS4 = false ∧ s.logical 0 ≠ 0x7F ∧
      s.fm.standing.contains (.cluster (s.logical 0)) = false ∧ s.recoveringSev (.cluster (s.logical 0)) = none) ∧
    (let s := withRegs (spares 15 (loaded live)) [(SEQ_STATUS_state 0, 2), (MSH_PROG_active, 0x10000080)]
     let s := s.setClu 0 { s.clu 0 with startDue := true }
     (s.clu 0).startDue = true ∧ (s.clu 0).failed = false ∧ s.logical 0 ≠ 0x7F ∧ s.stopped = false ∧
     s.program = some frameImage ∧ frameImage.section_ 2 = some ⟨2, 64, 64, 0x10002000⟩) := by decide +kernel

/-- A clip descriptor for a region of one megabyte, beside a job whose region ends or begins there, or overlaps it. -/
theorem wit_clip_jobs : ∀ base ∈ [2 ^ 36, 2 ^ 36 + 2 ^ 20 - 1, 2 ^ 36 + 2 ^ 20],
    let s := words 0x100 [0, base, 2 ^ 20, 5, 9] live
    let p := { s with ing := { s.ing with playJob := some ⟨3, 2 ^ 36, 2 ^ 20, 0, false, 0, 0, 0, 0⟩ } }
    let r := { s with ing := { s.ing with recJob := some ⟨3, 2 ^ 36, 2 ^ 20, 0, false, 0, 0⟩ } }
    (q1 (qKey 4 0 0) p).headOf (qKey 4 0 0) = some d1 ∧ (q1 (qKey 4 0 1) r).headOf (qKey 4 0 1) = some d1 ∧ s.stopped = false ∧
      s.engineDown 4 0 = false ∧ canRead (q1 (qKey 4 0 0) p) d1.addr 48 = true ∧ canRead (q1 (qKey 4 0 1) r) d1.addr 48 = true ∧
      freeFabric (q1 (qKey 4 0 0) p) = true ∧ freeFabric (q1 (qKey 4 0 1) r) = true ∧
      p.ing.recJob = none ∧ r.ing.playJob = none ∧ (List.range 5).map (s.fetched d1 6).w = [0, base, 2 ^ 20, 5, 9] := by
  decide +kernel

/-! ### Correction tables -/

/-- A table loader descriptor, and a shadow fault map that lists entry 4 of plot 0, entry 8 of plot 1023 and no other. -/
def correcting (op plot v : Nat) : State :=
  let s := q1 (qKey 5 0 0) (words 0x100 [32 * op, plot + v * 2 ^ 32, 0, 0] live)
  let m := s.fmapShadow
  place (m + 0x2000) (leBytes 4 4 ++ leBytes 4 8) (words m ((2 ^ 32) :: List.replicate 1022 1 ++ [1 + 2 ^ 32]) s)

theorem wit_CorrectionTablesAreEdited :
    (∀ c ∈ [(1, 0, 4), (1, 0, 5), (1, 0, 3), (1, 1023, 4), (1, 1024, 4), (2, 0, 4), (2, 0, 5), (2, 1023, 8), (2, 1024, 8), (2, 0, 7), (3, 0, 0),
      (4, 0, 0), (7, 0, 0)], let s := q1 (qKey 5 0 0) (words 0x100 [32 * c.1, c.2.1 + c.2.2 * 2 ^ 32, 0, 0] live)
      s.stopped = false ∧ s.engineDown 5 0 = false ∧ s.headOf (qKey 5 0 0) = some d1 ∧ s.rd CORR_STATUS_resync = 0 ∧
      s.rdN CORR_STATUS_fmap_active < 2 ∧ wholeMemory s = true ∧ freeFabric s = true ∧ s.dword d1 0 / 2 ^ 5 % 8 = c.1 ∧
      s.dword d1 1 % 2 ^ 11 = c.2.1 ∧ s.dword d1 1 / 2 ^ 32 = c.2.2) ∧ live.par.plots = 1024 ∧
    live.region (commonBase + 64 * live.efN CORR_FMAP_base) = .common ∧
    live.region (commonBase + 64 * live.efN CORR_FMAP_base + 2 * 0x42000 - 1) = .common := by decide +kernel

/-- A shadow map whose last plot alone has entries, one and 65,536 of them. -/
theorem wit_fault_map : ∀ n ∈ [1, 65536], let s := place (live.fmapShadow + 0x2000) [4] (words (live.fmapShadow + 8 * 1023) [n * 2 ^ 32] live)
    let first (p : Nat) : Nat := s.word (s.fmapShadow + 8 * p) 8 % 2 ^ 17
    let count (p : Nat) : Nat := s.word (s.fmapShadow + 8 * p) 8 / 2 ^ 32
    first 0 = 0 ∧ (∀ p, p < 1023 → first (p + 1) = first p + count p) ∧
    (∀ p, p < 1024 → s.word (s.fmapShadow + 8 * p) 8 = first p + 2 ^ 32 * count p) ∧
    ((List.range 1024).map count).sum = n ∧ count 0 = 0 ∧ s.word (s.fmapShadow + 0x2000) 4 = 4 ∧
    s.fmapShadow = commonBase + 64 * s.efN CORR_FMAP_base + (1 - s.rdN CORR_STATUS_fmap_active) * 0x42000 := by decide +kernel

theorem wit_copy_in : ∀ c ∈ [(0x200, 0x10BF8, 8), (0x200, 0x7FFFF8, 8), (0x200, 0, 65536), (0x201, 0, 8), (0x200, 1, 8), (0x200, 0, 7),
      (0x200, 0, 65544), (0x200, 0x7FFFF8, 16), (0x20000000, 0, 8)],
    let s := q1 (qKey 5 0 0) (words 0x100 [0, c.1, c.2.1 + c.2.2 * 2 ^ 24, 0] live)
    let w := s.dword d1
    w 1 % 2 ^ 40 = c.1 ∧ w 2 % 2 ^ 24 = c.2.1 ∧ w 2 / 2 ^ 24 % 2 ^ 17 = c.2.2 ∧ s.paddockRange 0x200 65536 = true ∧
    s.paddockRange 0x20000000 8 = false ∧ s.dramRange 0x20000000 8 = false := by decide +kernel

theorem wit_window_and_resync : live.hostUp = true ∧ (0xFFFFFC : Nat) % 4 = 0 ∧ (0xFFFFF8 : Nat) % 8 = 0 ∧
    32 * (live.par.tileLinks / 2) = 0x2000 ∧ ((0x1FFF : Nat) < 0x2000 ∧ 0x13BFF % 0x1000 < 0xC00 ∧ ¬ 0x13C00 % 0x1000 < 0xC00) ∧
    (∀ i ∈ [0, 1], let u := withRegs live [(CORR_STATUS_resync, 1), (CORR_STATUS_fmap_active, i)]
      u.rd CORR_STATUS_resync = 1 ∧ u.rdN CORR_STATUS_fmap_active = i.toNat ∧ wholeMemory u = true ∧ freeFabric u = true ∧
      u.corr.waiting = [] ∧ u.region (commonBase + 64 * u.efN CORR_FMAP_base) = .common ∧
      u.region (commonBase + 64 * u.efN CORR_FMAP_base + 2 * 0x42000 - 1) = .common) := by decide +kernel

/-! ### Trust and NVM -/

/-- A header of a kind with one section of 16 bytes, its payload, and no more of the block than its magic. -/
def trustHeader (kind : Nat) : Bytes := leBytes 4 0x4C454843 ++ leBytes 2 1 ++ leBytes 2 kind ++ leBytes 2 0x10 ++ leBytes 2 0 ++ leBytes 2 1 ++
  leBytes 10 0 ++ leBytes 8 40 ++ List.replicate 96 0
def trustPayload : Bytes := leBytes 2 3 ++ leBytes 2 0 ++ leBytes 4 16 ++ leBytes 8 24 ++ leBytes 8 0x10003000 ++ List.replicate 16 7
/-- A trust descriptor of an op, with a source of n bytes at 0x8000 that holds given bytes. -/
def trusting (op n dst : Nat) (b : Bytes) : State :=
  let s := q1 (qKey 6 0 0) (words 0x100 [32 * op, 0x8000, n, dst, 0] (place 0x8000 b live))
  { s with
    trust := { s.trust with vendorHashes := List.replicate 4 (List.replicate 64 0), serial := 77 }
    mem := { s.mem with zonesOn := true } }
def image : Bytes := trustHeader 2 ++ trustPayload ++ leBytes 4 0x4E474953

theorem wit_TrustEngineVerifiesAndReports :
    (∀ op, op < 5 → let s := trusting op (168 + 5376) 0x10008000 image
      s.stopped = false ∧ s.engineDown 6 0 = false ∧ s.headOf (qKey 6 0 0) = some d1 ∧ wholeMemory s = true ∧ freeFabric s = true ∧
      s.nvm.writes = [] ∧ s.dword d1 0 / 2 ^ 5 % 8 = op ∧ s.dword d1 1 = 0x8000 ∧ s.dword d1 2 = 5544) ∧
    (let s := trusting 0 5544 0x10008000 image
     let h := s.bytes 0x8000 128
     let payload := s.bytes 0x8080 (fieldLe h 0x18 8)
     s.headerOk h payload = true ∧ s.paddockRange 0x8000 5544 = true ∧ s.overlapsProgram (sectionsOf h payload) = false ∧
     s.inLowerHalf 0x10008000 5504 = true ∧ sectionsOf h payload = [⟨3, 16, 24, 0x10003000⟩] ∧ 0x10003000 + 16 ≤ 0x10008000 ∧
     fieldLe (s.bytes 0x80A8 16) 0 4 = 0x4E474953) := by decide +kernel

/-- The checks of an image or a record, over the functions that the kernel cannot evaluate. -/
def trustChecks (sha : Bytes → Bytes) (ed ml : Bytes → Bytes → Bytes → Bool) (s : State) (h payload b : Bytes) (c : Nat) : Bool :=
  let signer := fieldLe b 4 1
  let slot := fieldLe b 5 1
  let m := h ++ b.take 2000
  let key := sha ((b.drop 16).take 1984)
  (c == 3 && decide (fieldLe b 0 4 ≠ 0x4E474953 ∨ 2 ≤ fieldLe b 6 2 ∨ fieldLe b 8 8 ≠ 0 ∨ fieldLe b 5373 3 ≠ 0)) ||
  (c == 4 && !((signer == 0 && decide (slot < 4) && !s.trust.revoked.getLsbD slot && s.trust.vendorHashes[slot]? == some key) ||
    (signer == 1 && decide (slot < 4) && bit (s.nvmByte 0x24001).toNat slot && s.nvmBytes (0x24040 + 64 * slot) 64 == key))) ||
  (c == 5 && !ed ((b.drop 16).take 32) m ((b.drop 2000).take 64)) || (c == 6 && !ml ((b.drop 48).take 1952) m ((b.drop 2064).take 3309)) ||
  (c == 2 && sha payload != (h.drop 0x40).take 64) || (c == 7 && decide (fieldLe h 0x10 4 < (s.tally (if signer = 0 then 4 else 5)).1)) ||
  (c == 8 && signer == 0 && s.nvmByte 0x24000 != 1)

/-- With a hash that gives the zeros which stand in the header and in the vendor slots, and verifications that pass, an image
passes every check; with a magic that is wrong it fails check 3, whatever the functions are. -/
theorem wit_trust_outcomes :
    (let s := trusting 0 5544 0x10008000 image
     ∀ c, c < 16 → trustChecks (fun _ => List.replicate 64 0) (fun _ _ _ => true) (fun _ _ _ => true) s (s.bytes 0x8000 128)
      (s.bytes 0x8080 40) (s.bytes 0x80A8 5376) c = false) ∧
    (let s := trusting 0 5544 0x10008000 (trustHeader 2 ++ trustPayload)
     fieldLe (s.bytes 0x80A8 16) 0 4 ≠ 0x4E474953) := by decide +kernel

/-- Owner records of each op, at their counter and for their chip, and one for another chip. -/
def record_ (op slot policy serial : Nat) : Bytes := leBytes 4 0x4C524E45 ++ leBytes 1 op ++ leBytes 1 slot ++ leBytes 1 policy ++ leBytes 1 0 ++
  leBytes 8 serial ++ leBytes 8 1 ++ List.replicate 104 0

theorem wit_trust_records : ∀ r ∈ [record_ 1 3 0 77, record_ 2 3 0 77, record_ 3 0 1 77, record_ 4 3 0 77, record_ 2 0 0 76],
    let s := trusting 3 5504 0 (r ++ leBytes 4 0x4E474953)
    let body := s.bytes 0x8000 128
    bodyFormed body = true ∧ s.paddockRange 0x8000 5504 = true ∧ s.opRefused body (s.bytes 0x8080 5376) = (fieldLe body 4 1 == 0) ∧
      (s.tally 3).1 + 1 = fieldLe body 16 8 ∧ s.trust.serial.toNat = 77 := by decide +kernel

/-- An NVM descriptor of an op at its bank, its operand word and its data address. -/
def nvmAt (bank op w data : Nat) (s : State) : State := q1 (qKey 7 bank 0) (words 0x100 [32 * op, w, data, 0] s)
/-- A page is being written. -/
def writing (page : Nat) : State := { live with nvm := { live.nvm with writes := [⟨page, List.replicate 64 1, none⟩] } }
/-- The BOARD partition has passwords, which no 16 bytes match. -/
def passworded : State := { live with nvm := { live.nvm with passwords := [(0, [1]), (1, [1])] } }

theorem wit_NvmDescriptorsRunOnTheirBank :
    (∀ b, b < 4 → ∀ op, op < 8 → let s := nvmAt b op (0x20000 * b + 0x1FFC0 + 2 ^ 48) 0x400 (writing (2048 * ((b + 1) % 4)))
      s.stopped = false ∧ s.engineDown 7 b = false ∧ s.headOf (qKey 7 b 0) = some d1 ∧ (∀ x ∈ s.nvm.writes, x.page / 2048 ≠ b) ∧ s.mem.bad = [] ∧
      s.dword d1 0 / 2 ^ 5 % 8 = op ∧ s.dword d1 1 % 2 ^ 19 = 0x20000 * b + 0x1FFC0 ∧ s.dword d1 1 / 2 ^ 48 = 1) ∧
    live.nvm.bad = [] ∧ partOf (0x40 / 64) = none ∧ partOf (0x8000 / 64) = some 0 ∧ partOf (0x7FFC0 / 64) = some 4 ∧
    writeRoute (0x8000 / 64) = true ∧ writeRoute (0x24000 / 64) = false ∧ live.nvmLocked 0 0 = false ∧ live.nvmLocked 0 1 = false ∧
    passworded.nvmLocked 0 0 = true ∧ passworded.nvmLocked 0 1 = true ∧ live.password 4 1 = [] ∧
    (live.tally 8).1 < 2 ^ 63 - 1 ∧
    (let s := { live with nvm := { live.nvm with cells := (List.range 8).map fun i => (0x20000 + 512 * 8 + i, if i = 7 then 0x7F else 0xFF) } }
     (s.tally 8).1 = 2 ^ 63 - 1) ∧
    8 ≤ (withRegs live [(NVM_LOCKS_fails, 8)]).rdN NVM_LOCKS_fails ∧ (withRegs live [(NVM_LOCKS_fails, 7)]).rdN NVM_LOCKS_fails < 8 := by
  decide +kernel

theorem wit_password_differs (pw : Bytes) : passworded.password 0 0 ≠ [] ∧ passworded.password 0 0 ≠ (Config.sha512 pw).toList := by
  refine ⟨by decide +kernel, fun h => ?_⟩
  have hl : (passworded.password 0 0).length = 1 := by decide +kernel
  rw [h] at hl
  simp at hl

/-- The oldest write of bank 2 stands between writes of other banks. -/
theorem wit_nvm_commit : let pre : List PageWrite := [⟨0x100, List.replicate 64 1, none⟩]
    let x : PageWrite := ⟨0x1000, List.replicate 64 2, some (4, 0)⟩
    let rest : List PageWrite := [⟨0x1001, List.replicate 64 3, none⟩]
    let u := { live with nvm := { live.nvm with writes := pre ++ x :: rest } }
    u.nvm.writes = pre ++ x :: rest ∧ x.page / 2048 = 2 ∧ (∀ y ∈ pre, y.page / 2048 ≠ 2) ∧ (∀ y ∈ rest, y.page ≠ x.page) ∧
    x.data.length = 64 ∧ (∀ y ∈ u.nvm.writes, y.page / 2048 ≠ 3) ∧ ({ live with nvm := { live.nvm with host := some ⟨3, List.replicate 64 1, 1⟩ } } : State).nvm.host =
      some ⟨3, List.replicate 64 1, 1⟩ := by decide +kernel

/-! ### Datums and PTP -/

def clocked (o : Int) (r : Nat) : State :=
  let s := withRegs live [(CLK_STATUS_m0_lock, 1)]
  { s with clk := { s.clk with offset := o, slewRem := r, free := ⟨5, 999999998, 3⟩, a := ⟨7, 1, 0⟩, b := ⟨0, 0, 5⟩ } }

/-- Datum A, whose latest Sync came at a time in seconds, at 2 s. -/
def synced (lost : Int) (seen : Nat) : State :=
  let s := withRegs live [(CLK_STATUS_m0_lock, 1), (DATUM_CTRL_auto_switch, 1), (DATUM_lock 1, 1), (DATUM_STATE_b_lost, 0), (DATUM_STATE_a_lost, lost)]
  { s with clk := { s.clk with free := ⟨2, 0, 0⟩, syncAt := [(0, seen * 1000000000 * 2 ^ 32)] } }

abbrev syncDue (u : State) : Prop :=
  u.rd DATUM_STATE_a_lost ≠ 1 ∧ Tab.get 0 u.clk.syncAt 0 + u.efN (DATUM_loss_ms 0) * 1000000 * 2 ^ 32 ≤ u.clk.free.units

theorem wit_DatumsRunAndPtpFramesAreStamped : (clocked 0 0).rd CLK_STATUS_m0_lock = 1 ∧
    (synced 1 1).rd DATUM_STATE_a_lost = 1 ∧ ¬ syncDue ((synced 0 2).advance 0) ∧ syncDue ((synced 0 1).advance 0) ∧
    (let u := (synced 0 1).advance 0
     u.rdN DATUM_STATE_active = 0 ∧ u.rd DATUM_CTRL_auto_switch = 1 ∧ u.rd DATUM_STATE_b_lost = 0 ∧ u.rd (DATUM_lock 1) = 1) ∧
    (let moved := 999999999 + 1 * (clocked 5 0).efN DATUM_CTRL_slew_ppb * 2 ^ 33
     ∀ o ∈ [((moved / 1000000000 : Nat) : Int), -((moved / 1000000000 : Nat) : Int)], o ≠ 0 ∧ o.natAbs ≤ moved / 1000000000) ∧
    ((clocked 5 3).clk.offset.natAbs ≤ (3 + 1 * (clocked 5 3).efN DATUM_CTRL_slew_ppb * 2 ^ 33) / 1000000000) ∧
    (3 + 0 * (clocked 5 3).efN DATUM_CTRL_slew_ppb * 2 ^ 33) / 1000000000 < (clocked 5 3).clk.offset.natAbs ∧
    (let n : Int := (clocked 5 3).clk.free.units + 100000 * 2 ^ 33; n < 2 ^ 48 * 1000000000 * 2 ^ 32) := by decide +kernel

theorem wit_no_slabs (m : Nat) : ((clocked 5 3).lnk m).buffer = [] := rfl

/-- A PTP frame of a message type to an address, without its FCS. -/
def ptpFrame (type dst : Nat) : Bytes := beBytes 6 dst ++ beBytes 6 5 ++ beBytes 2 0x88F7 ++ beBytes 1 type ++ beBytes 1 2 ++ beBytes 42 0
def ptpOn (s : State) : State := withRegs s [(PORT_CTRL_enable 0, 1), (PORT_STATUS_link 0, 1), (DATUM_ports 0, 1)]
/-- A frame that waits on port 0 behind n timestamps. -/
def sending (n : Nat) (type : Nat) : State :=
  { (place 0x10004000 (ptpFrame type 5) live) with ptp := [(0, ⟨[⟨3, 0x10004000 / 64, 58⟩], List.replicate n ⟨1, 2, 3, 4⟩⟩)] }

theorem wit_ptp : (ptpFrame 0 0x011B19000000).length = 58 ∧ bit ((ptpOn live).rdN (PORT_STATUS_link 0)) 0 = true ∧
    bit ((ptpOn live).rdN (PORT_STATUS_link 0)) 3 = false ∧ (ptpOn live).ptpDatum 0 (ptpFrame 0 0x011B19000000) 0 = true ∧
    (ptpOn live).ptpDatum 0 (ptpFrame 0 5) 0 = false ∧ (ptpOn live).ptpDatum 0 (ptpFrame 0 5) 1 = false ∧
    (let s := withRegs (ptpOn live) [(PTP_RX_head 0, 31), (PTP_RX_tail 0, 65535)]; (s.rdN (PTP_RX_head 0) + 65536 - s.rdN (PTP_RX_tail 0)) % 65536 = 32) ∧
    (let a := 64 * (ptpOn live).efN (PTP_RX_ring 0) + 2048 * 31; live.region a = .common ∧ live.region (a + 2047) = .common) ∧
    wholeMemory (ptpOn live) = true ∧ freeFabric (ptpOn live) = true ∧ canRead (sending 0 0) (64 * (0x10004000 / 64)) 58 = true ∧ ptpHeader (ptpFrame 0 0x011B19000000) = some (0, 14) ∧ ptpType (ptpFrame 0 0x011B19000000) 14 = 0 ∧
    ptpType (ptpFrame 8 0x011B19000000) 14 = 8 ∧ ((sending 31 0).ptpPort 0).tsq.length = 31 ∧ ((sending 32 0).ptpPort 0).tsq.length = 32 ∧
    ((sending 0 0).ptpPort 0).tx = ⟨3, 0x10004000 / 64, 58⟩ :: [] ∧ ptpEvent ((sending 0 0).bytes 0x10004000 58) = true ∧
    ptpEvent ((sending 0 9).bytes 0x10004000 58) = false := by decide +kernel

/-! ### Periods and rest -/

/-- The smallest member with cluster 0 at work, at a time in seconds. -/
def small (sec : Nat) (l : List (Nat × Int)) : State :=
  let s := withRegs { live with part := .t2 } ([(CLK_STATUS_m0_lock, 1), (SEQ_STATUS_logical 0, 0)] ++ l)
  { s with clk := { s.clk with a := ⟨sec, 5, 0⟩, free := ⟨sec, 7, 0⟩ } }
def doneAt (s : State) : State := s.setClu 0 { s.clu 0 with band255 := true }
def elapsedOf (s : State) : Int := s.active - s.frame.startAt

theorem wit_PeriodsLatchAndStart :
    (let u := (doneAt (small 20 [])).advance 0
     u.rdN FT_STATE_state = 1 ∧ u.stopped = false ∧ (∀ c ∈ u.serving, (u.clu c).band255 = true ∧ u.frameListBusy c = false) ∧
     (∀ c, c < u.par.clusters → u.encBusy c = false) ∧ (∀ x ∈ u.links, x.2.unsent = 0) ∧ u.imageAt u.frame.progNext = none) ∧
    (let u := (small 20 []).advance 0; ¬ (∀ c ∈ u.serving, (u.clu c).band255 = true) ∧ u.ef FT_PERIOD_mode = 0 ∧
      (u.efN FT_PERIOD_t_max_ns : Int) * 2 ^ 32 - (1000 * u.efN FT_PERIOD_latch_guard_us : Nat) * 2 ^ 32 ≤ elapsedOf u) ∧
    (let u := (small 20 [(FT_STATE_state, 2), (ING_STATE_assembled, 1)]).advance 0
     (u.efN FT_PERIOD_t_min_ns : Int) * 2 ^ 32 ≤ elapsedOf u ∧ (u.efN FT_PERIOD_t_max_ns : Int) * 2 ^ 32 ≤ elapsedOf u ∧
     u.rdN FT_STATE_state = 2 ∧ (∀ c, c < u.par.clusters → (u.clu c).job = none) ∧ (∀ x ∈ u.links, x.2.unsent = 0 ∧ x.2.changing = false) ∧
     u.rd ING_STATE_assembled = 1 ∧ u.rdN FT_COMMIT_next = 0) ∧
    -- a remainder that is stopped, and a job that goes on where its link has no granted bytes
    (∀ j ∈ [{ job with stopped := true, onto := true }, job],
      let s := small 20 [(FT_STATE_state, 2), (ING_STATE_assembled, 1)]
      let u := (s.setClu 0 { s.clu 0 with job := some j }).advance 0
      (u.clu 0).job = some j ∧ (if j.stopped then j.onto = true else (u.lnk (u.carrier j.link)).granted = 0) ∧ u.rdN FT_STATE_state = 2) ∧
    (let u := (small 20 [(FT_STATE_state, 2)]).advance 0; u.rd ING_STATE_assembled ≠ 1 ∧ u.rdN FT_STATE_state = 2) ∧
    (let s := loaded (small 20 []); s.imageAt 0x10000080 = some frameImage ∧ frameImage.section_ 4 = none ∧ frameImage.section_ 5 = none) ∧
    (∀ x ∈ [(0, 19 * 2 ^ 30), (0, 20 * 2 ^ 30 + 5)], let s := small 20 []
      let u := { s with frame := { s.frame with showDue := some (x.1 + x.2) } }.advance 0
      u.frame.showDue = some (x.1 + x.2) ∧ u.wordUnits (x.1 + x.2) ≤ u.active) ∧ (small 20 []).active < (small 20 []).wordUnits (20 * 2 ^ 30 + 6) := by
  decide +kernel

theorem wit_first_and_locked_periods :
    (∀ st ∈ [0, 4, 5], let s := small 20 [(FT_STATE_state, st)]
      let u := { s with frame := { s.frame with readyAt := some 0 } }.advance 0
      u.frame.readyAt = some 0 ∧ u.stopped = false ∧ u.ef FT_PERIOD_mode = 0 ∧ (u.efN FT_PERIOD_t_max_ns : Int) * 2 ^ 32 ≤ u.active - 0 ∧
      u.rd ING_STATE_assembled ≠ 1 ∧ u.active - u.active < (u.efN FT_PERIOD_t_max_ns : Int) * 2 ^ 32) ∧
    -- with its conditions met, and with the target not assembled
    (∀ full ∈ [(1 : Int), 0], let set_ := leBytes 4 9 ++ leBytes 3 0 ++ leBytes 1 1 ++ leBytes 8 (30 * 2 ^ 30)
     let s := withRegs (place 0x10003000 set_ (small 30 [(FT_STATE_state, 2), (ING_STATE_assembled, full), (FT_PERIOD_mode, 1)]))
      [(FT_COMMIT_current, 0x10003000), (FT_COMMIT_next, 0x10003000)]
     let u := { s with frame := { s.frame with startAt := (30 * 1000000000 - 8408000) * 2 ^ 32 } }.advance 0
     let fixed := u.startFor u.showNow
     let tmin := (u.efN FT_PERIOD_t_min_ns : Int) * 2 ^ 32
     let tmax := (u.efN FT_PERIOD_t_max_ns : Int) * 2 ^ 32
     u.ef FT_PERIOD_mode = 1 ∧ u.showNow ≠ 0 ∧ tmin ≤ fixed - u.frame.startAt ∧ fixed - u.frame.startAt ≤ tmax ∧ u.rdN FT_STATE_state = 2 ∧
     u.rd ING_STATE_assembled = full ∧
     fixed ≤ u.active ∧ u.stopped = false) := by decide +kernel

/-- Region 0 is plot 0 alone, its plots are finished, and its signature in the layer set is 78. -/
def guarding (crc : Nat) : State :=
  let s := withRegs live [(GUARD_REG_enable 0, 1), (FT_COMMIT_current, 0x10003000)]
  let s := { s with hub := { s.hub with finished := s.regionPlots 0, crcs := [(0, crc)] } }
  place 0x10004000 (leBytes 4 78)
    (place 0x10003000 (leBytes 4 9 ++ [1, 1, 1, 1] ++ leBytes 8 0 ++ leBytes 4 1 ++ leBytes 4 0 ++ leBytes 8 0x10004000) s)

theorem wit_GuardOutcomesGearChangesAndRest :
    (∀ crc ∈ [77, 78], let s := guarding crc
      s.ef (GUARD_REG_enable 0) = 1 ∧ 0 ∉ s.hub.decided ∧ s.noPeriod = false ∧ s.regionPlots 0 = [0] ∧
      (∀ p ∈ s.regionPlots 0, p ∈ s.hub.finished ∧ p ∉ s.hub.halved ∧ s.plotStale p = false) ∧
      freeFabric s = true ∧ wholeMemory s = true ∧ s.setSignature (s.rdN FT_COMMIT_current) 0 = some 78 ∧ Tab.get 0 s.hub.crcs 0 = crc ∧ s.rd (GUARD_STAT_state 0) ≠ 2 ∧ 0 ∉ s.hub.raised) ∧
    live.ef (GUARD_REG_enable 31) ≠ 1 ∧ ((live.setLnk 511 { live.lnk 511 with changing := true }).lnk 511).changing = true ∧
    (∀ st ∈ [3, 4, 5], let s := withRegs live [(FT_STATE_state, st), (SEQ_STATUS_logical 0, 0)]
      let u := { s with frame := { s.frame with showDue := none, restTrigger := true, readyAt := none } }
      u.rd FT_STATE_state = st ∧ u.stopped = false ∧ u.frame.showDue = none ∧ u.frame.restTrigger = true ∧ u.frame.readyAt = none ∧
      u.logical 0 ≠ 0x7F ∧ u.rd (DRAM_STATUS_state 23) = 0 ∧ Tab.wf blankTrim u.health.quants = true ∧ 23 < u.par.channels) ∧
    live.lanesSettled = true ∧ (withRegs live [(LANE_STATE_tx 0, 2)]).lanesSettled = false := by decide +kernel

/-! ### Tile links -/

def lanes (n : Nat) (tx bc : Int) (s : State) : State := withRegs s [(LANE_STATE_tx n, tx), (LANE_STATE_bc n, bc), (LANE_STATE_bc_los n, 0)]
/-- Links 510 and 511, with link 510 as given beside its sister at its best. -/
def pair (tx bc : Int) : State := lanes 510 tx bc (lanes 511 3 3 live)
def armed_ (tx bc : Int) : State := withRegs (pair tx bc) [(FAILOVER_enable, 1)]
def svc (n : Nat) (g : LinkSvc → LinkSvc) (s : State) : State := s.setSvc n (g (s.lsvc n))
def lnk_ (n : Nat) (g : Link → Link) (s : State) : State := s.setLnk n (g (s.lnk n))
/-- The eye of a sweep is open from tap i, over w taps, past the last one where they reach it. -/
def open_ (i w : Nat) : BitVec 64 := BitVec.ofNat 64 (((List.range w).map fun k => 2 ^ ((i + k) % 64)).sum)
def marker : Bytes := leBytes 2 0x5AC3 ++ leBytes 1 8 ++ leBytes 4 5 ++ leBytes 4 7 ++ leBytes 4 300 ++ leBytes 12 0

theorem wit_LanesAlignAndFailOver : 511 < live.par.tileLinks ∧
    (∀ bc ∈ [2, 3], ∀ tx ∈ [2, 3, 5], (pair tx bc).rd (LANE_STATE_bc 510) = bc ∧ (pair tx bc).rd (LANE_STATE_tx 510) = tx ∧
      (pair tx bc).rd (LANE_STATE_bc_los 510) ≠ 1) ∧ (pair 0 0).rd (LANE_STATE_bc 510) ≠ 3 ∧
    (armed_ 3 3).armed 510 = true ∧ (armed_ 3 3).armed 511 = true ∧ (pair 3 2).linkOk 510 = false ∧
    (armed_ 2 3).rd (LANE_STATE_tx 510) = 2 ∧ ((armed_ 2 3).lsvc 510).failedOver = false ∧ ((armed_ 2 3).lsvc 510).failed = false ∧
    (armed_ 2 3).linkOk 511 = true ∧
    ((svc 510 (fun x => { x with swapDue := true }) (pair 3 3)).lsvc 510).swapDue = true ∧
    marker.length = 27 ∧ fieldLe marker 0 2 = 0x5AC3 ∧ fieldLe (marker.set 0 0) 0 2 ≠ 0x5AC3 ∧ (marker.set 0 0).length = 27 ∧
    ((svc 510 (fun x => { x with departs := [(7, 5000)] }) (pair 3 3)).lsvc 510).departs.find? (fun d => d.1 == fieldLe marker 7 4) =
      some (fieldLe marker 7 4, 5000) ∧
    ((pair 3 3).lnk 510).rx.run < 31 ∧ ((lnk_ 510 (fun l => { l with rx := { l.rx with run := 30 } }) (pair 3 3)).lnk 510).rx.run < 31 ∧
    (∀ b ∈ [false, true], let s := lnk_ 510 (fun l => { l with found := b }) (pair 3 2); (s.lnk 510).found = b ∧ s.rd (LANE_STATE_bc 510) = 2) ∧
    (∀ m ∈ [1, 2], let s := lnk_ 510 (fun l => { l with misses := m }) (armed_ 3 3)
      (s.lnk 510).misses = m ∧ s.rd (LANE_STATE_bc 510) = 3 ∧ s.armed 510 = true) ∧
    (let s := lnk_ 510 (fun l => { l with misses := 2 }) (lanes 510 2 3 (pair 3 3)); s.linkOk 510 = false ∧ s.rd (LANE_STATE_bc 510) = 3) ∧
    (armed_ 2 3).rd FAILOVER_enable = 1 ∧ (let s := withRegs (pair 2 3) [(FAILOVER_enable, 0)]
      s.rd FAILOVER_enable ≠ 1 ∧ s.linkOk 511 = true ∧ (s.lsvc 510).failedOver = false ∧ (s.lsvc 510).failed = false) ∧
    (∀ cell ∈ [0, 1], ∀ b ∈ [false, true], let s := lnk_ 510 (fun l => { l with cell := cell, changing := b }) (pair 3 3)
      (s.lnk 510).cell = cell ∧ (s.lnk 510).changing = b ∧ s.rd (LANE_STATE_tx 510) = 3) := by decide +kernel

theorem wit_sweeps :
    (∀ x ∈ [(3, 4 * 64 * 1024), (3, 4 * 64 * 1024 - 1)], ∀ st ∈ [1, 2],
      let s := withRegs (lnk_ 510 (fun l => { l with benched := true, sweep := x.2 }) (pair 3 x.1)) [(FT_STATE_state, st)]
      s.rd (LANE_STATE_bc 510) = 3 ∧ (s.lnk 510).benched = true ∧ (s.lnk 510).sweep = x.2 ∧ s.blanking = (st == 2) ∧
      s.frame.afterRest = false) ∧
    (∀ x ∈ [(0, 1), (20, 6), (60, 10), (63, 63)], ∀ k, k < 64 → (open_ x.1 x.2).getLsbD k = decide ((k + 64 - x.1) % 64 < x.2)) := by
  decide +kernel

/-- Links 0 and 1 in service, with their service slots. -/
def paired : State := withRegs (lanes 0 3 3 (lanes 1 3 3 live)) [(SVC_SLOTS_active 0, 5), (SVC_SLOTS_active 1, 5)]
def message (sends : Nat) (wait : Bool) : SvcMsg := ⟨8, leBytes 1 2 ++ leBytes 1 0 ++ leBytes 2 5 ++ leBytes 4 0 ++ List.replicate 5 9, some 15, 0, sends, wait⟩
/-- A message of a kind and a length at an address, with no carrier where `off` says so. -/
def posting (a kind len : Nat) (off : Bool) : State :=
  let s := gprs (place a (leBytes 1 kind ++ leBytes 1 0 ++ leBytes 2 len ++ leBytes 4 0) paired) 0 [(2, 0), (3, a)]
  s.setTile 0 { s.tile 0 with noLink := off }
def inflight (sends : Nat) (wait : Bool) : State := svc 0 (fun x => { x with inflight := some (message sends wait) }) paired
def reply (result : Nat) : Bytes := leBytes 4 8 ++ leBytes 1 result ++ leBytes 22 0
def report (seq fl : Nat) : Bytes := leBytes 2 seq ++ leBytes 1 fl ++ leBytes 24 9
def eyed (gear mark : Nat) : Bytes := leBytes 3 99 ++ leBytes 1 (1 + 4 * gear) ++ leBytes 4 mark ++ leBytes 19 0

theorem wit_TileMessagesReportsAndFailover : 0 < live.par.tileLinks ∧ live.ready (.cluster 0) = true ∧ live.ready .marshal = true ∧
    (kf 0x1F).sub.toNat < 32 ∧ (kf 0xF).sub.toNat < 32 ∧ (live.seq 0).stores = [] ∧
    (∀ x ∈ [(0x200, 1, 4096), (0x200, 6, 0), (0xCBFFFF0, 6, 0), (0x204, 1, 0)], let s := posting x.1 x.2.1 x.2.2 false
      let a := (s.greg 0 (kf 0).b).toNat
      (s.greg 0 (kf 0).a).toNat = 0 ∧ a = x.1 ∧ a + 16 + x.2.2 ≤ s.par.clusters * 0x300000 ∧ s.mem.bad = [] ∧ s.mem.soft = [] ∧
      (s.byte a).toNat = x.2.1 ∧ s.word (a + 2) 2 = x.2.2 ∧ (s.lsvc 0).queue.length < 8 ∧ s.noCarrier 0 = false) ∧
    0x200 % 8 = 0 ∧ 0xCBFFFF0 % 8 = 0 ∧ 0x204 % 8 ≠ 0 ∧
    8 ≤ ((svc 0 (fun x => { x with queue := List.replicate 8 (message 0 false) }) paired).lsvc 0).queue.length ∧
    (posting 0x200 1 0 true).noCarrier 0 = true ∧
    (let s := svc 0 (fun x => { x with queue := [message 0 false] }) paired
     (s.lsvc 0).failedOver = false ∧ s.svcMay 0 = true ∧ s.carrying 0 = false ∧ (s.lsvc 0).inflight = none ∧
       (s.lsvc 0).queue = message 0 false :: []) ∧
    (let s := inflight 1 false
     (s.lsvc 0).failedOver = false ∧ s.svcMay 0 = true ∧ s.carrying 0 = false ∧ (s.lsvc 0).inflight = some (message 1 false) ∧
       (message 1 false).waitAck = false ∧ 0 < (message 1 false).sends) ∧
    (∀ cells ∈ [[], packetCellsOf 0x4 [1]], let s := lnk_ 0 (fun l => { l with svcCells := cells }) (inflight 1 true)
      (s.lnk (s.carrier 0)).svcCells = cells ∧ (s.lsvc 0).inflight = some (message 1 true)) ∧ packetCellsOf 0x4 [1] ≠ [] ∧
    (∀ n ∈ [1, 20], let s := inflight n true; (s.lnk (s.carrier 0)).svcCells = [] ∧ s.rd (LANE_STATE_bc 0) = 3 ∧ (s.lnk 0).rx.run < 31 ∧ (s.lsvc 0).inflight = some (message n true) ∧ (message n true).waitAck = true) ∧
    (message 1 true).sends < (inflight 1 true).efN SVC_CTRL_retries ∧ (inflight 20 true).efN SVC_CTRL_retries ≤ (message 20 true).sends ∧
    (∀ r ∈ [0, 1, 2, 3], (reply r).length = 27 ∧ fieldLe (reply r) 0 4 = (message 1 true).ticket ∧ fieldLe (reply r) 5 1 % 2 = 0 % 2 ∧
      fieldLe (reply r) 4 1 = r) := by decide +kernel

theorem wit_tile_reports : paired.rd (LANE_STATE_bc 0) = 3 ∧ (paired.lnk 0).rx.run < 31 ∧ (paired.lnk 0).open_ = [] ∧
    (let b : Bytes := List.replicate 32 1; b.length = 32 ∧ fieldLe b 0 1 ≠ 0x30 ∧ crc32c (b.take 28) ≠ fieldLe b 28 4) ∧
    (let b : Bytes := leBytes 2 5 ++ List.replicate 29 1; b.length = 31 ∧ (paired.tile 0).seqFault ≠ some (fieldLe b 0 2)) ∧
    (∀ x ∈ [(4, 0), (5, 1), (5, 4)], (report x.1 x.2).length = 27 ∧ fieldLe (report x.1 x.2) 0 2 = x.1 ∧ bit (fieldLe (report x.1 x.2) 2 1) 1 = false ∧
      bit (fieldLe (report x.1 x.2) 2 1) 0 = (x.2 == 1)) ∧
    (let s := paired.setTile 0 { paired.tile 0 with seqStatus := some 4 }
     (s.tile 0).seqStatus = some 4 ∧ (s.tile 0).seqStatus ≠ some 5 ∧ (s.lsvc 0).alarm = false ∧ (s.lsvc 1).alarm = false ∧
       (s.tile 0).seqFault ≠ some 5 ∧ (s.tile 0).seqTemp ≠ some 5 ∧ (s.tile 0).seqCrack ≠ some 5 ∧ (s.tile 0).crackOpen = false) ∧
    (let s := paired.setLnk 1 { paired.lnk 1 with entryMark := 5 }
     let late (c : Bytes) : Bool := decide ((fieldLe c 4 4 + 2 ^ 32 - (s.lnk 1).entryMark % 2 ^ 32) % 2 ^ 32 < 2 ^ 31)
     let g := s.rdN (LINK_GEAR_gear 1)
     (∀ c ∈ [eyed g 5, eyed g (2 ^ 31 + 4), eyed g 4, eyed ((g + 1) % 4) 5], c.length = 27 ∧ fieldLe c 3 1 % 2 = 1) ∧
     fieldLe (eyed g 5) 3 1 / 4 % 4 = g ∧ late (eyed g 5) = true ∧ late (eyed g (2 ^ 31 + 4)) = true ∧ late (eyed g 4) = false ∧
     fieldLe (eyed ((g + 1) % 4) 5) 3 1 / 4 % 4 ≠ g ∧ s.frame.afterRest = false) ∧
    (pair 3 2).linkOk 510 = false ∧ (armed_ 3 3).armed 510 = true ∧
    ((svc 0 (fun x => { x with failedOver := true }) paired).lsvc 0).failedOver = true ∧ paired.laneUp 0 = true := by decide +kernel

/-! ### DRAM, the hold timer and common slices -/

def channels (l : List (Nat × Int)) : State := withRegs dram l
def aloneIn (s : State) (ch : Nat) : Bool := (List.range 8).all fun i => 8 * (ch / 8) + i == ch || !s.chFailed (8 * (ch / 8) + i)
theorem aloneIn_spec {s : State} {ch : Nat} (h : aloneIn s ch = true) : ∀ c, c / 8 = ch / 8 → c ≠ ch → s.chFailed c = false := by
  intro c hc hne
  have := List.all_eq_true.1 h (c - 8 * (ch / 8)) (List.mem_range.2 (by omega))
  rw [show 8 * (ch / 8) + (c - 8 * (ch / 8)) = c by omega] at this
  simpa [hne] using this

theorem wit_dram_channels : dram.par.channels = 24 ∧ dram.par.groups = 3 ∧
    (∀ ch ∈ [0, 23], dram.rd (DRAM_STATUS_state ch) ≠ 1 ∧ dram.rd (DRAM_STATUS_state ch) ≠ 3 ∧ aloneIn dram ch = true) ∧
    (channels [(DRAM_STATUS_state 1, 1)]).chFailed 1 = true ∧ (channels [(DRAM_STATUS_state 23, 3)]).rd (DRAM_STATUS_state 23) = 3 ∧
    (let s := channels [(DRAM_STATUS_state 23, 2), (DRAM_GRP_failed 2, 7)]
     8 * 2 + s.rdN (DRAM_GRP_failed 2) = 23 ∧ s.rd (DRAM_STATUS_state 23) = 2 ∧ aloneIn s 23 = true) ∧
    (let s := channels [(DRAM_STATUS_state 23, 1), (DRAM_GRP_failed 2, 7)]
     s.hostUp = true ∧ 7 ≤ s.rdN RST_STATUS_stage ∧ s.rdN (DRAM_GRP_failed 2) ≠ 0xF ∧ s.rd (DRAM_STATUS_state 23) = 1) ∧
    dram.hostUp = true ∧ 7 ≤ dram.rdN RST_STATUS_stage ∧ dram.rdN (DRAM_GRP_failed 0) = 0xF ∧ dram.rd (DRAM_STATUS_state (8 * 0 + 0xF)) ≠ 2 ∧
    (∀ x ∈ [(⟨0, 0, 9, 12⟩ : TrimResult), ⟨0, 31, 0, 63⟩, ⟨23, 32, 0, 0⟩, ⟨23, 33, 127, 127⟩],
      x.channel < 24 ∧ x.quantity < 34 ∧ dram.rd (DRAM_STATUS_state x.channel) = 0 ∧ x.low ≤ x.high ∧
      x.high < (if x.quantity < 32 then 64 else 128) ∧ (dram.trimQ x.channel x.quantity).ends < 15) ∧
    (let s := live.setTrim 0 31 ⟨10, 12, 9, 15, false, false⟩
     15 ≤ (s.trimQ 0 31).ends ∧ s.rd (DRAM_STATUS_state 0) = 0) ∧
    ¬ ((⟨0, 31, 10, 64⟩ : TrimResult).high < 64) := by decide +kernel

theorem wit_DramChannelsFailReturnAndTrim : ∀ ch ∈ [0, 23], ∀ c, c / 8 = ch / 8 → c ≠ ch → dram.chFailed c = false := fun ch h =>
  aloneIn_spec (wit_dram_channels.2.2.1 ch h).2.2

def gatherAt : Nat := 0x1000000140
def lineOf (held : Nat) (draining again : Bool) : GatherLine :=
  ⟨(dram.loc gatherAt).grp, (dram.loc gatherAt).co / 64 * 64, held, draining, again, 2, false, 0⟩
def otherLine : GatherLine := ⟨1, 64, 127, false, false, 2, false, 0⟩
def gathering (l : List GatherLine) : State := { dram with mem := { dram.mem with gather := l } }

/-- Group 0 has n lines in the buffer, at addresses past its 64th line. -/
def fullOf (n : Nat) : List GatherLine := (List.range n).map fun i => ⟨(dram.loc gatherAt).grp, 64 * (1000 + i), 1, false, false, 2, false, 0⟩

theorem wit_DramWritesGather :
    (∀ x ∈ [(gatherAt, 64), (gatherAt + 63, 1)], dram.dramRange x.1 x.2 = true ∧ x.1 % 64 + x.2 ≤ 64 ∧ 0 < x.2) ∧
    6 ≤ dram.efN DRAM_MAP_grain_log2 ∧ (∀ c, c < dram.par.channels → dram.chFailed c = false) ∧ dram.par.groups ≠ 0 ∧
    { dram with part := .s32 }.par.groups = 0 ∧ { dram with part := .s32 }.dramRange gatherAt 64 = true ∧
    (∀ y ∈ (gathering [otherLine]).mem.gather, ¬ (y.group = (dram.loc gatherAt).grp ∧ y.co = (dram.loc gatherAt).co / 64 * 64)) ∧
    (∀ x ∈ [lineOf (127 - 2 ^ (dram.loc gatherAt).j) false false, lineOf 127 true false, lineOf 5 true true, lineOf 64 false false],
      x ∈ (gathering [otherLine, x]).mem.gather ∧ x.group = (dram.loc gatherAt).grp ∧ x.co = (dram.loc gatherAt).co / 64 * 64 ∧
      (∀ y ∈ (gathering [otherLine, x]).mem.gather, y.group = x.group ∧ y.co = x.co → y = x) ∧ x.group < dram.par.groups ∧
      freeFabric (gathering [otherLine, x]) = true ∧ (gathering [otherLine, x]).drainWaits x = false ∧
      (∀ c, c < 8 → dram.chFailed (8 * x.group + c) = false) ∧
      ((gathering [otherLine, x]).setSeq 0 { live.seq 0 with lock := some (8 * x.group + 7) }).drainWaits { x with mask := 127 } = true) ∧
    Tab.wf 0 dram.mem.parity = true ∧
    bit (127 - 2 ^ (dram.loc gatherAt).j) (dram.loc gatherAt).j = false ∧ bit 64 (dram.loc gatherAt).j = false ∧
    heldCount 127 = 7 ∧ heldCount 5 ≠ 7 ∧ heldCount (64 + 2 ^ (dram.loc gatherAt).j) ≠ 7 := by decide +kernel

theorem wit_full_buffer : ∀ n ∈ [255, 256], let lines := otherLine :: fullOf n
    let mine := lines.filter fun y => y.group == (dram.loc gatherAt).grp
    (mine.length < 256 ↔ n = 255) ∧ (mine.head?.map (·.co)) = some 64000 ∧
    (lines.all fun y => !(y.group == (dram.loc gatherAt).grp && y.co == (dram.loc gatherAt).co / 64 * 64)) = true := by decide +kernel

/-- A rank at a debt and in a state of rest; both ranks of channel 0 keep their contents where `keep` says so. -/
def rank (debt rest keep : Int) : State :=
  withRegs live [(DRAM_REF_debt0 0, debt), (DRAM_REF_debt1 0, debt), (DRAM_STATUS_rank0 0, rest), (DRAM_STATUS_rank1 0, rest),
    (DRAM_PWR_keep0, keep), (DRAM_PWR_keep1, keep)]

theorem wit_RefreshAndLowPower : 0 < live.par.channels ∧ live.rd (DRAM_STATUS_state 0) ≠ 3 ∧ live.rdN DRAM_REF_debt_limit = 6 ∧
    (∀ d ∈ [0, 4, 5, 6], ∀ rest ∈ [0, 1, 2], ∀ keep ∈ [0, 1], let s := rank d rest keep
      s.rdN (DRAM_REF_debt0 0) = d ∧ s.rdN (DRAM_REF_debt1 0) = d ∧ s.rd (DRAM_STATUS_rank0 0) = rest ∧ s.rd (DRAM_STATUS_rank1 0) = rest ∧
      s.rd (DRAM_STATUS_state 0) ≠ 3 ∧ s.ef DRAM_PWR_keep0 = keep ∧ s.ef DRAM_PWR_keep1 = keep) ∧
    4 + 1 < live.rdN DRAM_REF_debt_limit ∧ live.rdN DRAM_REF_debt_limit ≤ 5 + 1 ∧ live.rdN DRAM_REF_debt_limit ≤ 6 + 1 ∧
    (withRegs live [(SELF_TRIM_enable, 0)]).rd SELF_TRIM_enable ≠ 1 ∧ live.heldFrom noSeq 0 = false ∧ (live.setSeq 0 { live.seq 0 with lock := some 0 }).heldFrom noSeq 0 = true := by
  decide +kernel

/-- Sequencer k locks resource 36, with stores on their way to it and past it, in a state of waiting. -/
def biting (k : Nat) (w : Option Waiting) : State := live.setSeq k { live.seq k with
  lock := some 36
  stores := [⟨0x10000100, leBytes 8 1, some 36⟩, ⟨0x100, leBytes 8 2, none⟩]
  waiting := w }

theorem holds_of {s : State} {r : Nat} (h : ((blankSeq :: s.sq.seqs.map (·.2)).all fun q => !q.holds r) = true) :
    ∀ j, (s.seq j).holds r = false := by
  intro j
  have hall := List.all_eq_true.1 h
  suffices hm : s.seq j ∈ blankSeq :: s.sq.seqs.map (·.2) by simpa using hall _ hm
  simp only [State.seq, Tab.get]
  cases hf : Tab.find s.sq.seqs j with
  | none => simp
  | some q =>
    refine List.mem_cons_of_mem _ (List.mem_map.2 ⟨(j, q), ?_, rfl⟩)
    exact Tab.mem_of_find hf

theorem wit_HoldTimerBitesAndSlicesFail :
    (∀ k ∈ [0, 1, 128], ∀ w ∈ [none, some (Waiting.flags 1 0 1 true)], let s := biting k w
      Tab.wf blankSeq s.sq.seqs = true ∧ (s.seq k).holds 36 = true ∧ (s.seq k).waiting = w ∧
      (s.sq.seqs.all fun x => x.1 == k || !x.2.holds 36) = true) ∧ blankSeq.holds 36 = false ∧
    Tab.wf blankSeq live.sq.seqs = true ∧ ((blankSeq :: live.sq.seqs.map (·.2)).all fun q => !q.holds 36) = true ∧
    (∀ cls, cls < 8 → live.queueExists cls 0 0 = true ∧ live.engineDown cls 0 = false) ∧
    (∀ q ∈ [SeqId.marshal, .cluster 0], let s := live.setSeq (keyOf q) { live.seq (keyOf q) with bitten := true }
      s.hasSeq q = true ∧ s.running (keyOf q) = true ∧ s.fetchable (s.pc (keyOf q)) = true ∧ (s.seq (keyOf q)).bitten = true) ∧
    (kf 0).sub = 0 ∧ live.rd (PAD_STATUS_state (live.par.clusters + 15)) ≠ 1 ∧
    (let h := PAD_STATUS_state (live.par.clusters + 15); (withRegs live [(h, 1)]).rd h = 1) := by decide +kernel

/-! ### Health, self-trim and the fault manager -/

/-- Samples of 30 degrees up to time 1000, with counts of samples in a row and flags. -/
def sampled (n : Nat) (above below invalid : Tab Nat) (fl : Nat) : State := { live with health := { live.health with
  samples := (List.range n).map fun i => ⟨1000 - i, 300, 300, 300⟩
  above := above
  below := below
  invalid := invalid
  flags := fl } }
def sevens : Tab Nat := [(0, 7), (1, 7), (2, 7), (3, 7), (4, 7)]
def freshAt (s : State) (t : Nat) : Bool := s.health.samples.all fun x => decide (x.t < t)
def turned (s : State) (t : Nat) (v : Int) : Int := ((v - ((((⟨t, v, v, v⟩ : Sample) :: s.health.samples).take 64).getD 63 ⟨0, 0, 0, 0⟩).die 0) * 1000000) /
  ((t : Int) - ((((⟨t, v, v, v⟩ : Sample) :: s.health.samples).take 64).getD 63 ⟨0, 0, 0, 0⟩).t)

theorem wit_ThermalSamplesDriveTheStates : freshAt (sampled 64 [] [] [] 0) 1000 = false ∧
    (∀ s ∈ [sampled 0 [] [] [] 0, sampled 62 sevens [] [] 0, sampled 64 sevens [] [] 3, sampled 64 [] sevens [] 0x1B],
      freshAt s 1001 = true ∧ s.rd HEALTH_STATE_sensor_failed = 0 ∧ s.health.shutdown = false) ∧
    -640 ≤ (0xFD80 : BitVec 16).toInt ∧ (0x0960 : BitVec 16).toInt ≤ 2400 ∧
    (let s := sampled 64 sevens [] [] 0
     turned s 50000 1760 ≥ -32768 ∧ turned s 50000 1760 ≤ 32767 ∧ s.ef HEALTH_TH_warn ≤ 1760 ∧ s.ef HEALTH_TH_throttle ≤ 1760 ∧
       s.ef HEALTH_RATE_TH_rate_act ≤ turned s 50000 1760 ∧ s.ef HEALTH_RATE_TH_rate_warn ≤ turned s 50000 1760) := by decide +kernel

theorem wit_thermal_flags_and_sensors :
    (let s := sampled 64 [] sevens [] 0x1B
     300 < s.ef HEALTH_TH_warn - 48 ∧ turned s 50000 300 < s.ef HEALTH_RATE_TH_rate_warn - 16) ∧
    ¬ -640 ≤ (0xFD7F : BitVec 16).toInt ∧ ¬ (0x0961 : BitVec 16).toInt ≤ 2400 ∧
    (∀ d ∈ [0, 1, 2], let s := sampled 64 [(2, 6)] [] [(0, 7), (1, 7), (2, 7)] 3
      freshAt s 1001 = true ∧ s.rd HEALTH_STATE_sensor_failed = 0 ∧ s.health.shutdown = false ∧
      7 ≤ Tab.get 0 s.health.invalid d ∧ bit s.health.flags 2 = false ∧ Tab.get 0 s.health.above 2 < 7) := by decide +kernel

def faultOf (r : Resource) (sev : Nat) : FaultItem := ⟨r, 0x10 + sev, sev, 0, 0x20, 5000, 5, 6, 77, false, false, 0, 3⟩
def managing (h : Option FaultItem) (detected queue preempted : List FaultItem) (st : Int) : State :=
  withRegs { live with fm := { live.fm with
    handling := h
    detected := detected
    queue := queue
    preempted := preempted } } [(FM_STATUS_state, st)]
def f1 := faultOf (.cluster 3) 1
def f3 := faultOf (.dram 2) 3
def f4 := faultOf .marshal 4

theorem wit_FaultsAreTakenAndHandled : live.fm.detected = [] ∧ live.fm.handling = none ∧
    (∀ x ∈ [(none, 0), (some f1, 1)], ∀ f ∈ [f1, f3, f4], let s := managing x.1 [f, f1] [] [] x.2
      s.fm.detected = f :: [f1] ∧ s.rd FM_STATUS_state ≠ 2 ∧ s.fm.handling = x.1) ∧ f1.sev = 1 ∧ f3.sev = 3 ∧ f4.sev = 4 ∧
    (let s := managing none [f1] [] [] 2; s.fm.detected = [f1] ∧ s.rd FM_STATUS_state = 2) ∧
    (∀ n ∈ [15, 16], (managing (some f3) [f3] (List.replicate n f1) [] 1).fm.queue.length = n) ∧
    (let s := managing (some f3) [] [f1] [f1] 1; s.fm.handling = some f3 ∧ s.fm.preempted = f1 :: [] ∧ s.fm.queue ≠ []) ∧
    (let s := managing (some f3) [] [f1, faultOf (.link 2) 1] [] 1; s.fm.preempted = [] ∧ s.fm.queue ≠ []) ∧
    (let s := managing (some f3) [] [] [] 1; s.fm.preempted = [] ∧ s.fm.queue = []) ∧
    (∀ sec ∈ [0, 100], let u := (withRegs { live with clk := { live.clk with a := ⟨sec, 0, 0⟩ } } [(FM_STATUS_state, 2)]).advance 0
      u.rd FM_STATUS_state = 2 ∧ (u.fm.safeShow + nsUnits (u.efN FT_PERIOD_nominal_ns) ≤
        u.active + nsUnits (1000 * u.efN LINK_SYNC_lead_us) ↔ sec = 100)) ∧
    (∀ cls ∈ [3, 7], live.queueExists cls 0 0 = true ∧ live.engineDown cls 0 = false) ∧
    (later (.hubEngineFault 3 0) live).engineDown 3 0 = true := by decide +kernel

def refs (l : List (Nat × Int)) : State :=
  withRegs live ([(REF_STATUS_a_present, 1), (REF_STATUS_b_present, 1), (REF_STATUS_active, 0)] ++ l)
def pinned (f : Pins → Pins) (s : State) : State := { s with pins := f s.pins }
/-- A locked datum whose adjustment shows that the selected reference is out of tolerance, and the other one good. -/
def strayed : State := refs [(REF_CTRL_auto, 1), (DATUM_lock 0, 1), (DATUM_adj 0, 8589935), (REF_MEAS_diff_ppb, 4293967296)]

theorem wit_ReferencesSwitchAndHold : (refs [(REF_STATUS_a_present, 0)]).rd REF_STATUS_a_present ≠ 1 ∧
    (let s := strayed
     s.rd REF_STATUS_a_present = 1 ∧ s.rdN REF_STATUS_active = 0 ∧ s.rd REF_CTRL_auto = 1 ∧ s.rd REF_STATUS_b_present = 1 ∧
       s.refOut 1 = false ∧ s.refOut 0 = true) ∧
    (let s := refs [(REF_CTRL_auto, 1), (REF_STATUS_active, 1)]
     s.rd REF_STATUS_b_present = 1 ∧ s.rdN REF_STATUS_active = 1 ∧ s.rd REF_CTRL_auto = 1 ∧ s.rd REF_STATUS_a_present = 1 ∧
       s.refOut 0 = false ∧ s.refOut 1 = false) ∧
    (let s := refs [(REF_CTRL_auto, 0)]; s.rd REF_STATUS_a_present = 1 ∧ s.rd REF_CTRL_auto ≠ 1 ∧ s.rd REF_STATUS_b_present = 1) ∧
    (let s := refs [(REF_STATUS_b_present, 0)]; s.rd REF_STATUS_a_present = 1 ∧ s.rd REF_STATUS_b_present ≠ 1) ∧
    (let s := pinned (fun p => { p with holdover := true }) (refs []); s.pins.holdover = true ∧ s.rdN REF_STATUS_active = 0) ∧
    (∀ p ∈ [0, 1], let s := refs [(REF_STATUS_pending, p), (REF_STATUS_a_present, 0)]
      s.pins.holdover = false ∧ s.efN REF_CTRL_select < 2 ∧ s.rd REF_STATUS_pending = p ∧ s.refOut (s.efN REF_CTRL_select) = false ∧
      s.efN REF_CTRL_select = 0) := by decide +kernel

/-! ### Reset and boot -/

def railsUp (s : State) : State := pinned (fun p => { p with
  pwrOkAon := true
  pwrEnMain := true
  pwrOkMain := true }) s
def atStage (n : Int) (s : State) : State := withRegs s [(RST_STATUS_stage, n)]
def shutDown (l : List Sample) (s : State) : State := { s with health := { s.health with
  shutdown := true
  samples := l } }
def shownBy (w : Option Nat) (s : State) : State := { s with frame := { s.frame with showDue := w } }

theorem wit_PowerAndResetsBeginABoot :
    (∀ b ∈ [false, true], (pinned (fun p => { p with pwrOkAon := b }) live).pins.pwrOkAon = b) ∧
    (railsUp live).pins.pwrOkAon = true ∧ (railsUp live).health.shutdown = false ∧
    (let s := shutDown [⟨5000, 1359, 200, 100⟩, ⟨4000, 1359, 2, 3⟩, ⟨3999, 1700, 1700, 1700⟩] (railsUp live)
     s.health.shutdown = true ∧ s.health.samples = ⟨5000, 1359, 200, 100⟩ :: [⟨4000, 1359, 2, 3⟩, ⟨3999, 1700, 1700, 1700⟩] ∧
     ∀ y ∈ s.health.samples, 5000 ≤ y.t + 1000 → ∀ d, d < 3 → bit (s.rdN HEALTH_STATE_sensor_failed) d = true ∨ y.die d < 1360) ∧
    (let s := shutDown [⟨5000, 1360, 200, 100⟩] (railsUp live)
     s.health.samples = ⟨5000, 1360, 200, 100⟩ :: [] ∧ bit (s.rdN HEALTH_STATE_sensor_failed) 0 = false ∧
     (⟨5000, 1360, 200, 100⟩ : Sample).die 0 = 1360) ∧
    (∀ w ∈ [none, some 0], let s := shownBy w (shutDown [] (railsUp live))
      s.health.shutdown = true ∧ s.pins.pwrEnMain = true ∧ s.frame.showDue = w ∧ s.wordUnits 0 ≤ s.active) ∧
    (let s := shownBy (some 50) (shutDown [] (railsUp live)); ¬ s.wordUnits 50 ≤ s.active) ∧
    (∀ st ∈ [2, 3], ∀ holds ∈ [false, true], let s := pinned (fun p => { p with tapHolds := holds }) (atStage st (railsUp live))
      s.pins.pwrEnMain = true ∧ s.rdN RST_STATUS_stage = st ∧ s.pins.tapHolds = holds) ∧
    (let s := pinned (fun p => { p with pwrOkMain := false }) (atStage 2 (railsUp live))
     s.rdN RST_STATUS_stage = 2 ∧ s.pins.pwrEnMain = true ∧ s.pins.pwrOkMain = false) ∧
    (let s := railsUp live; s.pins.pwrOkMain = true ∧ s.pins.pwrEnMain = true ∧ s.health.shutdown = false ∧ s.rdN RST_STATUS_stage ≠ 2 ∧
      s.rdN RST_STATUS_stage ≠ 3 ∧ s.pins.warmDue = 0) ∧
    (let s := pinned (fun p => { p with warmDue := 4 }) live; s.pins.warmDue ≠ 0 ∧ s.health.shutdown = false) := by decide +kernel

/-- A boot image of a marshal and a sequencer section. -/
def bootImage : Bytes := leBytes 4 0x4C454843 ++ leBytes 2 1 ++ leBytes 2 1 ++ leBytes 2 0x1F ++ leBytes 2 0 ++ leBytes 2 2 ++ leBytes 10 0 ++
  leBytes 8 176 ++ List.replicate 96 0 ++
  leBytes 2 1 ++ leBytes 2 0 ++ leBytes 4 64 ++ leBytes 8 48 ++ leBytes 8 0x10001000 ++
  leBytes 2 2 ++ leBytes 2 0 ++ leBytes 4 64 ++ leBytes 8 112 ++ leBytes 8 0x10002000 ++ List.replicate 128 0 ++ leBytes 4 0x4E474953
/-- The image in the staging area, whose signer's slot holds a hash of zeros. -/
def booting : State :=
  let s := atStage 5 (railsUp (place 0x15000000 bootImage live))
  let s := pinned (fun p => { p with
    stageAddr := 0x15000000
    stageLen := 5680 }) s
  { s with trust := { s.trust with vendorHashes := List.replicate 4 (List.replicate 64 0) } }
def unmapped (s : State) : State := { s with mem := { s.mem with zonesOn := false } }

/-- A boot image that passes, with a hash and verifications as in `wit_trust_outcomes`. -/
theorem wit_boot_header :
    (let i := booting.imageBytes 0x15000000
     let u := booting.bootStage6 i
     fieldLe i.header 6 2 = 1 ∧ u.headerOk i.header i.payload = true ∧ blockOffset i.header + blockSize ≤ 5680 ∧
     u.paddockRange 0x15000000 5680 = true ∧ wholeMemory u = true ∧ u.overlapsProgram (sectionsOf i.header i.payload) = false) := by
  decide +kernel

theorem wit_boot_checks :
    (let i := booting.imageBytes 0x15000000
     let u := booting.bootStage6 i
     ∀ c, c < 16 → trustChecks (fun _ => List.replicate 64 0) (fun _ _ _ => true) (fun _ _ _ => true) u i.header i.payload i.block c = false) := by
  decide +kernel

/-- An image that fails check 1, in every slot, and states of the other stages. -/
theorem wit_BootFetchesVerifiesAndLoads : booting.rdN RST_STATUS_stage = 5 ∧ booting.pins.tapHolds = false ∧
    headerFormed ((place 0x15000000 [0] booting).bytes 0x15000000 128) = false ∧
    (∀ x ∈ [(0, 0), (2, 0), (2, 3)], let s := withRegs booting [(RST_STATUS_fail0, x.1), (RST_STATUS_fail1, x.2)]
      s.rd RST_STATUS_fail0 = x.1 ∧ s.rd RST_STATUS_fail1 = x.2 ∧ s.rdN RST_STATUS_stage = 5) ∧
    (∀ st ∈ [4, 8, 9], let s := unmapped (atStage st (railsUp live))
      s.rdN RST_STATUS_stage = st ∧ s.pins.tapHolds = false ∧ s.mem.zonesOn = false ∧ wholeMemory s = true ∧
      s.region 0x15000000 = .common ∧ s.region 0x1500000F = .common) ∧
    (let s := { atStage 8 (railsUp live) with nvm := { live.nvm with board := List.replicate 64 1 } }
     s.hasBoard = true ∧ (5 : BitVec 24).getLsbD 0 = true ∧ (5 : BitVec 24).getLsbD 1 = false ∧ s.mem.bad = [] ∧ s.mem.badPar = [] ∧
     s.rd (DRAM_STATUS_state 1) = 0 ∧ (withRegs s [(DRAM_STATUS_state 1, 3)]).rd (DRAM_STATUS_state 1) = 3) := by
  decide +kernel

/-! ### Test access, reset and memory -/

theorem wit_TapInstructionsAndDebugHalt :
    (∀ st ∈ [0, 1], let s := atStage st (railsUp live); ¬ 2 ≤ s.rdN RST_STATUS_stage) ∧
    (∀ st ∈ [2, 3, 6, 7, 12, 15], ∀ holds ∈ [false, true], let s := pinned (fun p => { p with tapHolds := holds }) (atStage st (railsUp live))
      2 ≤ s.rdN RST_STATUS_stage ∧ s.pins.pwrEnMain = true ∧ s.rdN RST_STATUS_stage = st ∧ s.pins.tapHolds = holds) := by decide +kernel

theorem wit_ResetLeavesTheStatedValues : ∀ m ∈ [Member.t2, .s32, .m128, .x512], let s := { State.reset with part := m }
    (fieldOf s.par (SEQ_PC_pc (s.par.clusters - 1))).isSome = true ∧ (fieldOf s.par FT_PERIOD_nominal_ns).isSome = true := by decide +kernel

def goesOn (o : Host.Outcome State Fault Refusal) : Bool := match o with | .next _ => true | _ => false

theorem wit_MemoryStaysCanonical : Memory.wf (posting 0x200 1 0 false).mem.cells = true ∧
    (∀ c ∈ [Instr.ld (.cluster 0) ⟨1, 2, 3, 0, 0⟩, .fence .marshal ⟨1, 0, 0, 0⟩, .dramWriteGather gatherAt [7], .imageFetchComplete [1, 2, 3, 4, 5, 6, 7, 8]],
      goesOn (exec c dram) = true) ∧ goesOn (step { live with pending := [] }) = true := by decide +kernel

end Sys2Proof.Tests
end

/-! SUPPORT. How a sequencer that is ready ends an instruction: what its program counter, its registers and a trap change, and
what they leave alone. -/
namespace Sys2Proof.Machine
open Sys2Proof

/-! ### The status registers of a sequencer -/

/-- The three status registers of a sequencer are different registers. -/
theorem statusRegs_ne (k : Nat) : stateReg k ≠ causeReg k ∧ stateReg k ≠ pcReg k ∧ causeReg k ≠ pcReg k := by
  unfold stateReg causeReg pcReg
  split
  · decide
  · simp only [Reg.SEQ_STATUS_state, Reg.SEQ_STATUS_trap_cause, Reg.SEQ_PC_pc, hdl]
    omega

/-- The unit of the marshal or of the cluster sequencers stands in the handle of a program counter. -/
theorem pcReg_unit (k : Nat) : pcReg k / 0x1000000 = 0x01 ∨ 0x20 ≤ pcReg k / 0x1000000 := by
  unfold pcReg
  split
  · decide
  · simp only [Reg.SEQ_PC_pc, hdl]
    omega

/-! ### Program counter and general registers -/

@[simp] theorem State.cell_setPc (s : State) (k h : Nat) (v : Int) :
    (s.setPc k v).cell h = if h = pcReg k then ⟨v, v, none, none⟩ else s.cell h := State.cell_wr ..

@[simp] theorem State.pc_setPc (s : State) (k : Nat) (v : Int) : (s.setPc k v).pc k = v := by
  unfold State.pc State.setPc; simp

@[simp] theorem State.seq_setPc (s : State) (k j : Nat) (v : Int) : (s.setPc k v).seq j = s.seq j := rfl
@[simp] theorem State.greg_setPc (s : State) (k j : Nat) (v : Int) (r : BitVec 5) : (s.setPc k v).greg j r = s.greg j r := rfl

/-- A write of a general register moves nothing but the sequencers. -/
theorem State.setGreg_frame (s : State) (k : Nat) (d : BitVec 5) (v : Word) :
    s.setGreg k d v = { s with sq := { s.sq with seqs := (s.setGreg k d v).sq.seqs } } := by
  unfold State.setGreg; split <;> rfl

@[simp] theorem State.cell_setGreg (s : State) (k h : Nat) (d : BitVec 5) (v : Word) :
    (s.setGreg k d v).cell h = s.cell h := by rw [State.setGreg_frame]; rfl

@[simp] theorem State.byte_setGreg (s : State) (k i : Nat) (d : BitVec 5) (v : Word) :
    (s.setGreg k d v).byte i = s.byte i := by rw [State.setGreg_frame]; rfl

@[simp] theorem State.fm_setGreg (s : State) (k : Nat) (d : BitVec 5) (v : Word) : (s.setGreg k d v).fm = s.fm := by
  rw [State.setGreg_frame]

/-- A write of a general register moves no other sequencer. -/
theorem State.sameSeqsBut_setGreg (s : State) (k : Nat) (d : BitVec 5) (v : Word) : SameSeqsBut s (s.setGreg k d v) k := by
  intro j hj
  unfold State.setGreg
  split
  · rfl
  · simp [hj]

/-- A write of a general register moves nothing of its sequencer but the general registers. -/
theorem State.seq_setGreg_self (s : State) (k : Nat) (d : BitVec 5) (v : Word) :
    (s.setGreg k d v).seq k = { s.seq k with gpr := ((s.setGreg k d v).seq k).gpr } := by
  unfold State.setGreg; split <;> simp

/-- R69: a write of a general register gives it its value, and moves no other. -/
theorem State.gets_setGreg (s : State) (k : Nat) (d : BitVec 5) (v : Word) : Gets s (s.setGreg k d v) k d v := by
  constructor
  · rw [State.greg_setGreg]
    by_cases hd : d = 0#5 <;> simp [hd]
  · intro r hr
    rw [State.greg_setGreg, if_neg fun h => hr h.2.1]

/-! ### An instruction of a ready sequencer -/

/-- What a ready sequencer meets none of: an absent sequencer, a stop, a fetch fault, a bite of the hold timer. -/
theorem State.ready_iff (s : State) (q : SeqId) :
    s.ready q = true ↔ s.hasSeq q = true ∧ s.running (keyOf q) = true ∧ s.fetchCause (s.pc (keyOf q)) = none ∧
      (s.seq (keyOf q)).bitten = false := by
  simp [State.ready, State.fetchable, and_assoc]

theorem State.cheul_of_ready {s : State} {q : SeqId} (hq : s.ready q = true) (body : Nat → Result) :
    s.cheul q body = .next (s.settle (keyOf q) (body (keyOf q))) := by
  obtain ⟨hs, hr, hf, -⟩ := (s.ready_iff q).1 hq
  simp [State.cheul, hs, hr, hf]

theorem State.settle_ok_of_ready {s : State} {q : SeqId} (hq : s.ready q = true) (t : State) (p : Int) :
    s.settle (keyOf q) (.ok t p) = t.setPc (keyOf q) p := by
  obtain ⟨-, -, -, hb⟩ := (s.ready_iff q).1 hq
  simp [State.settle, hb]

/-- A general register written and the program counter moved: the shape of `WritesReg`. -/
theorem State.writesReg_setGreg_setPc (s : State) (k : Nat) (d : BitVec 5) (v : Word) (p : Int) :
    WritesReg (.next ((s.setGreg k d v).setPc k p)) s k d v p := by
  obtain ⟨hd, hr⟩ := s.gets_setGreg k d v
  refine ⟨_, rfl, hd, hr, State.pc_setPc .., ?_, s.seq_setGreg_self k d v, s.sameSeqsBut_setGreg k d v, ?_, ?_⟩
  · rw [State.setGreg_frame]; rfl
  · intro h hh
    rw [State.cell_setPc, if_neg (by simpa using hh), State.cell_setGreg]
  · intro i
    exact s.byte_setGreg k i d v

/-- An instruction that comes to a write of `v` to g[d]. -/
theorem State.writesReg_of_writes {s : State} {q : SeqId} {body : Nat → Result} {d : BitVec 5} {v : Word}
    (hq : s.ready q = true) (hb : body (keyOf q) = s.writes (keyOf q) d v) :
    WritesReg (s.cheul q body) s (keyOf q) d v (s.pc (keyOf q) + 8) := by
  rw [State.cheul_of_ready hq, hb, State.writes, State.settle_ok_of_ready hq]
  exact s.writesReg_setGreg_setPc ..

/-! ### Traps (R119, R121) -/

@[simp] theorem State.raise_cell (s : State) (r : Resource) (c v u i d0 d1 h : Nat) :
    (s.raise r c v u i d0 d1).cell h = s.cell h := rfl
@[simp] theorem State.raise_seq (s : State) (r : Resource) (c v u i d0 d1 j : Nat) :
    (s.raise r c v u i d0 d1).seq j = s.seq j := rfl

/-- A trap writes the state and the cause of its sequencer, and no other register. -/
theorem State.cell_takeTrap (s : State) (k c h : Nat) :
    (s.takeTrap k c).cell h =
      if h = causeReg k then ⟨c, c, none, none⟩ else if h = stateReg k then ⟨3, 3, none, none⟩ else s.cell h := by
  have key : (((s.setSeq k { s.seq k with waiting := none, bitten := false }).wrN (stateReg k) 3).wrN (causeReg k) c).cell h =
      if h = causeReg k then ⟨c, c, none, none⟩ else if h = stateReg k then ⟨3, 3, none, none⟩ else s.cell h := by
    simp
  unfold State.takeTrap
  split
  · rw [State.raise_cell]; exact key
  · exact key

/-- A trap ends the wait and the bite of its sequencer, and moves nothing else of any. -/
theorem State.seq_takeTrap (s : State) (k c j : Nat) :
    (s.takeTrap k c).seq j = if j = k then { s.seq k with waiting := none, bitten := false } else s.seq j := by
  have key : (s.setSeq k { s.seq k with waiting := none, bitten := false }).seq j =
      if j = k then { s.seq k with waiting := none, bitten := false } else s.seq j := State.seq_setSeq ..
  unfold State.takeTrap
  split
  · rw [State.raise_seq]; exact key
  · exact key

@[simp] theorem State.takeTrap_mem (s : State) (k c : Nat) : (s.takeTrap k c).mem = s.mem := by
  unfold State.takeTrap; split <;> rfl

theorem State.trapsWith_takeTrap (s : State) (k c : Nat) : TrapsWith (.next (s.takeTrap k c)) s k c (s.pc k) := by
  obtain ⟨hsc, hsp, hcp⟩ := statusRegs_ne k
  refine ⟨_, rfl, ?_, ?_, ?_, ?_, ?_, ?_, ?_, ?_, ?_⟩
  · simp [State.rd, State.cell_takeTrap, hsc]
  · simp [State.rd, State.cell_takeTrap]
  · simp [State.pc, State.rd, State.cell_takeTrap, hcp.symm, hsp.symm]
  · intro r
    simp [State.greg, State.seq_takeTrap]
  · simp [State.seq_takeTrap]
  · simp [State.seq_takeTrap]
  · intro j hj
    rw [State.seq_takeTrap, if_neg hj]
  · intro h hh
    simp only [List.mem_cons, List.not_mem_nil, or_false, not_or] at hh
    obtain ⟨hs, hc, -⟩ := hh
    rw [State.cell_takeTrap, if_neg hc, if_neg hs]
  · exact State.byte_of_cells (by rw [State.takeTrap_mem])

/-- An instruction that comes to a trap. -/
theorem State.trapsWith_of_trap {s : State} {q : SeqId} {body : Nat → Result} {c : Nat} (hq : s.ready q = true)
    (hb : body (keyOf q) = .trap c s) : TrapsWith (s.cheul q body) s (keyOf q) c (s.pc (keyOf q)) := by
  rw [State.cheul_of_ready hq, hb]
  exact s.trapsWith_takeTrap ..

end Sys2Proof.Machine

/-! What the compute, immediate, compare and select instructions write, on integers (R125 to R129). -/
namespace Sys2Proof.Machine
open Sys2Proof

/-! ### Results on integers (R126) -/

theorem add_eq_ofInt (x y : Word) : x + y = BitVec.ofInt 64 (x.toInt + y.toInt) := by
  rw [BitVec.ofInt_add, BitVec.ofInt_toInt, BitVec.ofInt_toInt]

theorem sub_eq_ofInt (x y : Word) : x - y = BitVec.ofInt 64 (x.toInt - y.toInt) := by
  apply BitVec.eq_of_toInt_eq
  rw [BitVec.toInt_sub, BitVec.toInt_ofInt]

theorem mul_eq_ofInt (x y : Word) : x * y = BitVec.ofInt 64 (x.toInt * y.toInt) := by
  rw [BitVec.ofInt_mul, BitVec.ofInt_toInt, BitVec.ofInt_toInt]

theorem shiftLeft_eq_ofNat (x : Word) (n : Nat) : x <<< n = BitVec.ofNat 64 (x.toNat * 2 ^ n) := by
  apply BitVec.eq_of_toNat_eq
  rw [BitVec.toNat_shiftLeft, BitVec.toNat_ofNat, Nat.shiftLeft_eq]

theorem ushiftRight_eq_ofNat (x : Word) (n : Nat) : x >>> n = BitVec.ofNat 64 (x.toNat / 2 ^ n) := by
  rw [← Nat.shiftRight_eq_div_pow, ← BitVec.toNat_ushiftRight, BitVec.ofNat_toNat, BitVec.setWidth_eq]

theorem sshiftRight_eq_ofInt (x : Word) (n : Nat) : x.sshiftRight n = BitVec.ofInt 64 (x.toInt / 2 ^ n) := by
  have h := Int.shiftRight_eq_div_pow x.toInt n
  push_cast at h
  rw [← h, ← BitVec.toInt_sshiftRight, BitVec.ofInt_toInt]

/-- MULH: the signed quotient rounds down, so `fdiv` and `/` agree. -/
theorem mulHigh_eq (u : Bool) (x y : Word) :
    mulHigh u x y = if u = false then BitVec.ofInt 64 (x.toInt * y.toInt / 2 ^ 64)
      else BitVec.ofNat 64 (x.toNat * y.toNat / 2 ^ 64) := by
  cases u with
  | false =>
    have h : sar (x.toInt * y.toInt) 64 = x.toInt * y.toInt / 2 ^ 64 := Int.fdiv_eq_ediv_of_nonneg _ (by decide)
    simp [mulHigh, h]
  | true => rfl

theorem minOf_eq (u : Bool) (x y : Word) :
    minOf u x y = if u = false then BitVec.ofInt 64 (min x.toInt y.toInt) else BitVec.ofNat 64 (min x.toNat y.toNat) := by
  cases u with
  | false =>
    simp only [minOf, BitVec.slt_iff_toInt_lt, Bool.false_eq_true, if_false, if_true]
    split
    · rw [Int.min_eq_right (by omega), BitVec.ofInt_toInt]
    · rw [Int.min_eq_left (by omega), BitVec.ofInt_toInt]
  | true =>
    simp only [minOf, BitVec.ult_iff_toNat_lt, Bool.true_eq_false, if_false, if_true]
    split
    · rw [Nat.min_eq_right (by omega), BitVec.ofNat_toNat, BitVec.setWidth_eq]
    · rw [Nat.min_eq_left (by omega), BitVec.ofNat_toNat, BitVec.setWidth_eq]

theorem maxOf_eq (u : Bool) (x y : Word) :
    maxOf u x y = if u = false then BitVec.ofInt 64 (max x.toInt y.toInt) else BitVec.ofNat 64 (max x.toNat y.toNat) := by
  cases u with
  | false =>
    simp only [maxOf, BitVec.slt_iff_toInt_lt, Bool.false_eq_true, if_false, if_true]
    split
    · rw [Int.max_eq_right (by omega), BitVec.ofInt_toInt]
    · rw [Int.max_eq_left (by omega), BitVec.ofInt_toInt]
  | true =>
    simp only [maxOf, BitVec.ult_iff_toNat_lt, Bool.true_eq_false, if_false, if_true]
    split
    · rw [Nat.max_eq_right (by omega), BitVec.ofNat_toNat, BitVec.setWidth_eq]
    · rw [Nat.max_eq_left (by omega), BitVec.ofNat_toNat, BitVec.setWidth_eq]

/-! ### The compute instructions (R125, R126) -/

/-- A compute instruction without reserved sub bits writes its result. -/
theorem State.compute_writesReg {s : State} {q : SeqId} {f : KFmt} {u : Bool} {op : Word → Word → Word} {v : Word}
    (hq : s.ready q = true) (hr : subReserved f u = false)
    (hv : op (s.greg (keyOf q) f.a) (s.operand2 (keyOf q) f) = v) :
    WritesReg (s.cheul q (s.compute f u op)) s (keyOf q) f.d v (s.pc (keyOf q) + 8) :=
  State.writesReg_of_writes hq (by simp [State.compute, hr, hv])

/-- A compute instruction with reserved sub bits traps. -/
theorem State.compute_trapsWith {s : State} {q : SeqId} {f : KFmt} {u : Bool} {op : Word → Word → Word}
    (hq : s.ready q = true) (hr : subReserved f u = true) :
    TrapsWith (s.cheul q (s.compute f u op)) s (keyOf q) 0x02 (s.pc (keyOf q)) :=
  State.trapsWith_of_trap hq (by simp [State.compute, hr])

/-- Settles O3: each instruction is `State.compute` at its operation, whose result on words is the one on integers. -/
theorem computeWritesItsResultOrTraps : Obligations.ComputeWritesItsResultOrTraps := by
  refine ⟨fun q f s hq => ⟨fun hf => ?_, fun hf => ?_⟩, fun q f s hq => ⟨fun hf => ?_, fun hf => ?_⟩⟩
  · have hr : subReserved f false = false := by simpa [subReserved] using hf
    exact ⟨State.compute_writesReg hq hr (add_eq_ofInt ..), State.compute_writesReg hq hr (sub_eq_ofInt ..),
      State.compute_writesReg hq hr (mul_eq_ofInt ..), State.compute_writesReg hq hr rfl,
      State.compute_writesReg hq hr rfl, State.compute_writesReg hq hr rfl,
      State.compute_writesReg hq hr (shiftLeft_eq_ofNat ..), State.compute_writesReg hq hr (ushiftRight_eq_ofNat ..),
      State.compute_writesReg hq hr (sshiftRight_eq_ofInt ..)⟩
  · have hr : subReserved f true = false := by simpa [subReserved] using hf
    exact ⟨State.compute_writesReg hq hr (mulHigh_eq ..), State.compute_writesReg hq hr (minOf_eq ..),
      State.compute_writesReg hq hr (maxOf_eq ..)⟩
  · have hr : subReserved f false = true := by simpa [subReserved] using hf
    have trap (op : Word → Word → Word) := State.compute_trapsWith (op := op) hq hr
    exact ⟨trap _, trap _, trap _, trap _, trap _, trap _, trap _, trap _, trap _⟩
  · have hr : subReserved f true = true := by simpa [subReserved] using hf
    have trap (op : Word → Word → Word) := State.compute_trapsWith (op := op) hq hr
    exact ⟨trap _, trap _, trap _⟩

/-! ### Immediates, compares and selects (R127 to R129) -/

theorem highImmediate_eq_ofNat (x : Word) (imm : BitVec 43) :
    highImmediate x imm = BitVec.ofNat 64 (x.toNat % 2 ^ 43 + imm.toNat % 2 ^ 21 * 2 ^ 43) := by
  apply BitVec.eq_of_toNat_eq
  have h := Nat.shiftLeft_add_eq_or_of_lt (Nat.mod_lt x.toNat (Nat.two_pow_pos 43)) (imm.toNat % 2 ^ 21)
  rw [highImmediate, BitVec.toNat_append, BitVec.toNat_setWidth, BitVec.toNat_setWidth, ← h, BitVec.toNat_ofNat,
    Nat.shiftLeft_eq]
  omega

theorem execAddi_writesReg {s : State} {q : SeqId} (f : JFmt) (hq : s.ready q = true) :
    WritesReg (execAddi q f s) s (keyOf q) f.d (s.greg (keyOf q) f.a + f.imm.signExtend 64) (s.pc (keyOf q) + 8) :=
  State.writesReg_of_writes hq rfl

theorem execLdi_writesReg {s : State} {q : SeqId} (f : JFmt) (hq : s.ready q = true) :
    WritesReg (execLdi q f s) s (keyOf q) f.d (f.imm.signExtend 64) (s.pc (keyOf q) + 8) :=
  State.writesReg_of_writes hq rfl

theorem execLdhi_writesReg {s : State} {q : SeqId} (f : JFmt) (hq : s.ready q = true) :
    WritesReg (execLdhi q f s) s (keyOf q) f.d
      (BitVec.ofNat 64 ((s.greg (keyOf q) f.a).toNat % 2 ^ 43 + f.imm.toNat % 2 ^ 21 * 2 ^ 43)) (s.pc (keyOf q) + 8) :=
  State.writesReg_of_writes hq (by rw [highImmediate_eq_ofNat])

/-- A SEL without reserved sub bits writes one of its operands. -/
theorem execSel_writesReg {s : State} {q : SeqId} {f : KFmt} (hq : s.ready q = true) (hf : f.sub.toNat < 32) :
    WritesReg (execSel q f s) s (keyOf q) f.d
      (if s.greg (keyOf q) (f.sub.setWidth 5) ≠ 0 then s.greg (keyOf q) f.a else s.greg (keyOf q) f.b)
      (s.pc (keyOf q) + 8) :=
  State.writesReg_of_writes hq (if_neg (by omega))

/-- A SEL with reserved sub bits traps. -/
theorem execSel_trapsWith {s : State} {q : SeqId} {f : KFmt} (hq : s.ready q = true) (hf : 32 ≤ f.sub.toNat) :
    TrapsWith (execSel q f s) s (keyOf q) 0x02 (s.pc (keyOf q)) :=
  State.trapsWith_of_trap hq (if_pos hf)

/-- A CMP of an assigned condition writes whether it holds. -/
theorem execCmp_writesReg {s : State} {q : SeqId} {f : KFmt} {b : Bool} (hq : s.ready q = true) (hf : f.sub.toNat < 16)
    (hb : cmpHolds (f.sub.toNat / 2) (s.greg (keyOf q) f.a) (s.operand2 (keyOf q) f) = some b) :
    WritesReg (execCmp q f s) s (keyOf q) f.d (if b then 1 else 0) (s.pc (keyOf q) + 8) :=
  State.writesReg_of_writes hq (by simp only [hb]; rw [if_neg (by omega)])

/-- Conditions 6 and up are reserved. -/
theorem cmpHolds_reserved {c : Nat} (h : 6 ≤ c) (x y : Word) : cmpHolds c x y = none := by
  obtain ⟨n, rfl⟩ := Nat.exists_eq_add_of_le' h
  rfl

/-- A CMP of a reserved condition, or with reserved sub bits, traps. -/
theorem execCmp_trapsWith {s : State} {q : SeqId} {f : KFmt} (hq : s.ready q = true) (hf : 12 ≤ f.sub.toNat) :
    TrapsWith (execCmp q f s) s (keyOf q) 0x02 (s.pc (keyOf q)) :=
  State.trapsWith_of_trap hq (by
    have h := cmpHolds_reserved (c := f.sub.toNat / 2) (by omega) (s.greg (keyOf q) f.a) (s.operand2 (keyOf q) f)
    simp only [h, ite_self])

/-- Settles O4: a condition of CMP on words is the condition on their values. -/
theorem immediateCompareSelectWriteTheirResult : Obligations.ImmediateCompareSelectWriteTheirResult := by
  intro q j f s hq k p x y holds
  have cmp (c : Nat) (b : Bool) (hc : c < 8) (hb : cmpHolds c x y = some b) (h : f.sub.toNat / 2 = c) :
      WritesReg (exec (.cmp q f) s) s k f.d (holds b) p :=
    execCmp_writesReg hq (by omega) (by rw [h]; exact hb)
  refine ⟨execAddi_writesReg j hq, execLdi_writesReg j hq, execLdhi_writesReg j hq, cmp 0 _ (by decide) ?_,
    cmp 1 _ (by decide) ?_, cmp 2 _ (by decide) ?_, cmp 3 _ (by decide) ?_, cmp 4 _ (by decide) ?_,
    cmp 5 _ (by decide) ?_, execSel_writesReg hq, execCmp_trapsWith hq, execSel_trapsWith hq⟩
  · rfl
  · simp [cmpHolds, bne, Bool.beq_eq_decide_eq]
  · rw [cmpHolds, BitVec.slt_eq_decide]
  · rw [cmpHolds, BitVec.sle_eq_decide]
  · rw [cmpHolds, BitVec.ult_eq_decide]
  · rw [cmpHolds, BitVec.ule_eq_decide]

end Sys2Proof.Machine

/-! What LOG writes: the bytes of a record in the log's ring, and the registers that a record moves (R167, R168, R567, R568). -/
namespace Sys2Proof.Machine
open Sys2Proof

/-! ### Bytes in a table -/

@[simp] theorem leBytes_length (n v : Nat) : (leBytes n v).length = n := by
  induction n generalizing v with
  | zero => rfl
  | succ n ih => rw [leBytes, List.length_cons, ih]

/-- Bytes written into a table read back. -/
theorem Tab.getBytes_putBytes (t : Tab Byte) (off : Nat) (b : Bytes) :
    Tab.getBytes (Tab.putBytes t off b) off b.length = b := by
  apply List.ext_getElem
  · simp [Tab.getBytes]
  · intro i hi hb
    have hget := Tab.get_putBytes t off b (off + i)
    rw [if_pos (by omega), Nat.add_sub_cancel_left, List.getD_eq_getElem?_getD, List.getElem?_eq_getElem hb,
      Option.getD_some] at hget
    simpa [Tab.getBytes] using hget

/-! ### A record (R567, R568) -/

@[simp] theorem recordBytes_length (n lvl unit inst cause before depth d0 d1 time : Nat) :
    (recordBytes n lvl unit inst cause before depth d0 d1 time).length = 32 := by simp [recordBytes]

/-- The number that names a sequencer in its unit: 0 for the marshal, the cluster's for a cluster sequencer. -/
theorem seqInst_eq (k : Nat) : seqInst k = k - 1 := by
  unfold seqInst; split <;> omega

/-- The bytes of a record without severities. -/
theorem recordBytes_noSeverity (n lvl unit inst cause d0 d1 time : Nat) :
    recordBytes n lvl unit inst cause 0 0 d0 d1 time =
      leBytes 4 n ++ leBytes 1 lvl ++ leBytes 1 unit ++ leBytes 2 (inst % 4096) ++ leBytes 2 cause ++ [0, 0] ++
        leBytes 4 d0 ++ leBytes 8 d1 ++ leBytes 8 time := by
  have h : leBytes 1 0 ++ leBytes 1 0 = [0, 0] := rfl
  rw [recordBytes, List.append_assoc _ (leBytes 1 0) (leBytes 1 0), h]

/-! ### Interrupts and counts -/

@[simp] theorem State.irq_sq (s : State) (v : Nat) : (s.irq v).sq = s.sq := by simp only [State.irq]; split <;> rfl
@[simp] theorem State.irq_mem (s : State) (v : Nat) : (s.irq v).mem = s.mem := by simp only [State.irq]; split <;> rfl
@[simp] theorem State.irq_fm (s : State) (v : Nat) : (s.irq v).fm = s.fm := by simp only [State.irq]; split <;> rfl

/-- An interrupt writes the cause register alone. -/
theorem State.cell_irq_of_ne (s : State) (v : Nat) {h : Nat} (hh : h ≠ Reg.HOST_IRQ_cause) : (s.irq v).cell h = s.cell h := by
  simp only [State.irq]
  split
  · exact (State.cell_wrN ..).trans (if_neg hh)
  · rfl

/-- A count writes its own register alone. -/
theorem State.cell_bump_of_ne (s : State) (k : Nat) {h h' : Nat} (hh : h' ≠ h) : (s.bump h k).cell h' = s.cell h' :=
  (State.cell_wrN ..).trans (if_neg hh)

/-! ### What a record moves (R567, R570) -/

section
variable (s : State) (lvl unit inst cause before depth d0 d1 time : Nat)

@[simp] theorem State.record_sq : (s.record lvl unit inst cause before depth d0 d1 time).sq = s.sq := by
  simp only [State.record]
  repeat' split
  all_goals simp only [irq_sq, wrN_sq, bump_sq]

@[simp] theorem State.record_mem : (s.record lvl unit inst cause before depth d0 d1 time).mem = s.mem := by
  simp only [State.record]
  repeat' split
  all_goals simp only [irq_mem, wrN_mem, bump_mem]

/-- A record adds its 32 bytes to the ring at the head's place, and moves nothing else of the fault manager. -/
theorem State.record_fm :
    (s.record lvl unit inst cause before depth d0 d1 time).fm =
      { s.fm with
        ring := Tab.putBytes s.fm.ring (32 * (s.rdN Reg.FM_LOG_head % 1024))
          (recordBytes (s.rdN Reg.FM_LOG_head) lvl unit inst cause before depth d0 d1 time) } := by
  simp only [State.record]
  repeat' split
  all_goals simp only [irq_fm, wrN_fm, bump_fm]

end

/-- The level byte of no first record (R569): a level below 5, or the level of a program record. -/
def quietLevel (lvl : Nat) : Prop := ¬ (5 ≤ lvl % 8 ∧ !bit lvl 7)

section
variable (s : State) {lvl : Nat} (unit inst cause before depth d0 d1 time : Nat)

/-- A record that is no first record moves the head up by one. -/
theorem State.record_head (hl : quietLevel lvl) :
    (s.record lvl unit inst cause before depth d0 d1 time).rdN Reg.FM_LOG_head = (s.rdN Reg.FM_LOG_head + 1) % 2 ^ 32 := by
  simp only [State.record]
  rw [if_neg hl, State.rdN_wrN, if_pos rfl]

/-- A record that is no first record writes the log's own registers and the interrupt cause alone. -/
theorem State.record_sameRegsBut (hl : quietLevel lvl) :
    SameRegsBut s (s.record lvl unit inst cause before depth d0 d1 time)
      [Reg.FM_LOG_head, Reg.FM_LOG_tail, Reg.FM_LOG_overwritten, Reg.HOST_IRQ_cause] := by
  intro h hh
  simp only [List.mem_cons, List.not_mem_nil, or_false, not_or] at hh
  obtain ⟨hhead, htail, hover, hirq⟩ := hh
  simp only [State.record]
  rw [if_neg hl, State.cell_wrN, if_neg hhead]
  split
  · rw [State.cell_irq_of_ne _ _ hirq, State.cell_bump_of_ne _ _ hover, State.cell_wrN, if_neg htail]; rfl
  · rfl

end

/-! ### LOG (R167, R168) -/

/-- A program counter is no register that a record writes. -/
theorem pcReg_not_mem_recordRegs (k : Nat) :
    pcReg k ∉ [Reg.FM_LOG_head, Reg.FM_LOG_tail, Reg.FM_LOG_overwritten, Reg.HOST_IRQ_cause] := by
  intro h
  have units : ∀ r ∈ [Reg.FM_LOG_head, Reg.FM_LOG_tail, Reg.FM_LOG_overwritten, Reg.HOST_IRQ_cause],
      r / 0x1000000 ≠ 0x01 ∧ r / 0x1000000 < 0x20 := by decide
  obtain ⟨hm, hc⟩ := units _ h
  obtain hu | hu := pcReg_unit k <;> omega

/-- No program record is a first record (R569). -/
theorem quietLevel_program {n : Nat} (h : n < 3) : quietLevel (0x80 + n) := by
  rintro ⟨hl, -⟩
  omega

/-- The state once LOG has written its record. -/
def State.programRecord (s : State) (k : Nat) (f : KFmt) : State :=
  s.record (0x80 + f.sub.toNat) (seqUnit k) (seqInst k) 0xFFFF 0 0 f.imm.toNat (s.greg k f.a).toNat s.stampWord

@[simp] theorem State.programRecord_seq (s : State) (k j : Nat) (f : KFmt) : (s.programRecord k f).seq j = s.seq j := by
  rw [State.seq, State.programRecord, State.record_sq]; rfl

@[simp] theorem State.programRecord_greg (s : State) (k j : Nat) (f : KFmt) (r : BitVec 5) :
    (s.programRecord k f).greg j r = s.greg j r := by
  simp only [State.greg, State.programRecord_seq]

theorem State.programRecord_byte (s : State) (k i : Nat) (f : KFmt) : (s.programRecord k f).byte i = s.byte i :=
  State.byte_of_cells (by rw [State.programRecord, State.record_mem]) i

/-- A program record writes the log's own registers and the interrupt cause alone. -/
theorem State.programRecord_sameRegsBut (s : State) (k : Nat) {f : KFmt} (hf : f.sub.toNat < 3) :
    SameRegsBut s (s.programRecord k f) [Reg.FM_LOG_head, Reg.FM_LOG_tail, Reg.FM_LOG_overwritten, Reg.HOST_IRQ_cause] :=
  s.record_sameRegsBut _ _ _ _ _ _ _ _ (quietLevel_program hf)

theorem State.programRecord_pc (s : State) (k : Nat) {f : KFmt} (hf : f.sub.toNat < 3) :
    (s.programRecord k f).pc k = s.pc k := by
  rw [State.pc, State.rd, s.programRecord_sameRegsBut k hf _ (pcReg_not_mem_recordRegs k)]; rfl

/-- R568: the 32 bytes of a program record, at the head's place in the ring. -/
theorem State.programRecord_bytes (s : State) (k : Nat) (f : KFmt) :
    let n := s.rdN Reg.FM_LOG_head
    Tab.getBytes (s.programRecord k f).fm.ring (32 * (n % 1024)) 32 =
      leBytes 4 n ++ leBytes 1 (0x80 + f.sub.toNat) ++ leBytes 1 (seqUnit k) ++ leBytes 2 ((k - 1) % 4096) ++
        leBytes 2 0xFFFF ++ [0, 0] ++ leBytes 4 f.imm.toNat ++ leBytes 8 (s.greg k f.a).toNat ++ leBytes 8 s.stampWord := by
  intro n
  have h := Tab.getBytes_putBytes s.fm.ring (32 * (n % 1024))
    (recordBytes n (0x80 + f.sub.toNat) (seqUnit k) (seqInst k) 0xFFFF 0 0 f.imm.toNat (s.greg k f.a).toNat s.stampWord)
  rw [recordBytes_length, recordBytes_noSeverity, seqInst_eq] at h
  rw [State.programRecord, State.record_fm, recordBytes_noSeverity, seqInst_eq]
  exact h

/-- LOG of an assigned level and a code of 32 bits: its record, then g[d] and the program counter. -/
theorem execLog_eq {s : State} {q : SeqId} {f : KFmt} (hq : s.ready q = true) (hsub : f.sub.toNat < 3)
    (himm : f.imm.toNat < 2 ^ 32) :
    execLog q f s = .next (((s.programRecord (keyOf q) f).setGreg (keyOf q) f.d (BitVec.ofNat 64 (s.rdN Reg.FM_LOG_head))).setPc
      (keyOf q) (s.pc (keyOf q) + 8)) := by
  rw [execLog, State.cheul_of_ready hq]
  dsimp only
  rw [if_neg (by omega), State.writes, State.settle_ok_of_ready hq, State.nextPc, ← State.programRecord,
    s.programRecord_pc _ hsub]

/-- Settles O21: the record moves no sequencer, so g[d], the program counter and the log each move once. -/
theorem logWritesAProgramRecord : Obligations.LogWritesAProgramRecord := by
  intro q f s hq hsub himm k n unit
  have heq : exec (.log q f) s = _ := execLog_eq hq hsub himm
  obtain ⟨hd, hr⟩ := (s.programRecord k f).gets_setGreg k f.d (BitVec.ofNat 64 n)
  rw [heq]
  refine ⟨_, rfl, ⟨hd, fun r hne => ?_⟩, State.pc_setPc .., ?_, ?_, ?_, fun j hj => ?_, fun h hh => ?_, fun i => ?_⟩
  · exact (hr r hne).trans (s.programRecord_greg ..)
  · have hne : Reg.FM_LOG_head ≠ pcReg k := fun h => pcReg_not_mem_recordRegs k (h ▸ List.mem_cons_self ..)
    rw [State.rdN, State.rd, State.cell_setPc, if_neg hne, State.cell_setGreg]
    exact s.record_head _ _ _ _ _ _ _ _ (quietLevel_program hsub)
  · rw [State.setPc_fm, State.fm_setGreg]
    exact s.programRecord_bytes k f
  · rw [State.setPc_fm, State.fm_setGreg, State.programRecord, State.record_fm]
  · rw [State.seq_setPc, State.sameSeqsBut_setGreg _ _ _ _ j hj, State.programRecord_seq]
  · obtain ⟨hpc, hlog⟩ := not_or.1 (mt List.mem_cons.2 hh)
    rw [State.cell_setPc, if_neg hpc, State.cell_setGreg, s.programRecord_sameRegsBut k hsub h hlog]
  · exact ((s.programRecord k f).byte_setGreg k i f.d _).trans (s.programRecord_byte k i f)

end Sys2Proof.Machine
